-- ==== Sys2Proof/Word.lean ====
section
/-! DEFINITION. The word types of the WZ6214: what the manual treats as bits. Quantities with a range are Nat. -/

namespace Sys2Proof

/-- One byte: a character of the staging line, of the local port or of the configuration image. -/
abbrev Byte := BitVec 8

/-- A 16-bit item: a word of the train port, a plant signature, a CRC. -/
abbrev Word16 := BitVec 16

/-- A 32-bit unit identifier (00_scope, section 5). -/
abbrev UnitId := BitVec 32

/-- A station index, the station number minus 1 (00_scope, section 4.3). -/
abbrev Station := Fin 16

/-- A channel of the train front-end (section 10.6). -/
abbrev Channel := Fin 8

end Sys2Proof
end

