-- ==== Sys2Proof/Syntax.lean ====
section
/-! DEFINITION. The 58 commands of spec/opcode_table.json, one constructor per row, in the table's order. The table gives no row any fields: the operands are what the event brings into the part. -/

namespace Sys2Proof

/-- One character of the staging line as the receiver samples it after a falling edge (R162): the level of the
start bit at its middle, the eight data bits, the level of the stop bit. -/
structure RxChar where
  /-- the start bit was sampled dominant; recessive means a glitch -/
  startDominant : Bool
  data : Byte
  /-- the stop bit was sampled recessive; dominant means a framing fault -/
  stopRecessive : Bool
deriving DecidableEq, Repr

/-- The commands of the part. -/
inductive Instr where
  /-- R132: RESET asserted or power-on, with the levels of STN3 to STN0 and RATE1 to RATE0 -/
  | deviceReset (stn : BitVec 4) (rate : BitVec 2)
  /-- R192: the memory read of the load at device reset ends, with the bytes read and the TARIFF level -/
  | configLoadEnd (image : List Byte) (tariff : Bool)
  /-- R196, 01h: the two index bytes, `none` for a byte that LCS cut off -/
  | setIndex (item second : Option Byte)
  /-- R197, 02h: with the TARIFF level, which the flags item shows -/
  | readItem (tariff : Bool)
  /-- R200, 03h -/
  | popEvent
  /-- R200: the last byte of the record has been clocked out -/
  | popEventEnd
  /-- R198, 10h -/
  | withhold
  /-- R198, 11h RETURN -/
  | returnCmd
  /-- R157, 12h -/
  | clearTrips
  /-- R198, 13h -/
  | clearCounters
  /-- R193, 14h -/
  | reloadConfig
  /-- R196: any other operation byte -/
  | unknownCommand (op : Byte)
  /-- R194: the reading of a reload ends, with the bytes read and the TARIFF level -/
  | reloadEnd (image : List Byte) (tariff : Bool)
  /-- R111: the WITHHOLD line's new level, `true` asserted -/
  | withholdLineChange (level : Bool)
  /-- R150: the TRIP-IN line's new level, `true` asserted -/
  | tripInChange (level : Bool)
  /-- R38: the characters of a received frame -/
  | tallyReceived (rx : List RxChar)
  /-- R93 -/
  | bidReceived (rx : List RxChar)
  /-- R94 -/
  | occupiedReceived (rx : List RxChar)
  /-- R96 -/
  | yieldReceived (rx : List RxChar)
  /-- R164 -/
  | frameDiscarded (rx : List RxChar)
  /-- R59 -/
  | duplicateStation (rx : List RxChar)
  /-- R169 -/
  | ownEcho (rx : List RxChar)
  /-- R161, R167; `recessive`: for how many nanoseconds the receiver has at this moment seen the line recessive without
  a break, from the last dominant level or from device reset (log 23); 0, a line that is dominant, where it is left out -/
  | transmitBegin (recessive : Nat := 0)
  /-- R168 -/
  | contentionLost
  /-- R168 -/
  | lineFault
  /-- R6, with the TARIFF level sampled (R5) -/
  | demandPeriodEnd (tariff : Bool)
  /-- R3 -/
  | levelLost
  /-- R31 -/
  | classHoldExpiry
  /-- R46, with the index of the silent station -/
  | peerStale (station : Station)
  /-- R47, with the index of the silent station -/
  | peerDropped (station : Station)
  /-- R90 -/
  | confirmationWindowExpiry
  /-- R100 -/
  | ownHoldExpiry
  /-- R101 -/
  | heldViewExpiry
  /-- R87 -/
  | settleGapExpiry
  /-- R87 -/
  | joinWaitExpiry
  /-- R97 -/
  | claimGraceExpiry
  /-- R110 -/
  | restTimerExpiry
  /-- R113 -/
  | fillExpiry
  /-- R114 -/
  | pressurizeTimeout
  /-- R115 -/
  | qualityTimerExpiry
  /-- R115 -/
  | divertTimeout
  /-- R117 -/
  | minRunExpiry
  /-- R123 -/
  | unloadTimeout
  /-- R124 -/
  | flushExpiry
  /-- R143 -/
  | settleTimerExpiry
  /-- R145 -/
  | saturationTimerExpiry
  /-- R152 -/
  | lowSuctionExpiry
  /-- R154 -/
  | qualityTripExpiry
  /-- R155 -/
  | instrumentExpiry
  /-- R171 -/
  | tallyTimerExpiry
  /-- R179 -/
  | scanPaceExpiry
  /-- R183 -/
  | retryTimerExpiry
  /-- R178: the word the read returned -/
  | readComplete (word : Word16)
  /-- R177 -/
  | writeComplete
  /-- R182 -/
  | transactionError
  /-- R183: the word the retry read returned -/
  | retryReadComplete (word : Word16)
  /-- R168 -/
  | headerWon
  /-- R169 -/
  | lastCrcBitSent
deriving DecidableEq, Repr

end Sys2Proof
end

