-- ==== Sys2Proof/Decode.lean ====
section
/-! DEFINITION. Commands from words and from operation bytes. The part is a block: its commands are events at its pins and ports, and no row of the opcode table gives them bits, so no word spells a command. The local port alone has operation bytes (R196). -/

namespace Sys2Proof

/-- The command that an operation byte of the local port picks (R196), with the index bytes that follow it on a set
index (`none` for one cut off) and the TARIFF level at that moment (log 6). Any byte outside the table is an unknown
command. -/
def operation (op : Byte) (item second : Option Byte) (tariff : Bool) : Instr :=
  match op.toNat with
  | 0x01 => .setIndex item second
  | 0x02 => .readItem tariff
  | 0x03 => .popEvent
  | 0x10 => .withhold
  | 0x11 => .returnCmd
  | 0x12 => .clearTrips
  | 0x13 => .clearCounters
  | 0x14 => .reloadConfig
  | _ => .unknownCommand op

/-- The command a word of the table spells: none, for every word. -/
def decodeTableWord (_nbits _w : Nat) : Option Instr := none

end Sys2Proof
end

