-- ==== Sys2Proof/Config.lean ====
section
/-! DEFINITION. The parameter set a valid configuration image installs (chapter 11, section 11.7), and the two profiles. The preload section is applied once and is not part of the set in force; the TCF table has a place of its own in State (R35 keeps it through UNCONFIGURED). No value of this spec is left open after a command, so no opaque constant stands here. -/

namespace Sys2Proof

/-- The two tariff profiles (section 1.3). -/
inductive ProfileName where
  | offPeak
  | peak
deriving DecidableEq, Repr

/-- The parameters of one profile (section 1.3). -/
structure Profile where
  lTarget : Nat
  qPlantMax : Nat
  stageUpPct : Nat
  stageDownPct : Nat
  mMax : Nat
deriving DecidableEq, Repr

/-- The scaling of one channel (R184). -/
structure Scaling where
  codeLo : Nat
  codeHi : Nat
  lo : Nat
  hi : Nat
  underCode : Nat
  overCode : Nat
deriving DecidableEq, Repr

/-- The train port's settings a transaction begins with (R188). No scaling and no identity word under the
fixed settings. -/
structure PortSettings where
  setupWait : Nat
  strobeWait : Nat
  holdWait : Nat
  timeoutMs : Nat
  tScan : Nat
  mask : BitVec 8
  identity : Option Word16
  scaling : Option (Vector Scaling 6)
deriving DecidableEq, Repr

/-- The plant and train sections of a valid image. Times in seconds unless the name says otherwise. -/
structure Params where
  -- plant section
  tsCode : Nat
  filterShift : Nat
  mMin : Nat
  levelLostDelay : Nat
  tGap : Nat
  tD : Nat
  tRec : Nat
  band : Nat
  tankC : Nat
  highHigh : Nat
  lowLowLevel : Nat
  tHold : Nat
  offPeak : Profile
  peak : Profile
  -- train section
  qmaxNom : Nat
  qmin : Nat
  k1 : Nat
  k2 : Nat
  k3 : Nat
  pDisLimit : Nat
  m1 : Nat
  m2 : Nat
  m3 : Nat
  classHold : Nat
  nUp : Nat
  nDn : Nat
  tFill : Nat
  tPress : Nat
  tDivert : Nat
  tQual : Nat
  tUnload : Nat
  tFlush : Nat
  minRunMin : Nat
  minRestMin : Nat
  pRunMin : Nat
  kOk : Nat
  ki : Nat
  rQ : Nat
  rS : Nat
  sStart : Nat
  sMin : Nat
  sMax : Nat
  pHold : Nat
  settleBand : Nat
  settleTime : Nat
  satTime : Nat
  lowSuctionLimit : Nat
  tLs : Nat
  pTrip : Nat
  kTrip : Nat
  tQt : Nat
  port : PortSettings
deriving DecidableEq, Repr

/-- The parameters of the named profile. -/
def Params.profileOf (p : Params) : ProfileName → Profile
  | .offPeak => p.offPeak
  | .peak => p.peak

/-- The values of the preload section (R192). -/
structure Preload where
  runHours : Nat
  starts : Nat
  totalizer : Nat
deriving DecidableEq, Repr

end Sys2Proof
end

