-- ==== Sys2Proof/Machine/State.lean ====
section
/-! DEFINITION. State of the WZ6214 as plain data, one structure per block of the manual's block diagram, and State.reset. The roster's own entry (but for its snapshot), RUN-PERMIT, ATTN and the own keys are functions of State (log 22) and stand in Machine/Ops.lean. -/

namespace Sys2Proof.Machine

open Sys2Proof

/-! ## Time -/

/-- A running timer: the moment it was started and its full time, in ticks of 1/1024 s. A stopped timer is `none`. -/
structure Timer where
  since : Nat
  span : Nat
deriving DecidableEq, Repr

/-! ## Identity and pins -/

/-- Factory identifier and straps (00_scope, section 3). -/
structure Ident where
  uid : UnitId
  station : Station
  rate : BitVec 2
deriving DecidableEq, Repr

/-- The input lines' levels; `true` is asserted, for TARIFF high. -/
structure Pins where
  withhold : Bool
  tripIn : Bool
  tariff : Bool
deriving DecidableEq, Repr

/-! ## Demand Estimator (chapter 1) -/

/-- The level source (R3). -/
inductive LevelSource where
  | own
  | peers
  | lost
deriving DecidableEq, Repr

structure Demand where
  source : LevelSource
  level : Nat
  lostTimer : Option Timer
  lPrev : Option Nat
  d : Nat
  primed : Bool
  qReq : Nat
  profile : Option ProfileName
  periodTimer : Option Timer
  overflow : Bool
  lowLow : Bool
deriving DecidableEq, Repr

/-! ## Capability Unit (chapter 2) -/

structure Capability where
  tcf : Vector Nat 33
  temp : Nat
  qualitySub : Fin 4
  pressureSub : Fin 4
  held : Fin 4
  holdTimer : Option Timer
  fallTarget : Option (Fin 4)
  cap : Option Nat
  qmaxAvail : Nat
  unfit : Bool
deriving DecidableEq, Repr

/-! ## Peer Roster (chapter 3) -/

/-- The standing of a roster entry. -/
inductive Validity where
  | empty
  | live
  | stale
  | excluded
deriving DecidableEq, Repr

/-- The fields a TALLY carries (R175), held as received. -/
structure TallyBody where
  uid : UnitId
  stateCode : Nat
  phaseCode : Nat
  withheld : Bool
  settled : Bool
  minRunMet : Bool
  levelValid : Bool
  unfit : Bool
  holdsSlot : Bool
  health : Nat
  failures : Nat
  flow : Nat
  qmin : Nat
  qmaxAvail : Nat
  totalizer : Nat
  runHours : Nat
  starts : Nat
  signature : Word16
  level : Nat
  slotKind : Nat
  slotRemaining : Nat
deriving DecidableEq, Repr

/-- Every field 0 or clear, as in an EMPTY entry (R37). -/
def TallyBody.zero : TallyBody :=
  { uid := 0, stateCode := 0, phaseCode := 0, withheld := false, settled := false, minRunMet := false,
    levelValid := false, unfit := false, holdsSlot := false, health := 0, failures := 0, flow := 0, qmin := 0,
    qmaxAvail := 0, totalizer := 0, runHours := 0, starts := 0, signature := 0, level := 0, slotKind := 0,
    slotRemaining := 0 }

/-- A roster entry (section 3.1). `silence` is the moment of the last TALLY taken, `none` while the silence timer
is stopped. -/
structure Entry where
  validity : Validity
  tally : TallyBody
  silence : Option Nat
  snapshot : Option Nat
deriving DecidableEq, Repr

/-- An EMPTY entry (R37). -/
def Entry.none : Entry :=
  { validity := .empty, tally := TallyBody.zero, silence := Option.none, snapshot := Option.none }

structure Roster where
  entries : Vector Entry 16
  minority : Bool
deriving DecidableEq, Repr

/-! ## Staging Logic (chapter 4) -/

structure Staging where
  up : Nat
  down : Nat
  sp : Nat
deriving DecidableEq, Repr

/-! ## Slot Arbiter (chapter 5) -/

/-- Intent of a claim and kind of a holding (1 and 2 wherever coded). -/
inductive Kind where
  | start
  | stop
deriving DecidableEq, Repr

/-- The withhold cause of a bid (R67, R175). -/
inductive BidCause where
  | none
  | withheld
  | minority
deriving DecidableEq, Repr

/-- The outcome a YIELD carries (R175). -/
inductive YieldOutcome where
  | completed
  | aborted
  | tripped
  | overrun
deriving DecidableEq, Repr

/-- What is held with a view HELD by another station (R86). -/
structure HeldView where
  station : Station
  uid : UnitId
  kind : Kind
  expiry : Timer
  grace : Option Timer
  cause : BidCause
deriving DecidableEq, Repr

/-- What is held with OWN_PENDING (R86). -/
structure PendingView where
  intent : Kind
  key : Nat
  cause : BidCause
  sent : Bool
  window : Option Timer
deriving DecidableEq, Repr

/-- The own view of the transition slot (section 5.1). -/
inductive View where
  | free
  | held (h : HeldView)
  | ownPending (p : PendingView)
  | ownHeld (kind : Kind) (hold : Timer)
deriving DecidableEq, Repr

/-- The last YIELD heard (R96). -/
structure LastYield where
  station : Station
  outcome : YieldOutcome
  kind : Kind
deriving DecidableEq, Repr

structure Slot where
  view : View
  /-- the settle-gap timer; `none` when it has expired or is stopped -/
  gap : Option Timer
  joinTimer : Option Timer
  joinPassed : Bool
  lastYield : Option LastYield
deriving DecidableEq, Repr

/-! ## Train Sequencer (chapter 6) -/

/-- The train state with its phase (section 6.1). -/
inductive Train where
  | unconfigured
  | rest
  | ready
  | fill
  | pressurize
  | divert
  | running
  | unload
  | flush
  | tripped
  | withheld
  | conflict
deriving DecidableEq, Repr

/-- The valve word's four commands (R108); `true` is open or on. -/
structure Valve where
  feed : Bool
  dump : Bool
  flush : Bool
  run : Bool
deriving DecidableEq, Repr

/-- The rest timer (R110). -/
inductive RestTimer where
  | stopped
  | running (t : Timer)
  | expired
deriving DecidableEq, Repr

structure Sequencer where
  train : Train
  conflict : Bool
  valve : Valve
  phase : Option Timer
  quality : Option Timer
  minRun : Option Timer
  minRunMet : Bool
  rest : RestTimer
  /-- the UNLOAD in progress is a staged stop (R122, R123) -/
  staged : Bool
  runSeconds : Nat
  runTicks : Nat
  starts : Nat
  failures : Nat
  totalizer : Nat
  totRem : Nat
  intPoint : Option Nat
deriving DecidableEq, Repr

/-! ## Flow Trim (chapter 7) -/

inductive TrimMode where
  | off
  | trimQmin
  | trimSp
  | rampDown
deriving DecidableEq, Repr

/-- The pressure-hold state with its reason (R139). -/
inductive PressureHold where
  | clear
  | atPressure
  | channelInvalid
deriving DecidableEq, Repr

structure Trim where
  mode : TrimMode
  s : Nat
  qEff : Nat
  last : Option Nat
  hold : PressureHold
  settle : Option Timer
  settled : Bool
  sat : Option Timer
deriving DecidableEq, Repr

/-! ## Protection Latches (chapter 8) -/

/-- The nine causes, in the order of their codes 1 to 9 (section 8.1). -/
inductive Cause where
  | external
  | driveFault
  | lowSuction
  | highPressure
  | quality
  | startFail
  | portLoss
  | instrument
  | holdOverrun
deriving DecidableEq, Repr

/-- One value for each cause. -/
structure PerCause (α : Type) where
  external : α
  driveFault : α
  lowSuction : α
  highPressure : α
  quality : α
  startFail : α
  portLoss : α
  instrument : α
  holdOverrun : α
deriving DecidableEq, Repr

structure Protection where
  latches : PerCause Bool
  counts : PerCause Nat
  extFlag : Bool
  driveFlag : Bool
  highFlag : Bool
  portFlag : Bool
  lowSuction : Option Timer
  qualityTrip : Option Timer
  instrument : Option Timer
deriving DecidableEq, Repr

/-! ## Line Interface (chapter 9) -/

/-- The body of a BID with the key its header carries (R175, R88). -/
structure BidBody where
  uid : UnitId
  intent : Kind
  key : Nat
  cause : BidCause
deriving DecidableEq, Repr

/-- The body of an OCCUPIED (R175); `station` is a station number. -/
structure OccupiedBody where
  uid : UnitId
  station : Nat
  kind : Kind
  remaining : Nat
deriving DecidableEq, Repr

/-- The body of a YIELD (R175). -/
structure YieldBody where
  uid : UnitId
  outcome : YieldOutcome
  kind : Kind
deriving DecidableEq, Repr

/-- A frame of the part's own. -/
inductive TxFrame where
  | occupied (b : OccupiedBody)
  | yield (b : YieldBody)
  | bid (b : BidBody)
  | tally (b : TallyBody)
deriving DecidableEq, Repr

/-- The transmit pending set: at most one frame of each kind (R166). -/
structure PendingSet where
  tally : Option TallyBody
  bid : Option BidBody
  occupied : Option OccupiedBody
  yield : Option YieldBody
deriving DecidableEq, Repr

/-- The transmitter with the one frame it holds (R167). -/
inductive Transmitter where
  | quiet
  | wait
  | contend (f : TxFrame)
  | send (f : TxFrame)
  | echo (f : TxFrame)
deriving DecidableEq, Repr

/-- What the receiver knows of the line (R161, R162): no idle seen yet since device reset; a falling edge has ended the
idle, and what it opened has not ended; or the line is idle. -/
inductive Receiver where
  | unsettled
  | receiving
  | idle
deriving DecidableEq, Repr

structure Line where
  set : PendingSet
  tx : Transmitter
  rx : Receiver
  /-- the deferral set for the part's next beginning, in bit times (R169) -/
  deferral : Option Nat
  damage : Nat
  rxErr : Nat
  txLoss : Nat
  tally : Option Timer
  /-- the tally timer runs for its first offset (R171, R172) -/
  tallyFirst : Bool
deriving DecidableEq, Repr

/-! ## Train Port (chapter 10) -/

/-- One channel entry (R185): the last valid value and, while the channel is invalid, the moment its invalid timer
was started. The channel is valid when `invalidSince` is `none`. -/
structure ChannelEntry where
  value : Nat
  invalidSince : Option Nat
deriving DecidableEq, Repr

/-- What a transaction moves (R177). -/
inductive TxnKind where
  | read (c : Channel)
  | valve (v : Valve)
  | speed (s : Nat)
deriving DecidableEq, Repr

/-- A transaction in flight with the settings it began with (R188). -/
structure Txn where
  kind : TxnKind
  settings : PortSettings
deriving DecidableEq, Repr

/-- The port state (R176); in LOST the retry read in flight, if any, is the retry flag. -/
inductive PortState where
  | idle
  | inTransaction (t : Txn)
  | lost (retry : Option Txn)
deriving DecidableEq, Repr

structure Port where
  state : PortState
  channels : Vector ChannelEntry 8
  pendRead : Option Channel
  pointer : Channel
  pace : Option Timer
  retryTimer : Option Timer
  pendValve : Option Valve
  pendSpeed : Option Nat
  errors : Nat
deriving DecidableEq, Repr

/-! ## Loader, Local Port, Event Queue (chapter 11) -/

inductive LoaderPhase where
  | idle
  | loading
  | reloading
deriving DecidableEq, Repr

/-- The Loader (R190). The configured flag is the presence of a parameter set. -/
structure Loader where
  phase : LoaderPhase
  params : Option Params
  signature : Word16
  succeeded : Bool
deriving DecidableEq, Repr

/-- The event kinds, in the order of their codes 1 to 23 (section 11.7). -/
inductive EventKind where
  | stateChange
  | trip
  | latchCleared
  | slotWon
  | slotLost
  | slotExpired
  | peerJoined
  | peerReturned
  | peerStale
  | peerDropped
  | peerReplaced
  | signatureMismatch
  | minority
  | duplicateStation
  | levelLost
  | levelRestored
  | profileChange
  | portLost
  | portRestored
  | capacityCapped
  | pressureHold
  | configLoaded
  | configFailed
deriving DecidableEq, Repr

/-- An event record (R199); `time` in ticks, `station` a station number. -/
structure Record where
  seq : BitVec 8
  time : Nat
  loss : Bool
  kind : EventKind
  station : Nat
  detail : Nat
deriving DecidableEq, Repr

/-- What a pop transfer clocks out (R200): the empty marker, or a copy of a record and whether that record is
still in the queue. -/
inductive PopTransfer where
  | marker
  | copy (r : Record) (inQueue : Bool)
deriving DecidableEq, Repr

structure LocalPort where
  item : Byte
  second : Byte
  withholdCmd : Bool
  reply : List Byte
  pop : Option PopTransfer
deriving DecidableEq, Repr

structure EventQueue where
  records : List Record
  seq : BitVec 8
  pendingLoss : Bool
deriving DecidableEq, Repr

/-! ## The whole state -/

/-- Everything the spec gives the part, and the queue of waiting commands (the model's own). -/
structure State where
  time : Nat
  ident : Ident
  pins : Pins
  demand : Demand
  capability : Capability
  roster : Roster
  staging : Staging
  slot : Slot
  sequencer : Sequencer
  trim : Trim
  protection : Protection
  line : Line
  port : Port
  loader : Loader
  lport : LocalPort
  queue : EventQueue
  pending : List Instr
deriving DecidableEq, Repr

/-- Why the part could stop. No meaning of this model faults: every rule of the spec gives an effect or says that
nothing happens, so the type has no case. -/
inductive Fault where
deriving DecidableEq, Repr

/-- Why the model could have no meaning for a command. -/
inductive Refusal where
  /-- raised only by an arm of exec that has no meaning yet (none is left); safe: the run stops there -/
  | notModelled (mnemonic : String)
deriving DecidableEq, Repr

/-! ## Reset -/

/-- The reset valve word (R132). -/
def Valve.atRest : Valve := { feed := false, dump := true, flush := false, run := false }

/-- The same value for every cause. -/
def PerCause.all {α : Type} (a : α) : PerCause α :=
  { external := a, driveFault := a, lowSuction := a, highPressure := a, quality := a, startFail := a,
    portLoss := a, instrument := a, holdOverrun := a }

/-- The part after device reset, with its identity, straps and the levels of its lines (R18, R35, R37, R63, R85,
R106, R132, R146, R159, R174, R176, R190, R196, R202). The totalizer's integration point is absent, as outside RUNNING:
R119 and R132 give it no reset value (DESIGN CHOICE, log 30). -/
def State.afterReset (ident : Ident) (pins : Pins) : State :=
  { time := 0
    ident := ident
    pins := pins
    demand :=
      { source := .lost, level := 0, lostTimer := none, lPrev := none, d := 0, primed := false, qReq := 0,
        profile := none, periodTimer := none, overflow := false, lowLow := false }
    capability :=
      { tcf := Vector.replicate 33 0, temp := 0, qualitySub := 0, pressureSub := 0, held := 0, holdTimer := none,
        fallTarget := none, cap := none, qmaxAvail := 0, unfit := false }
    roster := { entries := Vector.replicate 16 Entry.none, minority := false }
    staging := { up := 0, down := 0, sp := 0 }
    slot := { view := .free, gap := none, joinTimer := none, joinPassed := false, lastYield := none }
    sequencer :=
      { train := .rest, conflict := false, valve := Valve.atRest, phase := none, quality := none, minRun := none,
        minRunMet := false, rest := .stopped, staged := false, runSeconds := 0, runTicks := 0, starts := 0,
        failures := 0, totalizer := 0, totRem := 0, intPoint := none }
    trim :=
      { mode := .off, s := 0, qEff := 0, last := none, hold := .clear, settle := none, settled := false,
        sat := none }
    protection :=
      { latches := PerCause.all false, counts := PerCause.all 0, extFlag := false, driveFlag := false,
        highFlag := false, portFlag := false, lowSuction := none, qualityTrip := none, instrument := none }
    line :=
      { set := { tally := none, bid := none, occupied := none, yield := none }, tx := .quiet, rx := .unsettled,
        deferral := none, damage := 0, rxErr := 0, txLoss := 0, tally := none, tallyFirst := false }
    port :=
      { state := .idle, channels := Vector.replicate 8 { value := 0, invalidSince := some 0 }, pendRead := none,
        pointer := 0, pace := none, retryTimer := none, pendValve := some Valve.atRest, pendSpeed := some 0,
        errors := 0 }
    loader := { phase := .loading, params := none, signature := 0, succeeded := false }
    lport := { item := 0, second := 1, withholdCmd := false, reply := [], pop := none }
    queue := { records := [], seq := 0, pendingLoss := false }
    pending := [] }

/-- The machine right after reset. The unit identifier, the straps and the line levels are the model's choice
(DESIGN CHOICE, logs 4 and 5): identifier 0, station 1, rate 00, WITHHOLD and TRIP-IN deasserted, TARIFF low. -/
def State.reset : State :=
  State.afterReset { uid := 0, station := 0, rate := 0 } { withhold := false, tripIn := false, tariff := false }

end Sys2Proof.Machine
end

