-- ==== Sys2Proof/Machine/Basics.lean ====
section
/-! DEFINITION. Byte order, timers, saturating and clamped arithmetic, and the codes the manual gives its names. -/

namespace Sys2Proof.Machine

open Sys2Proof

/-! ## Bytes: every field of more than one byte is stored and sent high byte first (R175, 11.1, R196) -/

/-- The number that bytes stand for, high byte first. -/
def beNat (l : List Byte) : Nat := l.foldl (fun acc b => acc * 256 + b.toNat) 0

/-- The low `n` bytes of a number, high byte first. -/
def beBytes : Nat → Nat → List Byte
  | 0, _ => []
  | n + 1, v => BitVec.ofNat 8 (v / 256 ^ n) :: beBytes n v

/-- The number in the `n` bytes at offset `off`. -/
def fieldAt (l : List Byte) (off n : Nat) : Nat := beNat ((l.drop off).take n)

/-- A flag as a byte value: 1 for set and 0 for clear (section 11.7). -/
def flagNat (b : Bool) : Nat := if b then 1 else 0

/-- Flags packed into a number, the first flag in bit 0. -/
def packFlags : List Bool → Nat
  | [] => 0
  | b :: bs => flagNat b + 2 * packFlags bs

/-! ## Arithmetic (00_scope, section 4.2) -/

/-- `x` taken within `lo` to `hi`. -/
def clampInt (lo hi x : Int) : Int := if x < lo then lo else if hi < x then hi else x

/-- A counter increased by 1 that stays at its maximum. -/
def satInc (max n : Nat) : Nat := if n < max then n + 1 else max

/-- The magnitude of a difference. -/
def absDiff (a b : Nat) : Nat := if a < b then b - a else a - b

/-! ## Timers -/

/-- Ticks in a number of whole seconds (00_scope, section 4.1). -/
def seconds (n : Nat) : Nat := n * 1024

/-- A timer started now for a full time. -/
def startTimer (now span : Nat) : Option Timer := some { since := now, span := span }

/-- A timer has expired when the time it was started for has elapsed (00_scope, section 4.3). -/
def Timer.isDue (t : Timer) (now : Nat) : Bool := decide (t.since + t.span ≤ now)

/-- Whether a timer runs and has expired. -/
def timerDue (t : Option Timer) (now : Nat) : Bool :=
  match t with
  | some t => t.isDue now
  | none => false

/-- Whole seconds remaining, truncated, 0 where stopped (section 11.7). -/
def timerLeft (t : Option Timer) (now : Nat) : Nat :=
  match t with
  | some t => (t.since + t.span - now) / 1024
  | none => 0

/-! ## Codes -/

/-- Kind and intent: 1 START, 2 STOP (R175). -/
def Kind.code : Kind → Nat
  | .start => 1
  | .stop => 2

def kindOf : Nat → Option Kind
  | 1 => some .start
  | 2 => some .stop
  | _ => none

/-- Withhold cause: 0 none, 1 withheld, 2 minority (R175). -/
def BidCause.code : BidCause → Nat
  | .none => 0
  | .withheld => 1
  | .minority => 2

def bidCauseOf : Nat → Option BidCause
  | 0 => some .none
  | 1 => some .withheld
  | 2 => some .minority
  | _ => none

/-- YIELD outcome: 1 COMPLETED, 2 ABORTED, 3 TRIPPED, 4 OVERRUN (R175). -/
def YieldOutcome.code : YieldOutcome → Nat
  | .completed => 1
  | .aborted => 2
  | .tripped => 3
  | .overrun => 4

def yieldOutcomeOf : Nat → Option YieldOutcome
  | 1 => some .completed
  | 2 => some .aborted
  | 3 => some .tripped
  | 4 => some .overrun
  | _ => none

/-- Level source: 0 OWN, 1 PEERS, 2 LOST (R3). -/
def LevelSource.code : LevelSource → Nat
  | .own => 0
  | .peers => 1
  | .lost => 2

/-- Profile: 0 OFFPEAK, 1 PEAK (R5). -/
def profileCode : ProfileName → Nat
  | .offPeak => 0
  | .peak => 1

/-- Validity: 0 EMPTY, 1 LIVE, 2 STALE, 3 EXCLUDED (section 11.7). -/
def Validity.code : Validity → Nat
  | .empty => 0
  | .live => 1
  | .stale => 2
  | .excluded => 3

/-- Train state code (section 6.1). -/
def Train.code : Train → Nat
  | .unconfigured => 0
  | .rest => 1
  | .ready => 2
  | .fill | .pressurize | .divert => 3
  | .running => 4
  | .unload | .flush => 5
  | .tripped => 6
  | .withheld => 7
  | .conflict => 8

/-- Phase code (section 6.1). -/
def Train.phaseCode : Train → Nat
  | .fill => 1
  | .pressurize => 2
  | .divert => 3
  | .unload => 4
  | .flush => 5
  | _ => 0

/-- STARTING: FILL, PRESSURIZE or DIVERT (section 6.1). -/
def Train.isStarting : Train → Bool
  | .fill | .pressurize | .divert => true
  | _ => false

/-- The states in which a reload is taken (R193). -/
def Train.mayReload : Train → Bool
  | .rest | .ready | .withheld | .tripped | .unconfigured => true
  | _ => false

/-- Flow Trim mode: 0 OFF, 1 TRIM_QMIN, 2 TRIM_SP, 3 RAMP_DOWN (R146). -/
def TrimMode.code : TrimMode → Nat
  | .off => 0
  | .trimQmin => 1
  | .trimSp => 2
  | .rampDown => 3

/-- Pressure hold: 0 clear, 1 at pressure, 2 channel invalid (R139, R146). -/
def PressureHold.code : PressureHold → Nat
  | .clear => 0
  | .atPressure => 1
  | .channelInvalid => 2

/-- Loader state: 0 IDLE, 1 LOADING, 2 RELOADING (R197). -/
def LoaderPhase.code : LoaderPhase → Nat
  | .idle => 0
  | .loading => 1
  | .reloading => 2

/-- Transmitter state: 0 QUIET, 1 WAIT, 2 CONTEND, 3 SEND, 4 ECHO (R173). -/
def Transmitter.code : Transmitter → Nat
  | .quiet => 0
  | .wait => 1
  | .contend _ => 2
  | .send _ => 3
  | .echo _ => 4

/-- View state: 0 FREE, 1 HELD, 2 OWN_PENDING, 3 OWN_HELD (R104). -/
def View.code : View → Nat
  | .free => 0
  | .held _ => 1
  | .ownPending _ => 2
  | .ownHeld _ _ => 3

/-- Whether the own station holds the slot in a view. -/
def View.isOwnHeld : View → Bool
  | .ownHeld _ _ => true
  | _ => false

/-- Whether the own station claims or holds the slot in a view. -/
def View.isOwn : View → Bool
  | .ownPending _ | .ownHeld _ _ => true
  | _ => false

/-- The valve word as it goes to the front-end: feed in bit 0, dump in bit 1, flush in bit 2, run in bit 3, bits 4
to 7 zero; a 1 is open or on (R108). -/
def Valve.word (v : Valve) : Byte := BitVec.ofNat 8 (packFlags [v.feed, v.dump, v.flush, v.run])

/-- The bits that a line rate code sends in a second (00_scope, section 3). -/
def bitsPerSecond (rate : BitVec 2) : Nat :=
  match rate.toNat with
  | 0 => 19200
  | 1 => 38400
  | 2 => 57600
  | _ => 115200

/-- A span of nanoseconds holds a number of bit times, one bit time the inverse of the line rate (R161). -/
def holdsBitTimes (rate : BitVec 2) (bits ns : Nat) : Bool := decide (bits * 1000000000 ≤ ns * bitsPerSecond rate)

/-- Port state: 0 IDLE, 1 IN_TRANSACTION, 2 LOST (R189). -/
def PortState.code : PortState → Nat
  | .idle => 0
  | .inTransaction _ => 1
  | .lost _ => 2

/-- Whether the port is LOST. -/
def PortState.isLost : PortState → Bool
  | .lost _ => true
  | _ => false

/-- Event kind codes (section 11.7). -/
def EventKind.code : EventKind → Nat
  | .stateChange => 1
  | .trip => 2
  | .latchCleared => 3
  | .slotWon => 4
  | .slotLost => 5
  | .slotExpired => 6
  | .peerJoined => 7
  | .peerReturned => 8
  | .peerStale => 9
  | .peerDropped => 10
  | .peerReplaced => 11
  | .signatureMismatch => 12
  | .minority => 13
  | .duplicateStation => 14
  | .levelLost => 15
  | .levelRestored => 16
  | .profileChange => 17
  | .portLost => 18
  | .portRestored => 19
  | .capacityCapped => 20
  | .pressureHold => 21
  | .configLoaded => 22
  | .configFailed => 23

/-! ## Causes -/

/-- Cause codes 1 to 9 (section 8.1). -/
def Cause.code : Cause → Nat
  | .external => 1
  | .driveFault => 2
  | .lowSuction => 3
  | .highPressure => 4
  | .quality => 5
  | .startFail => 6
  | .portLoss => 7
  | .instrument => 8
  | .holdOverrun => 9

/-- The causes in ascending order of code. -/
def causes : List Cause :=
  [.external, .driveFault, .lowSuction, .highPressure, .quality, .startFail, .portLoss, .instrument, .holdOverrun]

/-- The value held for a cause. -/
def PerCause.get {α : Type} (p : PerCause α) : Cause → α
  | .external => p.external
  | .driveFault => p.driveFault
  | .lowSuction => p.lowSuction
  | .highPressure => p.highPressure
  | .quality => p.quality
  | .startFail => p.startFail
  | .portLoss => p.portLoss
  | .instrument => p.instrument
  | .holdOverrun => p.holdOverrun

/-- The values with that of one cause replaced. -/
def PerCause.put {α : Type} (p : PerCause α) (c : Cause) (a : α) : PerCause α :=
  match c with
  | .external => { p with external := a }
  | .driveFault => { p with driveFault := a }
  | .lowSuction => { p with lowSuction := a }
  | .highPressure => { p with highPressure := a }
  | .quality => { p with quality := a }
  | .startFail => { p with startFail := a }
  | .portLoss => { p with portLoss := a }
  | .instrument => { p with instrument := a }
  | .holdOverrun => { p with holdOverrun := a }

/-- Whether any cause's flag is set. -/
def PerCause.any (p : PerCause Bool) : Bool :=
  p.external || p.driveFault || p.lowSuction || p.highPressure || p.quality || p.startFail || p.portLoss ||
    p.instrument || p.holdOverrun

/-- The flags as a number, cause code n in bit n - 1 (R196, section 11.7). -/
def PerCause.bits (p : PerCause Bool) : Nat := packFlags (causes.map p.get)

/-! ## Stations and channels -/

/-- The station indices in ascending order. -/
def stations : List Station := [0, 1, 2, 3, 4, 5, 6, 7, 8, 9, 10, 11, 12, 13, 14, 15]

/-- The channels in ascending order. -/
def channelList : List Channel := [0, 1, 2, 3, 4, 5, 6, 7]

/-- The station number of an index (00_scope, section 4.3). -/
def stationNumber (i : Station) : Nat := i.val + 1

end Sys2Proof.Machine
end

