-- ==== Sys2Proof/Machine/Frames.lean ====
section
/-! DEFINITION. Frames of the staging line: CRC, layouts (R163, R175), what the receiver takes from the sampled characters (R162), the checks of acceptance (R164), and the checks of bodies by the Roster (R39) and the Arbiter (R92). -/

namespace Sys2Proof.Machine

open Sys2Proof

/-! ## CRC (R163) -/

/-- One shift of the CRC register with generator x^16 + x^12 + x^5 + 1. -/
def crcShift (r : Word16) : Word16 := if r.msb then (r <<< 1) ^^^ 0x1021#16 else r <<< 1

/-- One character, most significant bit first. -/
def crcByte (r : Word16) (b : Byte) : Word16 :=
  crcShift <| crcShift <| crcShift <| crcShift <| crcShift <| crcShift <| crcShift <| crcShift <|
    r ^^^ (b.setWidth 16 <<< 8)

/-- The CRC over characters, initial value FFFFh, no reflection and no inversion. -/
def crc (l : List Byte) : Word16 := l.foldl crcByte 0xFFFF#16

/-! ## Characters and acceptance -/

/-- A frame's header with the body that follows it (R163). -/
structure RxFrame where
  cls : Nat
  key : Nat
  station : Station
  body : List Byte
deriving DecidableEq, Repr

/-- What the receiver makes of the characters between a first edge and the next idle (R162, R164). -/
inductive Reception where
  /-- no character was taken, so no frame began -/
  | nothing
  /-- a frame that fails a check of R164 -/
  | discarded
  | accepted (f : RxFrame)
deriving DecidableEq, Repr

/-- The body characters of each class (R163). -/
def bodyLength : Nat → Option Nat
  | 1 => some 8
  | 2 => some 6
  | 3 => some 6
  | 4 => some 6
  | 8 => some 36
  | _ => none

/-- The unit identifier is the first four characters of the body, in every class (R165). -/
def RxFrame.uid (f : RxFrame) : UnitId := BitVec.ofNat 32 (fieldAt f.body 0 4)

/-- The header of four characters: class, key and station index, most significant first (R163). -/
def headerChars (cls key : Nat) (station : Station) : List Byte :=
  beBytes 4 (cls * 2 ^ 28 + key * 16 + station.val)

/-- A frame as characters: header, length, body, CRC (R163). -/
def frameChars (cls key : Nat) (station : Station) (body : List Byte) : List Byte :=
  let covered := headerChars cls key station ++ [BitVec.ofNat 8 body.length] ++ body
  covered ++ beBytes 2 (crc covered).toNat

/-- The checks of R164 on a frame's characters, but for framing faults. -/
def acceptChars (l : List Byte) : Option RxFrame :=
  let header := fieldAt l 0 4
  let len := fieldAt l 4 1
  if 7 ≤ l.length ∧ bodyLength (header / 2 ^ 28) = some len ∧ len ≤ 40 ∧ l.length = 7 + len ∧
      (crc (l.take (5 + len))).toNat = fieldAt l (5 + len) 2 then
    some
      { cls := header / 2 ^ 28
        key := header / 16 % 2 ^ 24
        station := Fin.ofNat 16 header
        body := (l.drop 5).take len }
  else none

/-- The receiver's judgement (R162, R164): characters with a recessive start bit are glitches and are not taken;
a dominant stop bit is a framing fault. -/
def receive (rx : List RxChar) : Reception :=
  let taken := rx.filter (·.startDominant)
  if taken.isEmpty then .nothing
  else if taken.all (·.stopRecessive) then
    match acceptChars (taken.map (·.data)) with
    | some f => .accepted f
    | none => .discarded
  else .discarded

/-- A character without glitch or fault. -/
def cleanChar (b : Byte) : RxChar := { startDominant := true, data := b, stopRecessive := true }

/-! ## Bodies (R175) -/

/-- The flags character of a TALLY. -/
def TallyBody.flags (t : TallyBody) : Nat :=
  packFlags [t.withheld, t.settled, t.minRunMet, t.levelValid, t.unfit, t.holdsSlot]

/-- The 36 body characters of a TALLY; the four fill characters are 0. -/
def TallyBody.chars (t : TallyBody) : List Byte :=
  beBytes 4 t.uid.toNat ++ beBytes 1 t.stateCode ++ beBytes 1 t.phaseCode ++ beBytes 1 t.flags ++
    beBytes 1 t.health ++ beBytes 1 t.failures ++ beBytes 2 t.flow ++ beBytes 2 t.qmin ++ beBytes 2 t.qmaxAvail ++
    beBytes 4 t.totalizer ++ beBytes 4 t.runHours ++ beBytes 2 t.starts ++ beBytes 2 t.signature.toNat ++
    beBytes 2 t.level ++ beBytes 1 t.slotKind ++ beBytes 2 t.slotRemaining ++ beBytes 4 0

def BidBody.chars (b : BidBody) : List Byte :=
  beBytes 4 b.uid.toNat ++ beBytes 1 b.intent.code ++ beBytes 1 b.cause.code

def OccupiedBody.chars (b : OccupiedBody) : List Byte :=
  beBytes 4 b.uid.toNat ++ beBytes 1 b.station ++ beBytes 1 b.kind.code ++ beBytes 2 b.remaining

def YieldBody.chars (b : YieldBody) : List Byte :=
  beBytes 4 b.uid.toNat ++ beBytes 1 b.outcome.code ++ beBytes 1 b.kind.code

/-- The class of a frame: BID-STOP is 3 and BID-START 4 (R163, R88). -/
def TxFrame.cls : TxFrame → Nat
  | .occupied _ => 1
  | .yield _ => 2
  | .bid b => match b.intent with
    | .stop => 3
    | .start => 4
  | .tally _ => 8

/-- The key is that of a BID and 0 in every other class (R163). -/
def TxFrame.key : TxFrame → Nat
  | .bid b => b.key
  | _ => 0

def TxFrame.body : TxFrame → List Byte
  | .occupied b => b.chars
  | .yield b => b.chars
  | .bid b => b.chars
  | .tally b => b.chars

/-- An own frame as it goes onto the line. -/
def TxFrame.chars (f : TxFrame) (own : Station) : List Byte := frameChars f.cls f.key own f.body

/-- The fields of a TALLY body as received; bits 6 and 7 of the flags and the fill are not examined. -/
def tallyOf (b : List Byte) : TallyBody :=
  let flags := fieldAt b 6 1
  { uid := BitVec.ofNat 32 (fieldAt b 0 4)
    stateCode := fieldAt b 4 1
    phaseCode := fieldAt b 5 1
    withheld := flags.testBit 0
    settled := flags.testBit 1
    minRunMet := flags.testBit 2
    levelValid := flags.testBit 3
    unfit := flags.testBit 4
    holdsSlot := flags.testBit 5
    health := fieldAt b 7 1
    failures := fieldAt b 8 1
    flow := fieldAt b 9 2
    qmin := fieldAt b 11 2
    qmaxAvail := fieldAt b 13 2
    totalizer := fieldAt b 15 4
    runHours := fieldAt b 19 4
    starts := fieldAt b 23 2
    signature := BitVec.ofNat 16 (fieldAt b 25 2)
    level := fieldAt b 27 2
    slotKind := fieldAt b 29 1
    slotRemaining := fieldAt b 30 2 }

/-- The range check of R39 on the coded fields. -/
def TallyBody.inRange (t : TallyBody) : Bool :=
  decide (t.stateCode ≤ 7) && decide (t.phaseCode ≤ 5) && decide (t.health ≤ 3) && decide (t.failures ≤ 63) &&
    decide (t.level ≤ 10000) && decide (t.slotKind ≤ 2) && (t.holdsSlot == decide (t.slotKind ≠ 0))

/-- A BID that passes the check of R92: the intent agrees with the class and the cause is coded. An intent that is
neither START nor STOP, of which R92 says nothing, fails the check as well (DESIGN CHOICE, log 45). -/
def bidOf (f : RxFrame) : Option BidBody :=
  match kindOf (fieldAt f.body 4 1), bidCauseOf (fieldAt f.body 5 1) with
  | some k, some c =>
    if (k = .start ∧ f.cls = 4) ∨ (k = .stop ∧ f.cls = 3) then
      some { uid := f.uid, intent := k, key := f.key, cause := c }
    else none
  | _, _ => none

/-- An OCCUPIED that passes the check of R92: the holder is the sender and the kind is coded. -/
def occupiedOf (f : RxFrame) : Option OccupiedBody :=
  match kindOf (fieldAt f.body 5 1) with
  | some k =>
    if fieldAt f.body 4 1 = stationNumber f.station then
      some { uid := f.uid, station := fieldAt f.body 4 1, kind := k, remaining := fieldAt f.body 6 2 }
    else none
  | none => none

/-- A YIELD that passes the check of R92. -/
def yieldOf (f : RxFrame) : Option YieldBody :=
  match yieldOutcomeOf (fieldAt f.body 4 1), kindOf (fieldAt f.body 5 1) with
  | some o, some k => some { uid := f.uid, outcome := o, kind := k }
  | _, _ => none

end Sys2Proof.Machine
end

