-- ==== Sys2Proof/Machine/Image.lean ====
section
/-! DEFINITION. The configuration image: its bytes as the Loader reads them (R190), its fields (section 11.7), the checks in their order (R191), and the fixed port settings of a part without a parameter set (R188). -/

namespace Sys2Proof.Machine

open Sys2Proof

/-- The 271 bytes the Loader reads; a memory that does not drive MDI reads FFh (R190; log 8). -/
def imageBytes (l : List Byte) : List Byte := (l ++ List.replicate 271 0xFF#8).take 271

/-- The data bytes of a section. -/
def sectionData (l : List Byte) (off len : Nat) : List Byte := (l.drop off).take len

/-- A section's CRC check (R191): the CRC over its data bytes equals the two bytes that follow them. -/
def sectionOk (l : List Byte) (off len : Nat) : Bool :=
  (crc (sectionData l off len)).toNat == fieldAt l (off + len) 2

/-- One profile's fields, from its offset. -/
def profileAt (l : List Byte) (off : Nat) : Profile :=
  { lTarget := fieldAt l off 2
    qPlantMax := fieldAt l (off + 2) 2
    stageUpPct := fieldAt l (off + 4) 1
    stageDownPct := fieldAt l (off + 5) 1
    mMax := fieldAt l (off + 6) 1 }

/-- One channel's scaling, twelve bytes from its offset. -/
def scalingAt (l : List Byte) (off : Nat) : Scaling :=
  { codeLo := fieldAt l off 2
    codeHi := fieldAt l (off + 2) 2
    lo := fieldAt l (off + 4) 2
    hi := fieldAt l (off + 6) 2
    underCode := fieldAt l (off + 8) 2
    overCode := fieldAt l (off + 10) 2 }

/-- The plant section begins at byte 4 of the image, the train section at 41, the TCF section at 191 and the
preload section at 259 (section 11.7). -/
def paramsOf (l : List Byte) : Params :=
  { tsCode := fieldAt l 4 1
    filterShift := fieldAt l 5 1
    mMin := fieldAt l 6 1
    levelLostDelay := fieldAt l 7 1
    tGap := fieldAt l 8 1
    tD := fieldAt l 9 2
    tRec := fieldAt l 11 4
    band := fieldAt l 15 2
    tankC := fieldAt l 17 2
    highHigh := fieldAt l 19 2
    lowLowLevel := fieldAt l 21 2
    tHold := fieldAt l 23 2
    offPeak := profileAt l 25
    peak := profileAt l 32
    qmaxNom := fieldAt l 41 2
    qmin := fieldAt l 43 2
    k1 := fieldAt l 45 2
    k2 := fieldAt l 47 2
    k3 := fieldAt l 49 2
    pDisLimit := fieldAt l 51 2
    m1 := fieldAt l 53 2
    m2 := fieldAt l 55 2
    m3 := fieldAt l 57 2
    classHold := fieldAt l 59 2
    nUp := fieldAt l 61 1
    nDn := fieldAt l 62 1
    tFill := fieldAt l 63 2
    tPress := fieldAt l 65 2
    tDivert := fieldAt l 67 2
    tQual := fieldAt l 69 2
    tUnload := fieldAt l 71 2
    tFlush := fieldAt l 73 2
    minRunMin := fieldAt l 75 1
    minRestMin := fieldAt l 76 1
    pRunMin := fieldAt l 77 2
    kOk := fieldAt l 79 2
    ki := fieldAt l 81 1
    rQ := fieldAt l 82 2
    rS := fieldAt l 84 2
    sStart := fieldAt l 86 2
    sMin := fieldAt l 88 2
    sMax := fieldAt l 90 2
    pHold := fieldAt l 92 2
    settleBand := fieldAt l 94 2
    settleTime := fieldAt l 96 2
    satTime := fieldAt l 98 2
    lowSuctionLimit := fieldAt l 100 2
    tLs := fieldAt l 102 1
    pTrip := fieldAt l 103 2
    kTrip := fieldAt l 105 2
    tQt := fieldAt l 107 2
    port :=
      { setupWait := fieldAt l 109 1 / 16
        strobeWait := fieldAt l 109 1 % 16
        holdWait := fieldAt l 110 1 % 16
        timeoutMs := fieldAt l 111 1
        tScan := fieldAt l 112 2
        mask := BitVec.ofNat 8 (fieldAt l 114 1)
        identity := some (BitVec.ofNat 16 (fieldAt l 115 2))
        scaling := some (Vector.ofFn fun i : Fin 6 => scalingAt l (117 + 12 * i.val)) } }

/-- The 33 factors of the TCF section. -/
def tcfOf (l : List Byte) : Vector Nat 33 := Vector.ofFn fun i : Fin 33 => fieldAt l (191 + 2 * i.val) 2

/-- The preload section. -/
def preloadOf (l : List Byte) : Preload :=
  { runHours := fieldAt l 259 4, starts := fieldAt l 263 2, totalizer := fieldAt l 265 4 }

/-- A value within a range. -/
def within (lo hi n : Nat) : Bool := decide (lo ≤ n) && decide (n ≤ hi)

def profileInRange (p : Profile) : Bool :=
  within 1000 9500 p.lTarget && within 50 100 p.stageUpPct && within 50 100 p.stageDownPct && within 1 16 p.mMax

/-- The ranges of the plant section (chapters 1, 3, 4, 5). -/
def plantInRange (p : Params) : Bool :=
  within 1 8 p.tsCode && within 0 7 p.filterShift && within 0 16 p.mMin && within 1 60 p.levelLostDelay &&
    within 0 120 p.tGap && within 10 600 p.tD && within 600 86400 p.tRec && within 0 500 p.band &&
    within 1 65535 p.tankC && within 9000 10000 p.highHigh && within 0 3000 p.lowLowLevel &&
    within 60 1800 p.tHold && profileInRange p.offPeak && profileInRange p.peak

/-- The ranges of the train section (chapters 2, 4, 6, 7, 8, 10). A bound that names another field is a cross
check (log 18). -/
def trainInRange (p : Params) : Bool :=
  within 2 65535 p.qmaxNom && within 1 65534 p.qmin && within 10 3600 p.classHold && within 1 15 p.nUp &&
    within 1 15 p.nDn && within 10 600 p.tFill && within 30 600 p.tPress && within 60 1800 p.tDivert &&
    within 5 300 p.tQual && within 10 300 p.tUnload && within 60 1200 p.tFlush && within 1 255 p.minRunMin &&
    within 1 255 p.minRestMin && within 1 255 p.ki && within 1 5000 p.rQ && within 1 1000 p.rS &&
    within 1 9999 p.sStart && within 0 9999 p.sMin && within 0 10000 p.sMax && within 1 1000 p.settleBand &&
    within 5 300 p.settleTime && within 10 600 p.satTime && within 1 60 p.tLs && within 5 300 p.tQt &&
    within 1 255 p.port.timeoutMs && within 8 1024 p.port.tScan && p.port.mask.getLsbD 1 &&
    p.port.mask.getLsbD 2 && p.port.mask.getLsbD 4 && p.port.mask.getLsbD 6

/-- Check 7 (R191): every field within its range, the high four bits of the HOLD-wait byte 0, every TCF factor
0 to 2,047. -/
def rangesOk (l : List Byte) : Bool :=
  plantInRange (paramsOf l) && trainInRange (paramsOf l) && decide (fieldAt l 110 1 / 16 = 0) &&
    (tcfOf l).toList.all (within 0 2047)

/-- A channel's scaling passes its cross check (R191). -/
def scalingOk (s : Scaling) : Bool :=
  decide (s.codeLo < s.codeHi) && decide (s.lo < s.hi) && decide (s.underCode < s.overCode)

/-- Check 8 (R191): the cross checks. -/
def crossChecksOk (p : Params) : Bool :=
  decide (p.offPeak.stageDownPct ≤ p.offPeak.stageUpPct) && decide (p.peak.stageDownPct ≤ p.peak.stageUpPct) &&
    decide (p.tFill + p.tPress + p.tDivert < p.tHold) && decide (p.qmin < p.qmaxNom) &&
    decide (p.k1 < p.k2) && decide (p.k2 < p.k3) && decide (p.m2 < p.m1) && decide (p.m3 < p.m2) &&
    decide (p.sStart ≤ p.sMin) && decide (p.sMin < p.sMax) && decide (p.sMax ≤ 10000) &&
    (match p.port.scaling with
      | some v => v.toList.all scalingOk
      | none => false)

/-- What a valid image installs. -/
structure Image where
  params : Params
  tcf : Vector Nat 33
  preload : Preload
  signature : Word16
deriving DecidableEq, Repr

/-- The outcome of the checks: a valid image, or the reason code of the first check that fails. -/
inductive ImageCheck where
  | valid (i : Image)
  | failed (reason : Nat)
deriving DecidableEq, Repr

/-- The checks of R191 in their order. -/
def checkImage (bytes : List Byte) : ImageCheck :=
  let l := imageBytes bytes
  if fieldAt l 0 2 ≠ 0x5E14 then .failed 1
  else if fieldAt l 2 2 ≠ 271 then .failed 2
  else if sectionOk l 4 35 = false then .failed 3
  else if sectionOk l 41 148 = false then .failed 4
  else if sectionOk l 191 66 = false then .failed 5
  else if sectionOk l 259 10 = false then .failed 6
  else if rangesOk l = false then .failed 7
  else if crossChecksOk (paramsOf l) = false then .failed 8
  else
    .valid
      { params := paramsOf l, tcf := tcfOf l, preload := preloadOf l,
        signature := crc (sectionData l 4 35) }

/-- The fixed settings of the port without a parameter set (R188). -/
def fixedPortSettings : PortSettings :=
  { setupWait := 0, strobeWait := 0, holdWait := 0, timeoutMs := 10, tScan := 32, mask := 0xFF#8,
    identity := none, scaling := none }

end Sys2Proof.Machine
end

