-- ==== Sys2Proof/Machine/Ops.lean ====
section
/-! DEFINITION. The shared operations: what the Loader supplies, the own state and the own entry, keys, event records, the pending set and the transmitter, the port's pending writes and its arbiter. -/

namespace Sys2Proof.Machine

open Sys2Proof

/-! ## What the Loader supplies (R195) -/

/-- The end of configuration load has passed since device reset (R192). -/
def State.loadEnded (s : State) : Bool := !decide (s.loader.phase = .loading)

/-- The configured flag. -/
def State.configured (s : State) : Bool := s.loader.params.isSome

/-- T_s in ticks: the code × 250 ms, 1,000 ms without a parameter set (R191, R195). -/
def State.tS (s : State) : Nat :=
  match s.loader.params with
  | some p => p.tsCode * 256
  | none => 1024

/-- T_hold in seconds, 600 s without a parameter set (R195). -/
def State.tHold (s : State) : Nat :=
  match s.loader.params with
  | some p => p.tHold
  | none => 600

/-- T_gap in seconds, 30 s without a parameter set (R195). -/
def State.tGap (s : State) : Nat :=
  match s.loader.params with
  | some p => p.tGap
  | none => 30

/-- The settings the port's next transaction begins with (R188). -/
def State.portSettings (s : State) : PortSettings :=
  match s.loader.params with
  | some p => p.port
  | none => fixedPortSettings

/-- The parameters of the active profile, if one is active. -/
def State.activeProfile (s : State) : Option Profile :=
  match s.loader.params, s.demand.profile with
  | some p, some n => some (p.profileOf n)
  | _, _ => none

/-- The confirmation window of 150 ms, 153.6 ticks, taken as 154 (R89; log 9). -/
def confirmationTicks : Nat := 154

/-! ## Channels (R185) -/

/-- A channel's current value: its last valid value, valid or not. -/
def State.chan (s : State) (c : Channel) : Nat := s.port.channels[c].value

/-- Whether a channel is valid. -/
def State.chanValid (s : State) (c : Channel) : Bool := s.port.channels[c].invalidSince.isNone

/-- Bit 0 of the drive status word (R186). -/
def State.driveRunning (s : State) : Bool := (s.chan 6).testBit 0

/-- Bit 1 of the drive status word (R186). -/
def State.driveFault (s : State) : Bool := (s.chan 6).testBit 1

/-! ## Own state -/

/-- The own state's code: CONFLICT while the conflict mark is set, else the train state's (R107). -/
def State.ownCode (s : State) : Nat := if s.sequencer.conflict then 8 else s.sequencer.train.code

/-- Withheld: one or more of the three withhold causes hold (R111). -/
def State.withheld (s : State) : Bool := s.pins.withhold || s.lport.withholdCmd || s.roster.minority

/-- The withhold cause of a STOP bid (R67). -/
def State.bidCause (s : State) : BidCause :=
  if s.pins.withhold || s.lport.withholdCmd then .withheld
  else if s.roster.minority then .minority
  else .none

/-- Whole hours of pump running (R120). -/
def State.runHours (s : State) : Nat := s.sequencer.runSeconds / 3600

/-- The effective health class: 3 while UNFIT (R25). -/
def State.effectiveClass (s : State) : Fin 4 := if s.capability.unfit then 3 else s.capability.held

/-- RUN-PERMIT (R158): no latch set, the train state neither UNCONFIGURED nor CONFLICT, and a load has succeeded
since device reset. -/
def State.runPermit (s : State) : Bool :=
  !s.protection.latches.any && !decide (s.sequencer.train = .unconfigured) &&
    !decide (s.sequencer.train = .conflict) && s.loader.succeeded

/-- ATTN (R202). -/
def State.attn (s : State) : Bool := !s.queue.records.isEmpty

/-- The kind and remaining seconds the own view reports: of the own holding, 0 and 0 otherwise (R49). -/
def State.ownHolding (s : State) : Option (Kind × Nat) :=
  match s.slot.view with
  | .ownHeld k t => some (k, timerLeft (some t) s.time)
  | _ => none

/-- The fields of the own entry, from own state (R49). -/
def State.ownTally (s : State) : TallyBody :=
  { uid := s.ident.uid
    stateCode := s.ownCode
    phaseCode := s.sequencer.train.phaseCode
    withheld := s.withheld
    settled := s.trim.settled
    minRunMet := s.sequencer.minRunMet
    levelValid := s.chanValid 4 && s.configured
    unfit := s.capability.unfit
    holdsSlot := s.ownHolding.isSome
    health := s.effectiveClass.val
    failures := s.sequencer.failures
    flow := s.chan 1
    qmin := match s.loader.params with
      | some p => p.qmin
      | none => 0
    qmaxAvail := s.capability.qmaxAvail
    totalizer := s.sequencer.totalizer
    runHours := s.runHours
    starts := s.sequencer.starts
    signature := s.loader.signature
    level := min (s.chan 4) 10000
    slotKind := match s.ownHolding with
      | some (k, _) => k.code
      | none => 0
    slotRemaining := match s.ownHolding with
      | some (_, r) => r
      | none => 0 }

/-- The entry at a station index. The own entry is EMPTY until the end of configuration load and LIVE from then
on, filled from own state, without a silence timer (R37, R49, R52). -/
def State.entry (s : State) (i : Station) : Entry :=
  if i = s.ident.station then
    { validity := if s.loadEnded then .live else .empty
      tally := if s.loadEnded then s.ownTally else TallyBody.zero
      silence := none
      snapshot := s.roster.entries[i].snapshot }
  else s.roster.entries[i]

/-- Matching (R40): the signature equals the own signature, or the state code is UNCONFIGURED. -/
def TallyBody.matchesSig (t : TallyBody) (own : Word16) : Bool := t.signature == own || t.stateCode == 0

/-! ## Keys (section 4.1) -/

/-- The start key of an entry (R64). -/
def startKey (t : TallyBody) : Nat := min t.failures 3 * 4194304 + t.health * 1048576 + min t.runHours 1048575

/-- The stop key of an entry (R65). -/
def stopKey (t : TallyBody) : Nat :=
  (if t.withheld then 0 else 8388608) + (3 - t.health) * 2097152 + (2097151 - min t.runHours 2097151)

/-- The own start key, 0 until the end of configuration load (R85). -/
def State.ownStartKey (s : State) : Nat := if s.loadEnded then startKey s.ownTally else 0

/-- The own stop key, 0 until the end of configuration load (R85). -/
def State.ownStopKey (s : State) : Nat := if s.loadEnded then stopKey s.ownTally else 0

/-! ## Event records (R199 to R202) -/

/-- Creates a record as the queue's newest entry (R199). Into a full queue the oldest record is removed, the new
one carries the loss flag and the pending-loss flag is set; otherwise that flag is cleared (R201). A removed record
that a pop transfer is clocking out is removed no second time (R200). -/
def raise (k : EventKind) (station detail : Nat) (s : State) : State :=
  let full := decide (32 ≤ s.queue.records.length)
  let r : Record :=
    { seq := s.queue.seq, time := s.time, loss := full, kind := k, station := station, detail := detail }
  let pop := if full then
      match s.lport.pop with
      | some (.copy c _) => some (PopTransfer.copy c false)
      | other => other
    else s.lport.pop
  { s with
    queue :=
      { records := (if full then s.queue.records.tail else s.queue.records) ++ [r]
        seq := s.queue.seq + 1
        pendingLoss := full }
    lport := { s.lport with pop := pop } }

/-- A record of the own station. -/
def raiseOwn (k : EventKind) (detail : Nat) (s : State) : State := raise k (stationNumber s.ident.station) detail s

/-! ## Pending set and transmitter (section 9.4) -/

/-- Whether the pending set is empty. -/
def PendingSet.isEmpty (p : PendingSet) : Bool :=
  p.tally.isNone && p.bid.isNone && p.occupied.isNone && p.yield.isNone

/-- QUIET and WAIT follow the set (R167); the other states stay. -/
def Line.follow (l : Line) : Line :=
  match l.tx with
  | .quiet | .wait => { l with tx := if l.set.isEmpty then .quiet else .wait }
  | _ => l

/-- The frame leaves the transmitter, which goes to WAIT or QUIET as the set stands (R168, R169, R170). -/
def Line.release (l : Line) : Line := { l with tx := if l.set.isEmpty then .quiet else .wait }

/-- A frame joins the set, replacing one of its kind (R166). -/
def PendingSet.join (p : PendingSet) : TxFrame → PendingSet
  | .occupied b => { p with occupied := some b }
  | .yield b => { p with yield := some b }
  | .bid b => { p with bid := some b }
  | .tally b => { p with tally := some b }

/-- A frame comes back to the set and is dropped where a newer one of its kind has joined (R166). -/
def PendingSet.giveBack (p : PendingSet) : TxFrame → PendingSet
  | .occupied b => { p with occupied := p.occupied.orElse fun _ => some b }
  | .yield b => { p with yield := p.yield.orElse fun _ => some b }
  | .bid b => { p with bid := p.bid.orElse fun _ => some b }
  | .tally b => { p with tally := p.tally.orElse fun _ => some b }

/-- Queues a frame; none joins the set while the own state is CONFLICT (R61, R166). -/
def queueFrame (f : TxFrame) (s : State) : State :=
  if s.sequencer.conflict then s
  else { s with line := { s.line with set := s.line.set.join f }.follow }

/-- Queues a YIELD with an outcome and the kind given up (R102). -/
def queueYield (o : YieldOutcome) (k : Kind) (s : State) : State :=
  queueFrame (.yield { uid := s.ident.uid, outcome := o, kind := k }) s

/-- Queues an OCCUPIED (R102): in OWN_HELD with the hold timer's remaining seconds, in OWN_PENDING with T_hold
and the intent as its kind. -/
def queueOccupied (s : State) : State :=
  match s.slot.view with
  | .ownHeld k t =>
    queueFrame
      (.occupied
        { uid := s.ident.uid, station := stationNumber s.ident.station, kind := k,
          remaining := timerLeft (some t) s.time }) s
  | .ownPending p =>
    queueFrame
      (.occupied
        { uid := s.ident.uid, station := stationNumber s.ident.station, kind := p.intent, remaining := s.tHold }) s
  | _ => s

/-- Queues the own TALLY, composed from the own entry (R50). -/
def queueTally (s : State) : State := queueFrame (.tally s.ownTally) s

/-- A pending own TALLY is composed anew from the own entry as it stands (R102). -/
def recomposeTally (s : State) : State :=
  match s.line.set.tally with
  | some _ => { s with line := { s.line with set := { s.line.set with tally := some s.ownTally } } }
  | none => s

/-- Whether a frame is a claim or an answer that a change of view withdraws (R88, R166). -/
def TxFrame.isClaim : TxFrame → Bool
  | .bid _ | .occupied _ => true
  | _ => false

/-- Whether a frame is a BID. -/
def TxFrame.isBid : TxFrame → Bool
  | .bid _ => true
  | _ => false

/-- The set becomes the one a withdrawal leaves; a frame of the withdrawn kinds whose transmission is under way is cut
off and dropped, and one in ECHO is complete and stays (R166, R170). -/
def Line.withdraw (set : PendingSet) (withdrawn : TxFrame → Bool) (l : Line) : Line :=
  let l1 := { l with set := set }
  match l.tx with
  | .contend f => if withdrawn f then l1.release else l1
  | .send f => if withdrawn f then l1.release else l1
  | _ => l1.follow

/-- The own BID and OCCUPIED are withdrawn, on every path to FREE or HELD (R88). -/
def Line.withdrawClaims (l : Line) : Line :=
  l.withdraw { l.set with bid := none, occupied := none } TxFrame.isClaim

/-- The own BID is withdrawn on the path to OWN_HELD; an OCCUPIED queued in OWN_PENDING stays (R88). -/
def Line.withdrawBid (l : Line) : Line := l.withdraw { l.set with bid := none } TxFrame.isBid

/-! ## What the part drives at its configuration memory and its front-end -/

/-- MCS is asserted while the Loader reads, and released at the end of the read (R190). A device reset releases it too,
but DEVICE_RESET takes in the deassertion of RESET, at which the load begins (R192) and MCS is asserted for its own read:
the release between the two is not seen (DESIGN CHOICE, log 47). -/
def State.mcs (s : State) : Bool := !decide (s.loader.phase = .idle)

/-- What the part sends on MDO while MCS is asserted: the read command 03h and the address 0000h (R190). -/
def State.memoryCommand (s : State) : List Byte := if s.mcs then [0x03, 0x00, 0x00] else []

/-- The address byte of a transaction (R177): bit 7 set for a read; in bits 2 to 0 the channel of a read or the output
of a write, 0 the valve word and 1 the speed reference. -/
def TxnKind.address : TxnKind → Byte
  | .read c => BitVec.ofNat 8 (128 + c.val)
  | .valve _ => 0
  | .speed _ => 1

/-- The data bytes of a write (R177): the valve word in one byte, the speed in two, low byte first. -/
def TxnKind.written : TxnKind → List Byte
  | .read _ => []
  | .valve v => [v.word]
  | .speed n => (beBytes 2 n).reverse

/-- The word of a read from the two bytes that the front-end drives, low byte first (R177). -/
def wordOfBytes (low high : Byte) : Word16 := high ++ low

/-- The transaction in flight, a retry read among them. -/
def PortState.inFlight : PortState → Option Txn
  | .idle => none
  | .inTransaction t => some t
  | .lost retry => retry

/-- The bytes the part drives onto PD7 to PD0 in the transaction in flight, in order: the address and the data of a
write (R177). -/
def State.portBytes (s : State) : List Byte :=
  match s.port.state.inFlight with
  | some t => t.kind.address :: t.kind.written
  | none => []

/-! ## Port: pending writes and arbiter (section 10.4) -/

/-- A new valve word in its pending place (R180). -/
def writeValve (v : Valve) (s : State) : State := { s with port := { s.port with pendValve := some v } }

/-- A new speed reference in its pending place (R180). -/
def writeSpeed (v : Nat) (s : State) : State := { s with port := { s.port with pendSpeed := some v } }

/-- The port arbiter (R181): with the port IDLE, the pending valve write, otherwise the pending speed write,
otherwise a scan read of the pointer's channel if the pace timer has expired, which starts the pace timer (R179). -/
def arbitrate (s : State) : State :=
  match s.port.state with
  | .idle =>
    match s.port.pendValve, s.port.pendSpeed, s.port.pace with
    | some v, _, _ =>
      { s with port :=
        { s.port with
          state := .inTransaction { kind := .valve v, settings := s.portSettings }, pendValve := none } }
    | none, some v, _ =>
      { s with port :=
        { s.port with
          state := .inTransaction { kind := .speed v, settings := s.portSettings }, pendSpeed := none } }
    | none, none, none =>
      { s with port :=
        { s.port with
          state := .inTransaction { kind := .read s.port.pointer, settings := s.portSettings }
          pace := startTimer s.time s.portSettings.tScan } }
    | none, none, some _ => s
  | _ => s

/-- The end of a taking: a pending own TALLY is recomposed when the taking entered or left OWN_HELD (R102;
log 10), and the port arbiter decides (R181; log 11). `before` is the state the taking found. -/
def finish (before s : State) : State :=
  arbitrate
    (if s.slot.view.isOwnHeld = before.slot.view.isOwnHeld then s else recomposeTally s)

end Sys2Proof.Machine
end

