-- ==== Sys2Proof/Machine/Capability.lean ====
section
/-! DEFINITION. The Capability Unit (chapter 2): the temperature table, the capacity chain, the health class and the saturation cap; with the share setpoint's hand-over to Flow Trim, which a fall of the capacity causes (R84, R144). -/

namespace Sys2Proof.Machine

open Sys2Proof

/-! ## The share setpoint in Staging and Flow Trim -/

/-- Staging sets SP and hands it to Flow Trim, which clears settled when it moves by more than the settle band
(R84, R144). -/
def setSp (v : Nat) (s : State) : State :=
  let moved := match s.loader.params with
    | some p => decide (p.settleBand < absDiff v s.staging.sp)
    | none => false
  { s with
    staging := { s.staging with sp := v }
    trim := if moved then { s.trim with settle := none, settled := false } else s.trim }

/-! ## The capacity chain (section 2.3) -/

/-- The capacity factor at T, interpolated in the table (R22). -/
def tcfFactor (tcf : Vector Nat 33) (t : Nat) : Int :=
  let i := t / 125
  let f : Int := (t % 125 : Nat)
  let e : Nat → Int := fun j => ((tcf[j]?).getD 0 : Nat)
  if i < 32 then e i + ((e (i + 1) - e i) * f).tdiv 125 else e 32

/-- pct of a held class (R23). -/
def classPct : Fin 4 → Nat
  | 0 => 100
  | 1 => 90
  | 2 => 75
  | 3 => 60

/-- Qmax_health (R23). -/
def qmaxHealth (p : Params) (tcf : Vector Nat 33) (t : Nat) (held : Fin 4) : Nat :=
  let qmaxTemp := min ((p.qmaxNom : Int) * tcfFactor tcf t / 1024).toNat 65535
  qmaxTemp * classPct held / 100

/-- The capped capacity (R24). -/
def cappedCapacity (p : Params) (tcf : Vector Nat 33) (t : Nat) (held : Fin 4) (cap : Option Nat) : Nat :=
  match cap with
  | some c => min (qmaxHealth p tcf t held) c
  | none => qmaxHealth p tcf t held

/-- Qmax_avail and the UNFIT flag (R25). -/
def capacityChain (p : Params) (tcf : Vector Nat 33) (t : Nat) (held : Fin 4) (cap : Option Nat) : Nat × Bool :=
  let c := cappedCapacity p tcf t held cap
  if p.qmin ≤ c then (c, false) else (p.qmin, true)

/-- The chain is recomputed from the current T, held class and cap; a result below SP in RUNNING brings SP down
with it (R26, R27, R84). Nothing is recomputed while UNCONFIGURED. -/
def recompute (s : State) : State :=
  match s.loader.params with
  | none => s
  | some p =>
    let r := capacityChain p s.capability.tcf s.capability.temp s.capability.held s.capability.cap
    let s1 := { s with capability := { s.capability with qmaxAvail := r.1, unfit := r.2 } }
    if s.sequencer.train = .running ∧ r.1 < s.staging.sp then setSp r.1 s1 else s1

/-- A valid sample of channel 3 (R21, R26). -/
def temperatureSample (s : State) : State :=
  recompute { s with capability := { s.capability with temp := min (s.chan 3) 4000 } }

/-! ## Health class (section 2.4) -/

/-- Quality sub-class from conductivity (R28). -/
def qualityClass (p : Params) (c : Nat) : Fin 4 :=
  if c < p.k1 then 0 else if c < p.k2 then 1 else if c < p.k3 then 2 else 3

/-- Pressure sub-class from the margin, which is signed (R29). -/
def pressureClass (p : Params) (pressure : Nat) : Fin 4 :=
  let m : Int := (p.pDisLimit : Int) - pressure
  if (p.m1 : Int) ≤ m then 0 else if (p.m2 : Int) ≤ m then 1 else if (p.m3 : Int) ≤ m then 2 else 3

/-- The larger of two classes. -/
def maxClass (a b : Fin 4) : Fin 4 := if a < b then b else a

/-- The raw class, the larger sub-class, is compared with the held class (R30). -/
def compareRaw (s : State) : State :=
  match s.loader.params with
  | none => s
  | some p =>
    let c := s.capability
    let raw := maxClass c.qualitySub c.pressureSub
    if c.held < raw then
      recompute { s with capability := { c with held := raw, holdTimer := none, fallTarget := none } }
    else if raw = c.held then { s with capability := { c with holdTimer := none, fallTarget := none } }
    else
      match c.holdTimer with
      | none =>
        { s with capability :=
          { c with holdTimer := startTimer s.time (seconds p.classHold), fallTarget := some raw } }
      | some _ =>
        { s with capability := { c with fallTarget := some (maxClass (c.fallTarget.getD raw) raw) } }

/-- A valid sample of channel 2: graded while the own train is RUNNING (R28). -/
def qualitySample (s : State) : State :=
  match s.loader.params with
  | none => s
  | some p =>
    if s.sequencer.train = .running then
      compareRaw { s with capability := { s.capability with qualitySub := qualityClass p (s.chan 2) } }
    else s

/-- A valid sample of channel 5: graded while the run command is on (R29). -/
def pressureSample (s : State) : State :=
  match s.loader.params with
  | none => s
  | some p =>
    if s.sequencer.valve.run then
      compareRaw { s with capability := { s.capability with pressureSub := pressureClass p (s.chan 5) } }
    else s

/-- The run command goes off: a pending fall of the class ends (R32). -/
def endPendingFall (s : State) : State :=
  { s with capability := { s.capability with holdTimer := none, fallTarget := none } }

/-- The class-hold timer expires: the held class falls to the fall target (R31). -/
def execClassHoldExpiry (s : State) : Host.Outcome State Fault Refusal :=
  match s.capability.holdTimer, s.capability.fallTarget with
  | some _, some f =>
    .next (recompute
      { s with capability := { s.capability with held := f, holdTimer := none, fallTarget := none } })
  | _, _ => .next s

/-! ## Saturation cap (section 2.5) -/

/-- The cap is cleared, and a clearing that finds it set recomputes the chain (R34). -/
def clearCap (s : State) : State :=
  match s.capability.cap with
  | some _ => recompute { s with capability := { s.capability with cap := none } }
  | none => s

/-- A saturation reported by Flow Trim with a flow is taken while RUNNING (R33). -/
def takeSaturation (flow : Nat) (s : State) : State :=
  if s.sequencer.train = .running then
    let s1 := recompute { s with capability := { s.capability with cap := some flow } }
    raiseOwn .capacityCapped (flagNat s1.capability.unfit) s1
  else s

end Sys2Proof.Machine
end

