-- ==== Sys2Proof/Machine/Trim.lean ====
section
/-! DEFINITION. Flow Trim (chapter 7): modes, the trim update, the ramp down, the settled flag and saturation. -/

namespace Sys2Proof.Machine

open Sys2Proof

/-- S takes a value; a change is handed to the port as a pending speed write (R133). -/
def setSpeed (v : Nat) (s : State) : State :=
  if v = s.trim.s then s else writeSpeed v { s with trim := { s.trim with s := v } }

/-! ## Modes (R133 to R135, R141) -/

/-- The run command comes on: TRIM_QMIN from S_start, q_eff from the flow (R134). -/
def trimStart (s : State) : State :=
  match s.loader.params with
  | none => s
  | some p =>
    writeSpeed p.sStart
      { s with trim :=
        { mode := .trimQmin, s := p.sStart, qEff := s.chan 1, last := some s.time, hold := .clear, settle := none,
          settled := false, sat := none } }

/-- The run command goes off: OFF with S 0; q_eff keeps its value (R135). -/
def trimStop (s : State) : State :=
  writeSpeed 0
    { s with trim :=
      { s.trim with mode := .off, s := 0, last := none, hold := .clear, settle := none, settled := false,
                    sat := none } }

/-- Entry to RUNNING: TRIM_SP with both timers stopped and settled clear; S, q_eff and the last update time stay
(R116, R133, R143, R145). -/
def trimToSp (s : State) : State :=
  { s with trim := { s.trim with mode := .trimSp, settle := none, settled := false, sat := none } }

/-- Entry to RAMP_DOWN (R141). -/
def trimToRamp (s : State) : State :=
  { s with trim :=
    { s.trim with mode := .rampDown, hold := .clear, settle := none, settled := false, sat := none } }

/-! ## The update (section 7.3) -/

/-- Δt in ticks, capped at 10 s (R136). -/
def trimDelta (s : State) : Nat :=
  match s.trim.last with
  | some t => min (s.time - t) 10240
  | none => 0

/-- q_eff moved toward a target by at most a limit (R137). -/
def rampToward (target limit q : Nat) : Nat :=
  if absDiff target q ≤ limit then target else if q < target then q + limit else q - limit

/-- The speed step before the hold: e × Ki / 1024 truncated toward zero, clamped to the ramp limit (R138). -/
def speedStep (p : Params) (e : Int) (dt : Nat) : Int :=
  let limit : Int := (p.rS * dt / 1024 : Nat)
  clampInt (-limit) limit ((e * p.ki).tdiv 1024)

/-- The pressure hold as channel 5 stands (R139). Channel 5 invalid with a held value of at least P_hold meets both
clauses, and R139 does not say which reason is then given: reason 2, the invalid channel, is taken (DESIGN CHOICE,
log 46). -/
def judgeHold (p : Params) (s : State) : PressureHold :=
  if !s.chanValid 5 then .channelInvalid
  else if p.pHold ≤ s.chan 5 then .atPressure
  else .clear

/-- The settle watch on a sample's flow, against SP (R143). -/
def settleWatch (p : Params) (flow : Nat) (s : State) : State :=
  if absDiff s.staging.sp flow ≤ p.settleBand then
    { s with trim :=
      { s.trim with settle := s.trim.settle.orElse fun _ => startTimer s.time (seconds p.settleTime) } }
  else { s with trim := { s.trim with settle := none, settled := false } }

/-- The saturation watch: S at S_max with the update's error above the settle band (R145). -/
def saturationWatch (p : Params) (e : Int) (s : State) : State :=
  if s.trim.s = p.sMax ∧ (p.settleBand : Int) < e then
    { s with trim := { s.trim with sat := s.trim.sat.orElse fun _ => startTimer s.time (seconds p.satTime) } }
  else { s with trim := { s.trim with sat := none } }

/-- The error of an update toward a target: the ramped q_eff against the flow (R137, R138). -/
def updateError (p : Params) (target : Nat) (s : State) : Int :=
  (rampToward target (p.rQ * trimDelta s / 1024) s.trim.qEff : Int) - s.chan 1

/-- R136 to R140 on a valid sample of channel 1, toward the mode's target. -/
def trimUpdate (p : Params) (target : Nat) (s : State) : State :=
  let dt := trimDelta s
  let q := rampToward target (p.rQ * dt / 1024) s.trim.qEff
  let hold := judgeHold p s
  let step := speedStep p (updateError p target s) dt
  let held := if hold ≠ .clear ∧ 0 < step then 0 else step
  let s1 := { s with trim := { s.trim with qEff := q, last := some s.time, hold := hold } }
  let s2 := if hold ≠ .clear ∧ s.trim.hold = .clear then raiseOwn .pressureHold hold.code s1 else s1
  setSpeed (clampInt p.sMin p.sMax ((s.trim.s : Int) + held)).toNat s2

/-- A sample of channel 1 in RAMP_DOWN, valid or not: S falls by the ramp and not below S_start (R141). -/
def rampStep (p : Params) (s : State) : State :=
  let down := p.rS * trimDelta s / 1024
  let v := if s.trim.s < p.sStart + down then p.sStart else s.trim.s - down
  setSpeed v { s with trim := { s.trim with last := some s.time } }

/-- What Flow Trim does with a sample of channel 1 (R133, R141, R142). An invalid one keeps the settled flag (R142;
log 35). The arrival of the ramp down at S_start is the Sequencer's to act on. -/
def trimSample (valid : Bool) (s : State) : State :=
  match s.loader.params with
  | none => s
  | some p =>
    match s.trim.mode with
    | .off => s
    | .rampDown => rampStep p s
    | .trimQmin => if valid then trimUpdate p p.qmin s else s
    | .trimSp =>
      if valid then
        let e := updateError p s.staging.sp s
        let s1 := trimUpdate p s.staging.sp s
        let s2 := if s1.trim.s + 200 < p.sMax then clearCap s1 else s1
        saturationWatch p e (settleWatch p (s.chan 1) s2)
      else { s with trim := { s.trim with settle := none, sat := none } }

/-! ## Timers of Flow Trim -/

/-- The settle timer expires: settled is set (R143). -/
def execSettleTimerExpiry (s : State) : Host.Outcome State Fault Refusal :=
  match s.trim.settle with
  | some _ => .next { s with trim := { s.trim with settle := none, settled := true } }
  | none => .next s

/-- The saturation timer expires: a saturation is reported with the current flow and the timer starts again (R145,
R33). -/
def execSaturationTimerExpiry (s : State) : Host.Outcome State Fault Refusal :=
  match s.trim.sat, s.loader.params with
  | some _, some p =>
    let s1 := takeSaturation (s.chan 1) s
    .next { s1 with trim := { s1.trim with sat := startTimer s.time (seconds p.satTime) } }
  | _, _ => .next s

end Sys2Proof.Machine
end

