-- ==== Sys2Proof/Machine/Watch.lean ====
section
/-! DEFINITION. Protection's three timers, judged from the run command, the train state and the channels (R152, R154, R155). They run while the part is configured (R147). -/

namespace Sys2Proof.Machine

open Sys2Proof

/-- A watch timer: kept, or started for a time, while its condition holds; stopped otherwise. -/
def watchTimer (holds : Bool) (now span : Nat) (t : Option Timer) : Option Timer :=
  if holds then t.orElse fun _ => startTimer now span else none

/-- LOW_SUCTION's condition: run command on, channel 0 in the scan and below the limit (R152). -/
def lowSuctionHolds (p : Params) (s : State) : Bool :=
  s.sequencer.valve.run && p.port.mask.getLsbD 0 && decide (s.chan 0 < p.lowSuctionLimit)

/-- The low-suction timer is judged (R152). -/
def judgeLowSuction (s : State) : State :=
  match s.loader.params with
  | none => s
  | some p =>
    { s with protection :=
      { s.protection with
        lowSuction := watchTimer (lowSuctionHolds p s) s.time (seconds p.tLs) s.protection.lowSuction } }

/-- The quality-trip timer is judged (R154). -/
def judgeQualityTrip (s : State) : State :=
  match s.loader.params with
  | none => s
  | some p =>
    { s with protection :=
      { s.protection with
        qualityTrip :=
          watchTimer (decide (s.sequencer.train = .running) && decide (p.kTrip ≤ s.chan 2)) s.time
            (seconds p.tQt) s.protection.qualityTrip } }

/-- The instrument timer is judged: 5 s while the run command is on and channel 1 is invalid (R155). -/
def judgeInstrument (s : State) : State :=
  match s.loader.params with
  | none => s
  | some _ =>
    { s with protection :=
      { s.protection with
        instrument :=
          watchTimer (s.sequencer.valve.run && !s.chanValid 1) s.time (seconds 5) s.protection.instrument } }

end Sys2Proof.Machine
end

