-- ==== Sys2Proof/Machine/Slot.lean ====
section
/-! DEFINITION. The Slot Arbiter's own moves (chapter 5): the view's changes, requests, cancellations and releases. What the Sequencer does on a grant or a withdrawal, and the frames of other stations, stand in later files. -/

namespace Sys2Proof.Machine

open Sys2Proof

/-- The line as a view that leaves OWN_PENDING or OWN_HELD for FREE or HELD leaves it: claims withdrawn (R88). -/
def lineLeaving (v : View) (l : Line) : Line := if v.isOwn then l.withdrawClaims else l

/-- The view becomes FREE and the settle gap is started; with a T_gap of 0 it has expired at once (R87). -/
def viewFree (s : State) : State :=
  { s with
    line := lineLeaving s.slot.view s.line
    slot := { s.slot with view := .free, gap := if s.tGap = 0 then none else startTimer s.time (seconds s.tGap) } }

/-- Both stage counters are set to 0 when the view leaves FREE (R80). -/
def countersAt (v : View) (st : Staging) : Staging :=
  match v with
  | .free => { st with up := 0, down := 0 }
  | _ => st

/-- The view becomes HELD; a settle gap is stopped (R86, R93, R94, R97). -/
def viewHeld (h : HeldView) (s : State) : State :=
  { s with
    line := lineLeaving s.slot.view s.line
    staging := countersAt s.slot.view s.staging
    slot := { s.slot with view := .held h, gap := none } }

/-- Whether the Arbiter takes a request (R88). -/
def State.takesRequest (s : State) : Bool :=
  decide (s.slot.view = .free) && s.slot.gap.isNone && s.slot.joinPassed && !s.sequencer.conflict &&
    !decide (s.sequencer.train = .unconfigured)

/-- Staging asks for a bid (R67); taken, a BID joins the pending set and the view becomes OWN_PENDING (R88). -/
def request (k : Kind) (s : State) : State :=
  if s.takesRequest then
    let key := match k with
      | .start => s.ownStartKey
      | .stop => s.ownStopKey
    let cause := match k with
      | .start => BidCause.none
      | .stop => s.bidCause
    queueFrame (.bid { uid := s.ident.uid, intent := k, key := key, cause := cause })
      { s with
        slot :=
          { s.slot with
            view := .ownPending { intent := k, key := key, cause := cause, sent := false, window := none }
            gap := none }
        staging := { s.staging with up := 0, down := 0 } }
  else s

/-- A request in OWN_PENDING is cancelled: the view becomes FREE, the BID is withdrawn, and a YIELD with the
outcome follows if the BID was sent (R91); without an outcome none is sent (R105). -/
def cancelRequest (o : Option YieldOutcome) (s : State) : State :=
  match s.slot.view with
  | .ownPending p =>
    match p.sent, o with
    | true, some o => queueYield o p.intent (viewFree s)
    | _, _ => viewFree s
  | _ => s

/-- The Sequencer reports a release with an outcome, which acts while the view is OWN_HELD (R99). -/
def release (o : YieldOutcome) (s : State) : State :=
  match s.slot.view with
  | .ownHeld k _ => queueYield o k (viewFree s)
  | _ => s

/-- The own train leaves READY with a START request pending, or RUNNING with a STOP request pending (R91). -/
def cancelOnLeaving (o : YieldOutcome) (s : State) : State :=
  match s.slot.view, s.sequencer.train with
  | .ownPending { intent := .start, .. }, .ready => cancelRequest (some o) s
  | .ownPending { intent := .stop, .. }, .running => cancelRequest (some o) s
  | _, _ => s

/-! ## Timers of the view -/

/-- The settle-gap timer expires (R87). -/
def execSettleGapExpiry (s : State) : Host.Outcome State Fault Refusal :=
  .next { s with slot := { s.slot with gap := none } }

/-- The join wait of 3 × T_s passes (R87). -/
def execJoinWaitExpiry (s : State) : Host.Outcome State Fault Refusal :=
  match s.slot.joinTimer with
  | some _ => .next { s with slot := { s.slot with joinTimer := none, joinPassed := true } }
  | none => .next s

/-- The claim grace of a HELD view expires (R97). -/
def execClaimGraceExpiry (s : State) : Host.Outcome State Fault Refusal :=
  match s.slot.view with
  | .held h => .next { s with slot := { s.slot with view := .held { h with grace := none } } }
  | _ => .next s

/-- The expiry timer of a view HELD by another station expires: FREE with SLOT_EXPIRED for that station (R101). -/
def execHeldViewExpiry (s : State) : Host.Outcome State Fault Refusal :=
  match s.slot.view with
  | .held h => .next (raise .slotExpired (stationNumber h.station) h.kind.code (viewFree s))
  | _ => .next s

end Sys2Proof.Machine
end

