-- ==== Sys2Proof/Machine/Sequencer.lean ====
section
/-! DEFINITION. The Train Sequencer's transitions (chapter 6): the one move between states that sets the valve word, the trim's mode and the record, the start, the stop, the aborts, the trip and the totalizer. -/

namespace Sys2Proof.Machine

open Sys2Proof

/-! ## Valve word and run command (R108, R109) -/

/-- The valve word on entry to a state or phase (R108); in UNLOAD the run command is on until S reaches S_start. -/
def valveOf : Train → Valve
  | .fill => { feed := true, dump := true, flush := false, run := false }
  | .pressurize | .divert | .unload => { feed := true, dump := true, flush := false, run := true }
  | .running => { feed := true, dump := false, flush := false, run := true }
  | .flush => { feed := false, dump := true, flush := true, run := false }
  | .unconfigured | .rest | .ready | .tripped | .withheld | .conflict => Valve.atRest

/-- The run command has come on: Flow Trim and Protection's timers follow (R134, R152, R155). -/
def afterRunOn (s : State) : State := judgeInstrument (judgeLowSuction (trimStart s))

/-- The run command has gone off: Flow Trim, the pending fall of the class and Protection's timers follow (R32,
R135, R152, R155). -/
def afterRunOff (s : State) : State := judgeInstrument (judgeLowSuction (endPendingFall (trimStop s)))

/-- The valve word changes, goes to the port as a pending write, and a change of its run bit reaches its users in
the same taking (R108). -/
def setValve (v : Valve) (s : State) : State :=
  if v = s.sequencer.valve then s
  else
    let s1 := writeValve v { s with sequencer := { s.sequencer with valve := v } }
    if v.run && !s.sequencer.valve.run then afterRunOn s1
    else if !v.run && s.sequencer.valve.run then afterRunOff s1
    else s1

/-! ## The move between states -/

/-- The full time of a phase's timer, in seconds. -/
def phaseSeconds (p : Params) : Train → Option Nat
  | .fill => some p.tFill
  | .pressurize => some p.tPress
  | .divert => some p.tDivert
  | .unload => some p.tUnload
  | .flush => some p.tFlush
  | _ => none

/-- The phase timer on entry to a state or phase; stopped where it has no phase time. -/
def phaseTimerOf (t : Train) (s : State) : Option Timer :=
  match s.loader.params with
  | some p => (phaseSeconds p t).bind fun n => startTimer s.time (seconds n)
  | none => none

/-- A change of the reported state code or phase raises STATE_CHANGE (R107). -/
def noteChange (before s : State) : State :=
  if s.ownCode = before.ownCode ∧ s.sequencer.train.phaseCode = before.sequencer.train.phaseCode then s
  else raiseOwn .stateChange (s.ownCode * 16 + s.sequencer.train.phaseCode) s

/-- On every path out of RUNNING: min-run stops, the totalizer integration stops, SP is 0, the saturation cap is
cleared, the quality-trip timer is judged (R118, R84, R34, R154). -/
def leaveRunning (s : State) : State :=
  judgeQualityTrip
    (clearCap
      { s with
        sequencer := { s.sequencer with minRun := none, minRunMet := false, intPoint := none }
        staging := { s.staging with sp := 0 } })

/-- Flow Trim's mode for a state entered with the run command already on (R108, R133). -/
def trimFor (t : Train) (s : State) : State :=
  match t with
  | .running => trimToSp s
  | .unload => trimToRamp s
  | _ => s

/-- The train moves to a state or phase, with everything that goes with it in the one taking: a pending request it
leaves is cancelled with an outcome (R91), phase and quality timers (R113 to R115), valve word and run command (R108),
trim mode (R133), the way out of RUNNING (R118), the record (R107). -/
def moveTo (o : YieldOutcome) (t : Train) (s : State) : State :=
  let s1 := if t = s.sequencer.train then s else cancelOnLeaving o s
  let s2 := { s1 with sequencer :=
    { s1.sequencer with train := t, phase := phaseTimerOf t s, quality := none, staged := false } }
  let s3 := trimFor t (setValve (valveOf t) s2)
  let s4 := if s.sequencer.train = .running ∧ t ≠ .running then leaveRunning s3 else s3
  noteChange s s4

/-! ## Rest (R110) -/

/-- The rest timer is started for Min rest. -/
def startRest (s : State) : State :=
  match s.loader.params with
  | some p =>
    { s with sequencer :=
      { s.sequencer with rest := .running { since := s.time, span := seconds (p.minRestMin * 60) } } }
  | none => s

/-- The train enters REST, and READY at once if the rest timer is marked expired. -/
def enterRest (s : State) : State :=
  let s1 := moveTo .aborted .rest s
  match s1.sequencer.rest with
  | .expired => moveTo .aborted .ready s1
  | _ => s1

/-! ## The stop (section 6.5) -/

/-- FLUSH is entered once the run command is off in UNLOAD and a valid channel 6 reports the drive not running; a
staged stop holding the slot releases it COMPLETED (R123). -/
def unloadTest (s : State) : State :=
  if s.sequencer.train = .unload ∧ s.sequencer.valve.run = false ∧ s.chanValid 6 = true ∧ s.driveRunning = false then
    moveTo .aborted .flush (if s.sequencer.staged then release .completed s else s)
  else s

/-- The ramp down has reached S_start: the run command goes off while the train stays in UNLOAD (R123, R141). -/
def rampArrived (s : State) : State :=
  match s.loader.params with
  | none => s
  | some p =>
    if s.sequencer.train = .unload ∧ s.trim.mode = .rampDown ∧ s.trim.s = p.sStart then
      unloadTest (setValve { s.sequencer.valve with run := false } s)
    else s

/-- The train enters UNLOAD, by a staged stop or without the slot (R122, R123, R125, R126). -/
def enterUnload (staged : Bool) (s : State) : State :=
  let s1 := moveTo .aborted .unload s
  rampArrived { s1 with sequencer := { s1.sequencer with staged := staged } }

/-- The state after FLUSH, with the rest timer started (R110, R124). -/
def endFlush (s : State) : State :=
  let s1 := startRest s
  if s.sequencer.conflict then moveTo .aborted .conflict s1
  else if s.protection.latches.any then moveTo .aborted .tripped s1
  else if s.withheld then moveTo .aborted .withheld s1
  else enterRest s1

/-! ## Aborts (section 6.6) -/

/-- A STARTING train leaves its start: from FILL to FLUSH, from PRESSURIZE or DIVERT to UNLOAD (R125 to R127, R131). -/
def leaveStart (s : State) : State :=
  match s.sequencer.train with
  | .fill => moveTo .aborted .flush s
  | .pressurize | .divert => enterUnload false s
  | _ => s

/-- The abort of a start by withhold or overflow, with the release reported at its start (R125, R126). -/
def abortStart (s : State) : State := if s.sequencer.train.isStarting then leaveStart (release .aborted s) else s

/-- The Sequencer acts on the overflow condition while it holds (R125). -/
def overflowCheck (s : State) : State :=
  if s.demand.overflow then
    if s.sequencer.train = .running then enterUnload false s else abortStart s
  else s

/-- Flushing is permitted after a trip when no set latch forbids it: EXTERNAL and PORT_LOSS forbid it (R128). -/
def State.flushPermitted (s : State) : Bool := !s.protection.latches.external && !s.protection.latches.portLoss

/-- Where a trip path without a flush ends: TRIPPED, or train state CONFLICT under the conflict mark (R128). -/
def tripEnd (s : State) : Train := if s.sequencer.conflict then .conflict else .tripped

/-- A trip reaches the Sequencer (R128). -/
def sequencerTrip (s : State) : State :=
  match s.sequencer.train with
  | .fill | .pressurize | .divert | .running | .unload =>
    moveTo .tripped (if s.flushPermitted then .flush else tripEnd s) (release .tripped s)
  | .flush => if s.flushPermitted then s else moveTo .tripped (tripEnd s) (startRest s)
  | .rest | .ready | .withheld => moveTo .tripped .tripped s
  | .tripped | .unconfigured | .conflict => s

/-- The last set latch has been cleared: a TRIPPED train leaves TRIPPED with the rest timer started anew (R129). -/
def leaveTripped (s : State) : State :=
  if s.sequencer.train = .tripped then
    let s1 := startRest s
    if s.sequencer.conflict then moveTo .aborted .conflict s1
    else if s.withheld then moveTo .aborted .withheld s1
    else moveTo .aborted .rest s1
  else s

/-! ## The start (section 6.3) -/

/-- DIVERT's quality test: a conductivity at or below k_ok starts the quality timer or leaves it running, a higher
one stops it (R115). -/
def divertQuality (s : State) : State :=
  match s.loader.params with
  | none => s
  | some p =>
    if s.sequencer.train = .divert then
      { s with sequencer :=
        { s.sequencer with
          quality :=
            if s.chan 2 ≤ p.kOk then s.sequencer.quality.orElse fun _ => startTimer s.time (seconds p.tQual)
            else none } }
    else s

/-- PRESSURIZE ends when pressure and flow stand at their thresholds with both channels valid (R114). -/
def pressurizeTest (s : State) : State :=
  match s.loader.params with
  | none => s
  | some p =>
    if s.sequencer.train = .pressurize ∧ s.chanValid 1 = true ∧ s.chanValid 5 = true ∧ p.pRunMin ≤ s.chan 5 ∧
        (p.qmin : Int) - p.settleBand ≤ s.chan 1 then
      let s1 := moveTo .aborted .divert s
      if s1.chanValid 2 then divertQuality s1 else s1
    else s

/-- A START grant takes the train from READY to FILL, and a STOP grant takes a RUNNING train whose min-run time
has elapsed, or which is withheld, to UNLOAD as a staged stop; otherwise the stop is declined with release ABORTED
(R112, R122). An overflow that holds aborts the start at once (R125). -/
def takeGrant (k : Kind) (s : State) : State :=
  match k, s.sequencer.train with
  | .start, .ready => overflowCheck (moveTo .aborted .fill s)
  | .stop, .running =>
    if s.sequencer.minRunMet || s.withheld then enterUnload true s else release .aborted s
  | _, _ => s

/-! ## Totalizer (R119) -/

/-- One totalizer count in units of flow × tick: 3,600 × 1,024. -/
def unitsPerCount : Nat := 3686400

/-- A valid sample of channel 1 in RUNNING is integrated over the ticks since the integration point. -/
def integrate (s : State) : State :=
  match s.sequencer.train, s.sequencer.intPoint with
  | .running, some t =>
    let r := s.sequencer.totRem + s.chan 1 * (s.time - t)
    { s with sequencer :=
      { s.sequencer with
        totalizer := (s.sequencer.totalizer + r / unitsPerCount) % 2 ^ 32
        totRem := r % unitsPerCount
        intPoint := some s.time } }
  | _, _ => s

end Sys2Proof.Machine
end

