-- ==== Sys2Proof/Machine/Protection.lean ====
section
/-! DEFINITION. Protection Latches (chapter 8): the arrival of a cause, the judging of conditions, presence, and the commands that only Protection answers. -/

namespace Sys2Proof.Machine

open Sys2Proof

/-- A cause arrives: its count increases; with its latch clear the latch is set, TRIP is raised, RUN-PERMIT follows
as a function of the latches, and the trip is handed to the Sequencer (R148); with its latch set nothing more
happens (R149). -/
def arrive (c : Cause) (s : State) : State :=
  let s1 := { s with protection :=
    { s.protection with counts := s.protection.counts.put c (satInc 63 (s.protection.counts.get c)) } }
  if s.protection.latches.get c then s1
  else
    sequencerTrip
      (raiseOwn .trip c.code
        { s1 with protection := { s1.protection with latches := s1.protection.latches.put c true } })

/-- A condition is judged: an arrival where it holds and did not at the previous judgement (R147). -/
def arriveIf (now before : Bool) (c : Cause) (s : State) : State := if now && !before then arrive c s else s

/-- EXTERNAL, from TRIP-IN (R150). -/
def judgeExternal (s : State) : State :=
  arriveIf s.pins.tripIn s.protection.extFlag .external
    { s with protection := { s.protection with extFlag := s.pins.tripIn } }

/-- DRIVE_FAULT, from the fault flag of channel 6 (R151). -/
def judgeDriveFault (s : State) : State :=
  arriveIf s.driveFault s.protection.driveFlag .driveFault
    { s with protection := { s.protection with driveFlag := s.driveFault } }

/-- HIGH_PRESSURE, from channel 5 against P_trip, while the part is configured (R153). -/
def judgeHighPressure (s : State) : State :=
  match s.loader.params with
  | none => s
  | some p =>
    let now := decide (p.pTrip ≤ s.chan 5)
    arriveIf now s.protection.highFlag .highPressure
      { s with protection := { s.protection with highFlag := now } }

/-- PORT_LOSS, from the port state (R150). -/
def judgePortLoss (s : State) : State :=
  arriveIf s.port.state.isLost s.protection.portFlag .portLoss
    { s with protection := { s.protection with portFlag := s.port.state.isLost } }

/-- The end of a load or reload judges each condition afresh: one that holds is an arrival (R147). The conditions
are taken in the order of the cause codes (log 12). -/
def judgeAfresh (s : State) : State :=
  let s1 := { s with protection :=
    { s.protection with extFlag := false, driveFlag := false, highFlag := false, portFlag := false } }
  judgePortLoss (judgeHighPressure (judgeDriveFault (judgeExternal s1)))

/-- Whether a cause is present (R150 to R156). -/
def State.present (s : State) : Cause → Bool
  | .external => s.pins.tripIn
  | .driveFault => s.driveFault || (s.driveRunning && !s.sequencer.valve.run)
  | .lowSuction => match s.loader.params with
    | some p => p.port.mask.getLsbD 0 && decide (s.chan 0 < p.lowSuctionLimit)
    | none => false
  | .highPressure => match s.loader.params with
    | some p => decide (p.pTrip ≤ s.chan 5)
    | none => false
  | .portLoss => s.port.state.isLost
  | .instrument => !s.chanValid 1
  | .quality | .startFail | .holdOverrun => false

/-- One latch under CLEAR TRIPS: cleared, with LATCH_CLEARED, when it is set and its cause absent (R157). -/
def clearLatch (s : State) (c : Cause) : State :=
  if s.protection.latches.get c && !s.present c then
    raiseOwn .latchCleared c.code
      { s with protection := { s.protection with latches := s.protection.latches.put c false } }
  else s

/-- Every set latch is judged, in ascending order of cause code (R157). -/
def clearLatches (s : State) : State := causes.foldl clearLatch s

/-! ## Timers of Protection -/

/-- The low-suction timer expires (R152). -/
def execLowSuctionExpiry (s : State) : Host.Outcome State Fault Refusal :=
  match s.protection.lowSuction with
  | some _ =>
    .next (finish s (arrive .lowSuction { s with protection := { s.protection with lowSuction := none } }))
  | none => .next s

/-- The quality-trip timer expires (R154). -/
def execQualityTripExpiry (s : State) : Host.Outcome State Fault Refusal :=
  match s.protection.qualityTrip with
  | some _ =>
    .next (finish s (arrive .quality { s with protection := { s.protection with qualityTrip := none } }))
  | none => .next s

/-- The instrument timer expires (R155). -/
def execInstrumentExpiry (s : State) : Host.Outcome State Fault Refusal :=
  match s.protection.instrument with
  | some _ =>
    .next (finish s (arrive .instrument { s with protection := { s.protection with instrument := none } }))
  | none => .next s

/-- TRIP-IN changes level; EXTERNAL is judged from the end of configuration load on (R147, R150). -/
def execTripInChange (level : Bool) (s : State) : Host.Outcome State Fault Refusal :=
  let s1 := { s with pins := { s.pins with tripIn := level } }
  .next (if s.loadEnded then finish s (judgeExternal s1) else s1)

end Sys2Proof.Machine
end

