-- ==== Sys2Proof/Machine/Withhold.lean ====
section
/-! DEFINITION. The withhold causes (R111), the STOP bid they ask for (R81), the minority test (R56, R57), and the commands and the line that carry two of the causes. -/

namespace Sys2Proof.Machine

open Sys2Proof

/-- The combined withhold condition becomes true (R111). -/
def withholdRises (s : State) : State :=
  match s.sequencer.train with
  | .rest | .ready => moveTo .aborted .withheld s
  | .fill | .pressurize | .divert => abortStart s
  | _ => s

/-- The combined withhold condition becomes false (R111): a WITHHELD train passes to REST, and through it to READY
if the rest timer has expired (R110). -/
def withholdFalls (s : State) : State :=
  match s.sequencer.train with
  | .withheld => enterRest s
  | _ => s

/-- A withheld RUNNING train asks for a STOP bid (R81); none is asked for in CONFLICT (R79). -/
def withheldStopRequest (s : State) : State :=
  if s.sequencer.train = .running ∧ s.withheld = true then request .stop s else s

/-- The Sequencer acts on a change of the combined condition, and a cause that arises while RUNNING makes Staging
ask for a STOP bid (R111, R81). `was` is the combined condition before the change, `arose` whether a cause went from
clear to set. Nothing acts before the end of configuration load (log 13). -/
def withholdChanged (was arose : Bool) (s : State) : State :=
  if s.loadEnded then
    let s1 := if !was && s.withheld then withholdRises s
      else if was && !s.withheld then withholdFalls s
      else s
    if arose then withheldStopRequest s1 else s1
  else s

/-! ## Minority (R56, R57) -/

/-- m: the LIVE entries whose signature equals the own signature, the own entry among them. -/
def State.minorityM (s : State) : Nat :=
  (stations.filter fun i =>
    decide ((s.entry i).validity = .live) && ((s.entry i).tally.signature == s.loader.signature)).length

/-- d: the EXCLUDED entries. -/
def State.minorityD (s : State) : Nat := (stations.filter fun i => decide ((s.entry i).validity = .excluded)).length

/-- The minority cause takes a value; a change raises MINORITY and reaches the Sequencer (R57). -/
def setMinority (v : Bool) (s : State) : State :=
  if v = s.roster.minority then s
  else
    withholdChanged s.withheld v
      (raiseOwn .minority (flagNat v) { s with roster := { s.roster with minority := v } })

/-- The minority test (R56); not made while UNCONFIGURED. -/
def minorityTest (s : State) : State :=
  if s.configured then setMinority (decide (s.minorityM < s.minorityD)) s else s

/-! ## The commands and the line -/

/-- The result codes (R196). -/
def replyDone : List Byte := [0x00]
def replyBusyState : List Byte := [0x01]
def replyLatchesRemain : List Byte := [0x02]
def replyUnknownCommand : List Byte := [0x03]

/-- An operation of the local port is taken: a transfer before it has ended, and its reply is the one clocked out
(R196, R200). -/
def answer (reply : List Byte) (s : State) : State := { s with lport := { s.lport with reply := reply, pop := none } }

/-- WITHHOLD sets the command-withhold flag and replies DONE (R198). -/
def execWithhold (s : State) : Host.Outcome State Fault Refusal :=
  let s1 := answer replyDone { s with lport := { s.lport with withholdCmd := true } }
  .next (finish s (withholdChanged s.withheld (!s.lport.withholdCmd) s1))

/-- RETURN clears the command-withhold flag and replies DONE (R198). -/
def execReturn (s : State) : Host.Outcome State Fault Refusal :=
  let s1 := answer replyDone { s with lport := { s.lport with withholdCmd := false } }
  .next (finish s (withholdChanged s.withheld false s1))

/-- The WITHHOLD line changes level (R111). -/
def execWithholdLineChange (level : Bool) (s : State) : Host.Outcome State Fault Refusal :=
  let s1 := { s with pins := { s.pins with withhold := level } }
  .next (finish s (withholdChanged s.withheld (level && !s.pins.withhold) s1))

/-- CLEAR TRIPS (R157): the latches whose causes are absent are cleared; with none left the Sequencer is told and
the reply is DONE, otherwise LATCHES_REMAIN with the latches that remain (R196). -/
def execClearTrips (s : State) : Host.Outcome State Fault Refusal :=
  let s1 := clearLatches (answer [] s)
  .next (finish s
    (if s1.protection.latches.any then
      { s1 with lport :=
        { s1.lport with reply := replyLatchesRemain ++ beBytes 2 s1.protection.latches.bits } }
    else leaveTripped { s1 with lport := { s1.lport with reply := replyDone } }))

/-- CLEAR COUNTERS (R198): start failures, the nine counts and the two line counters go to 0. -/
def execClearCounters (s : State) : Host.Outcome State Fault Refusal :=
  .next (answer replyDone
    { s with
      sequencer := { s.sequencer with failures := 0 }
      protection := { s.protection with counts := PerCause.all 0 }
      line := { s.line with rxErr := 0, txLoss := 0 } })

/-- RELOAD CONFIG (R193): taken with the Loader IDLE, the train at rest and the conflict mark clear; otherwise
refused with BUSY_STATE. -/
def execReloadConfig (s : State) : Host.Outcome State Fault Refusal :=
  if s.loader.phase = .idle ∧ s.sequencer.train.mayReload = true ∧ s.sequencer.conflict = false then
    .next (answer replyDone { s with loader := { s.loader with phase := .reloading } })
  else .next (answer replyBusyState s)

/-- Any other operation byte (R196; Sys2Proof.operation says which bytes those are). -/
def execUnknownCommand (_op : Byte) (s : State) : Host.Outcome State Fault Refusal :=
  .next (answer replyUnknownCommand s)

end Sys2Proof.Machine
end

