-- ==== Sys2Proof/Machine/Estimator.lean ====
section
/-! DEFINITION. The Demand Estimator (chapter 1): the level and its source, the profile, the three paths of a demand period, and what a load, a reload and UNCONFIGURED do to it. -/

namespace Sys2Proof.Machine

open Sys2Proof

/-! ## Level and source (section 1.2) -/

/-- Insertion into an ascending list, duplicates kept. -/
def insertSorted (a : Nat) : List Nat → List Nat
  | [] => [a]
  | b :: bs => if a ≤ b then a :: b :: bs else b :: insertSorted a bs

/-- A list sorted in ascending order. -/
def sortAsc (l : List Nat) : List Nat := l.foldr insertSorted []

/-- The median of readings: the middle one, or the lower of the two middle ones (R2); none without a reading. -/
def median (l : List Nat) : Option Nat := (sortAsc l)[(l.length - 1) / 2]?

/-- The readings of the qualifying entries: peers LIVE or EXCLUDED with the level-valid flag set (R2). -/
def State.qualifyingLevels (s : State) : List Nat :=
  stations.filterMap fun i =>
    let e := s.entry i
    if i ≠ s.ident.station ∧ (e.validity = .live ∨ e.validity = .excluded) ∧ e.tally.levelValid = true then
      some e.tally.level
    else none

/-- The substitute level (R2). -/
def State.substituteLevel (s : State) : Option Nat := median s.qualifyingLevels

/-- The level a source other than LOST gives, and the source: OWN while channel 4 is valid, else PEERS while an
entry qualifies (R1, R2, R3). -/
def State.availableLevel (s : State) : Option (LevelSource × Nat) :=
  if s.chanValid 4 then some (.own, min (s.chan 4) 10000)
  else s.substituteLevel.map fun m => (.peers, m)

/-- The estimator re-examines its level after a change of channel 4 or of the roster (R3, R4, R54). While
UNCONFIGURED neither changes the source (R20). -/
def judgeLevel (s : State) : State :=
  match s.loader.params with
  | none => s
  | some p =>
    match s.availableLevel with
    | some (src, lvl) =>
      if s.demand.source = .lost then
        raiseOwn .levelRestored src.code
          { s with demand := { s.demand with source := src, level := lvl, lostTimer := none, lPrev := none } }
      else { s with demand := { s.demand with source := src, level := lvl, lostTimer := none } }
    | none =>
      if s.demand.source = .lost then s
      else
        { s with demand :=
          { s.demand with
            lostTimer := s.demand.lostTimer.orElse fun _ => startTimer s.time (seconds p.levelLostDelay) } }

/-- The level-lost timer has run: LOST, with LEVEL_LOST carrying the source before (R3). -/
def loseLevel (s : State) : State :=
  raiseOwn .levelLost s.demand.source.code { s with demand := { s.demand with source := .lost, lostTimer := none } }

/-- The level-lost timer expires (R3). -/
def execLevelLost (s : State) : Host.Outcome State Fault Refusal :=
  match s.demand.lostTimer with
  | some _ => .next (loseLevel s)
  | none => .next s

/-! ## Profile (R5, R18) -/

/-- The profile the TARIFF line selects: low OFFPEAK, high PEAK. -/
def profileFor (tariff : Bool) : ProfileName := if tariff then .peak else .offPeak

/-- Q_req brought within the Q_plant_max of the active profile (R5, R19). -/
def limitQreq (s : State) : State :=
  match s.activeProfile with
  | some f => { s with demand := { s.demand with qReq := min s.demand.qReq f.qPlantMax } }
  | none => s

/-- The TARIFF line is sampled at a period end (R5). -/
def sampleProfile (s : State) : State :=
  let n := profileFor s.pins.tariff
  if s.demand.profile = some n then s
  else limitQreq (raiseOwn .profileChange (profileCode n) { s with demand := { s.demand with profile := some n } })

/-! ## The paths of a period (sections 1.4, 1.5) -/

/-- Whether an entry is counted in a period: LIVE or STALE (R12). -/
def Entry.counted (e : Entry) : Bool := decide (e.validity = .live) || decide (e.validity = .stale)

/-- An entry's Δtot as it counts: 0 without a snapshot or when it exceeds the bound B (R10, R11). -/
def entryProduction (tD : Nat) (e : Entry) : Nat :=
  match e.snapshot with
  | some n =>
    let delta := (e.tally.totalizer + 2 ^ 32 - n) % 2 ^ 32
    if 2 * (e.tally.qmaxAvail * tD / 360) < delta then 0 else delta
  | none => 0

/-- P, the production of the period (R10). -/
def State.production (s : State) (tD : Nat) : Nat :=
  (stations.map fun i => if (s.entry i).counted then entryProduction tD (s.entry i) else 0).sum

/-- The snapshots after a full computation: a counted entry's totalizer, absent elsewhere (R12). -/
def refreshSnapshots (s : State) : State :=
  { s with roster :=
    { s.roster with
      entries := Vector.ofFn fun i : Station =>
        { s.roster.entries[i] with
          snapshot := if (s.entry i).counted then some (s.entry i).tally.totalizer else none } } }

/-- The snapshots a snapshot-only period sets: of every counted entry (R8). -/
def setSnapshots (s : State) : State :=
  { s with roster :=
    { s.roster with
      entries := Vector.ofFn fun i : Station =>
        if (s.entry i).counted then
          { s.roster.entries[i] with snapshot := some (s.entry i).tally.totalizer }
        else s.roster.entries[i] } }

/-- The overflow condition against a level (R17). -/
def overflowAfter (p : Params) (lvl : Nat) (was : Bool) : Bool :=
  if p.highHigh ≤ lvl then true else if lvl + p.band < p.highHigh then false else was

/-- The low-low condition against a level (R17). -/
def lowLowAfter (p : Params) (lvl : Nat) (was : Bool) : Bool :=
  if lvl ≤ p.lowLowLevel then true else if p.lowLowLevel + p.band < lvl then false else was

/-- ΔV (R9). -/
def volumeChange (p : Params) (lvl prev : Nat) : Int := (((lvl : Int) - prev) * p.tankC).tdiv 1000

/-- The raw rate R (R13). -/
def rawRate (p : Params) (production : Nat) (dv : Int) : Nat :=
  min ((max ((production : Int) - dv) 0).toNat * 3600 / p.tD) 65535

/-- D after a rate (R14). -/
def filterDemand (p : Params) (r : Nat) (primed : Bool) (d : Nat) : Nat :=
  if primed then ((d : Int) + ((r : Int) - d).tdiv (2 ^ p.filterShift : Nat)).toNat else r

/-- The level correction (R15). -/
def levelCorrection (p : Params) (target lvl : Nat) : Int :=
  if absDiff target lvl ≤ p.band then 0
  else (((target : Int) - lvl) * p.tankC * 3600).tdiv (1000 * p.tRec : Nat)

/-- The snapshot-only period (R8). -/
def snapshotPeriod (p : Params) (s : State) : State :=
  let lvl := s.demand.level
  let spill := overflowAfter p lvl s.demand.overflow
  let s1 := setSnapshots s
  { s1 with demand :=
    { s1.demand with
      lPrev := some lvl
      overflow := spill
      lowLow := lowLowAfter p lvl s.demand.lowLow
      qReq := if spill then 0 else s.demand.qReq } }

/-- The full computation (R9 to R17). -/
def fullPeriod (p : Params) (f : Profile) (prev : Nat) (s : State) : State :=
  let lvl := s.demand.level
  let r := rawRate p (s.production p.tD) (volumeChange p lvl prev)
  let d := filterDemand p r s.demand.primed s.demand.d
  let q := (clampInt 0 f.qPlantMax ((d : Int) + levelCorrection p f.lTarget lvl)).toNat
  let spill := overflowAfter p lvl s.demand.overflow
  let s1 := refreshSnapshots s
  { s1 with demand :=
    { s1.demand with
      lPrev := some lvl
      d := d
      primed := true
      qReq := if spill then 0 else q
      overflow := spill
      lowLow := lowLowAfter p lvl s.demand.lowLow } }

/-- The path of a period (R6): LOST (R7), snapshot-only (R8) or full (R9). -/
def demandPath (s : State) : State :=
  match s.loader.params, s.activeProfile with
  | some p, some f =>
    if s.demand.source = .lost then s
    else
      match s.demand.lPrev with
      | none => snapshotPeriod p s
      | some prev => fullPeriod p f prev s
  | _, _ => s

/-! ## Load, reload, UNCONFIGURED (section 1.6) -/

/-- The estimator starts at the end of a successful load, or of a reload that leaves UNCONFIGURED (R18, R19). -/
def startEstimator (p : Params) (s : State) : State :=
  { s with demand :=
    { s.demand with profile := some (profileFor s.pins.tariff), periodTimer := startTimer s.time (seconds p.tD) } }

/-- The level-lost timer keeps its start under a new delay, and the source is lost at once when that has elapsed
(R19). -/
def retimeLevelLost (p : Params) (s : State) : State :=
  match s.demand.lostTimer with
  | some t =>
    let t' : Timer := { t with span := seconds p.levelLostDelay }
    if t'.isDue s.time then loseLevel s else { s with demand := { s.demand with lostTimer := some t' } }
  | none => s

/-- A successful reload of a configured part (R19). -/
def reloadEstimator (p : Params) (s : State) : State :=
  retimeLevelLost p
    (limitQreq
      { s with demand :=
        { s.demand with primed := false, lPrev := none, periodTimer := startTimer s.time (seconds p.tD) } })

/-- The estimator on entering UNCONFIGURED (R20). -/
def stopEstimator (s : State) : State :=
  { s with
    demand :=
      { source := .lost, level := s.demand.level, lostTimer := none, lPrev := none, d := 0, primed := false,
        qReq := 0, profile := none, periodTimer := none, overflow := false, lowLow := false }
    roster :=
      { s.roster with
        entries := Vector.ofFn fun i : Station => { s.roster.entries[i] with snapshot := none } } }

end Sys2Proof.Machine
end

