-- ==== Sys2Proof/Machine/Roster.lean ====
section
/-! DEFINITION. The Peer Roster (chapter 3): taking a TALLY into an entry, silence, and the re-judging of matching. -/

namespace Sys2Proof.Machine

open Sys2Proof

/-- An entry replaced in its place. -/
def setEntry (i : Station) (e : Entry) (s : State) : State :=
  { s with roster := { s.roster with entries := s.roster.entries.set i e } }

/-- A roster record of a peer (R45). -/
def raisePeer (k : EventKind) (i : Station) (detail : Nat) (s : State) : State :=
  raise k (stationNumber i) detail s

/-- LIVE for a matching entry, EXCLUDED for one that does not match (R40). -/
def standing (matching : Bool) : Validity := if matching then .live else .excluded

/-- The roster hands a change to the blocks that depend on it: the estimator always, the minority test when a
validity changed (R54, R56). The estimator's re-examination, with its LEVEL_RESTORED, comes before the minority test,
with its MINORITY; R54 does not order the two (DESIGN CHOICE, log 38). -/
def rosterChanged (validityChanged : Bool) (s : State) : State :=
  let s1 := judgeLevel s
  if validityChanged then minorityTest s1 else s1

/-- The record that the reception itself raises before any SIGNATURE_MISMATCH (R41, R43, R44). -/
def arrivalKind (e : Entry) (t : TallyBody) : Option EventKind :=
  match e.validity with
  | .empty => some .peerJoined
  | .live | .excluded => if e.tally.uid = t.uid then none else some .peerReplaced
  | .stale => if e.tally.uid = t.uid then some .peerReturned else some .peerReplaced

/-- Whether the snapshot survives the reception: the same identifier, LIVE or STALE before, LIVE after (R42 to
R44). -/
def keepsSnapshot (e : Entry) (t : TallyBody) (after : Validity) : Bool :=
  decide (e.tally.uid = t.uid) && (decide (e.validity = .live) || decide (e.validity = .stale)) &&
    decide (after = .live)

/-- Whether SIGNATURE_MISMATCH is raised: the entry became EXCLUDED, and was not EXCLUDED under the same identifier
before (R41 to R45). -/
def raisesMismatch (e : Entry) (t : TallyBody) (after : Validity) : Bool :=
  decide (after = .excluded) && !(decide (e.validity = .excluded) && decide (e.tally.uid = t.uid))

/-- A TALLY that passes R39 is taken into a peer's entry (R41 to R45). -/
def takeTally (i : Station) (t : TallyBody) (s : State) : State :=
  let e := s.roster.entries[i]
  let after := standing (t.matchesSig s.loader.signature)
  let s1 := setEntry i
    { validity := after, tally := t, silence := some s.time,
      snapshot := if keepsSnapshot e t after then e.snapshot else none } s
  let s2 := match arrivalKind e t with
    | some k => raisePeer k i t.stateCode s1
    | none => s1
  let s3 := if raisesMismatch e t after then raisePeer .signatureMismatch i t.stateCode s2 else s2
  rosterChanged (!decide (after = e.validity)) s3

/-! ## Silence (section 3.3) -/

/-- Whether an entry's silence has reached a number of T_s (R46 to R48). -/
def silentFor (n : Nat) (e : Entry) (s : State) : Bool :=
  match e.silence with
  | some t => decide (t + n * s.tS ≤ s.time)
  | none => false

/-- Whether an entry is one that silence makes STALE: a peer, LIVE or EXCLUDED (R46, R49). -/
def State.canGoStale (s : State) (i : Station) : Bool :=
  !decide (i = s.ident.station) &&
    (decide (s.roster.entries[i].validity = .live) || decide (s.roster.entries[i].validity = .excluded)) &&
    s.roster.entries[i].silence.isSome

/-- Whether an entry is one that silence empties: a STALE peer (R47, R49). -/
def State.canDrop (s : State) (i : Station) : Bool :=
  !decide (i = s.ident.station) && decide (s.roster.entries[i].validity = .stale) &&
    s.roster.entries[i].silence.isSome

/-- The entry becomes STALE with PEER_STALE (R46). -/
def goStale (i : Station) (s : State) : State :=
  let e := s.roster.entries[i]
  raisePeer .peerStale i e.tally.stateCode (setEntry i { e with validity := .stale } s)

/-- The entry becomes EMPTY with PEER_DROPPED (R47). -/
def dropPeer (i : Station) (s : State) : State :=
  raisePeer .peerDropped i s.roster.entries[i].tally.stateCode (setEntry i Entry.none s)

/-- PEER_STALE: the silence timer of a LIVE or EXCLUDED entry reaches 4 × T_s (R46). -/
def execPeerStale (i : Station) (s : State) : Host.Outcome State Fault Refusal :=
  if s.canGoStale i then .next (finish s (rosterChanged true (goStale i s))) else .next s

/-- PEER_DROPPED: the silence timer of a STALE entry reaches 64 × T_s (R47). -/
def execPeerDropped (i : Station) (s : State) : Host.Outcome State Fault Refusal :=
  if s.canDrop i then .next (finish s (rosterChanged true (dropPeer i s))) else .next s

/-- One entry compared with the thresholds of a changed T_s: STALE, and then dropped (R48). -/
def compareSilence (s : State) (i : Station) : State :=
  let e := s.roster.entries[i]
  let s1 := if s.canGoStale i && silentFor 4 e s then goStale i s else s
  if s1.canDrop i && silentFor 64 e s1 then dropPeer i s1 else s1

/-- Every running silence timer is compared with the T_s in force (R48). The entries are taken in ascending order of
station number, each one's PEER_STALE and PEER_DROPPED before the next entry's; R48 gives no order among entries (DESIGN
CHOICE, log 43). A change of validity is handed on once, after the last entry (log 17). -/
def compareSilences (s : State) : State :=
  let s1 := stations.foldl compareSilence s
  if s1.roster.entries.map (·.validity) = s.roster.entries.map (·.validity) then s1 else rosterChanged true s1

/-! ## Re-judging (R55) -/

/-- One peer entry is judged against the own signature; `old` is the signature before the change (R55). -/
def rejudgeEntry (old : Word16) (s : State) (i : Station) : State :=
  let e := s.roster.entries[i]
  let now := e.tally.matchesSig s.loader.signature
  if i = s.ident.station then s
  else
    match e.validity with
    | .live =>
      if now then s
      else
        raisePeer .signatureMismatch i e.tally.stateCode
          (setEntry i { e with validity := .excluded, snapshot := none } s)
    | .excluded => if now then setEntry i { e with validity := .live, snapshot := none } s else s
    | .stale =>
      if e.tally.matchesSig old && !now then setEntry i { e with snapshot := none } s else s
    | .empty => s

/-- Every peer entry is re-judged, in ascending order of station number (R55). -/
def rejudge (old : Word16) (s : State) : State := stations.foldl (rejudgeEntry old) s

end Sys2Proof.Machine
end

