-- ==== Sys2Proof/Machine/Staging.lean ====
section
/-! DEFINITION. Staging Logic (chapter 4): the sets, the ranks, the stage evaluation, the share setpoint; and the demand period end, which runs the estimator's path and then Staging. -/

namespace Sys2Proof.Machine

open Sys2Proof

/-! ## Sets and ranks (sections 4.1, 4.2) -/

/-- Whether an entry counts in the capacity and share sums: LIVE, or STALE and matching (R53, R68, R82). -/
def State.countsInPlant (s : State) (i : Station) : Bool :=
  let e := s.entry i
  decide (e.validity = .live) || (decide (e.validity = .stale) && e.tally.matchesSig s.loader.signature)

/-- The active set: STARTING or RUNNING (R68). -/
def State.activeSet (s : State) : List Station :=
  stations.filter fun i =>
    s.countsInPlant i && (decide ((s.entry i).tally.stateCode = 3) || decide ((s.entry i).tally.stateCode = 4))

/-- The running set (R82). -/
def State.runningSet (s : State) : List Station :=
  stations.filter fun i => s.countsInPlant i && decide ((s.entry i).tally.stateCode = 4)

/-- The start candidates: LIVE and READY; the own train also not withheld (R69). -/
def State.startCandidates (s : State) : List Station :=
  stations.filter fun i =>
    decide ((s.entry i).validity = .live) && decide ((s.entry i).tally.stateCode = 2) &&
      (!decide (i = s.ident.station) || !s.withheld)

/-- The stop candidates: LIVE, RUNNING and min-run-met (R70). -/
def State.stopCandidates (s : State) : List Station :=
  stations.filter fun i =>
    decide ((s.entry i).validity = .live) && decide ((s.entry i).tally.stateCode = 4) &&
      (s.entry i).tally.minRunMet

/-- Whether an entry comes before another: the lower key, then the lower station number (R66). -/
def State.comesBefore (s : State) (key : TallyBody → Nat) (i j : Station) : Bool :=
  let a := key (s.entry i).tally
  let b := key (s.entry j).tally
  decide (a < b) || (decide (a = b) && decide (i < j))

/-- The rank of an entry in a set: 1 plus the number of entries before it (R66). -/
def State.rankIn (s : State) (key : TallyBody → Nat) (set : List Station) (i : Station) : Nat :=
  1 + (set.filter fun j => s.comesBefore key j i).length

/-- The best stop candidate c (R70). -/
def State.bestStop (s : State) : Option Station :=
  s.stopCandidates.find? fun i => decide (s.rankIn stopKey s.stopCandidates i = 1)

/-- Cap, the sum of the active set's capacities (R68). -/
def State.capSum (s : State) : Nat := (s.activeSet.map fun i => (s.entry i).tally.qmaxAvail).sum

/-! ## Stage evaluation (section 4.3) -/

/-- A period is held when the own view is not FREE or a LIVE RUNNING entry is not settled (R73). -/
def State.periodHeld (s : State) : Bool :=
  !decide (s.slot.view = .free) ||
    stations.any fun i =>
      decide ((s.entry i).validity = .live) && decide ((s.entry i).tally.stateCode = 4) &&
        !(s.entry i).tally.settled

/-- up_cond (R74). -/
def State.upCond (s : State) (p : Params) (f : Profile) : Bool :=
  (decide (s.activeSet.length < p.mMin) || decide (s.capSum * f.stageUpPct < s.demand.qReq * 100)) &&
    decide (s.activeSet.length < f.mMax) && !s.startCandidates.isEmpty && !s.demand.overflow

/-- down_cond (R75). -/
def State.downCond (s : State) (p : Params) (f : Profile) : Bool :=
  match s.bestStop with
  | some c =>
    decide (p.mMin < s.activeSet.length) &&
      s.activeSet.all (fun i => !decide ((s.entry i).tally.stateCode = 3)) &&
      decide (s.demand.qReq * 100 < (s.capSum - (s.entry c).tally.qmaxAvail) * f.stageDownPct) &&
      !s.demand.overflow
  | none => false

/-- The counting of R76. -/
def countStages (up down : Bool) (st : Staging) : Staging :=
  if up then { st with up := satInc 255 st.up, down := 0 }
  else if down then { st with up := 0, down := satInc 255 st.down }
  else { st with up := 0, down := 0 }

/-- The START request of R77. -/
def startRequest (p : Params) (s : State) : State :=
  let own := s.ident.station
  let r := s.rankIn startKey s.startCandidates own
  if own ∈ s.startCandidates ∧
      (p.nUp * r ≤ s.staging.up ∨ (r ≤ s.staging.up ∧ s.demand.lowLow = true)) then
    request .start s
  else s

/-- The STOP request of R78. -/
def stopRequest (p : Params) (s : State) : State :=
  let own := s.ident.station
  if own ∈ s.stopCandidates ∧ p.nDn * s.rankIn stopKey s.stopCandidates own ≤ s.staging.down then
    request .stop s
  else s

/-- The stage evaluation (R71): the LOST reset (R72), the holds (R73), the conditions and the counting (R74 to
R76), the requests (R77, R78). -/
def stageEvaluation (p : Params) (f : Profile) (lost : Bool) (s : State) : State :=
  if lost then { s with staging := { s.staging with up := 0, down := 0 } }
  else if s.periodHeld then s
  else
    stopRequest p (startRequest p
      { s with staging := countStages (s.upCond p f) (s.downCond p f) s.staging })

/-! ## Share setpoint (section 4.5) -/

/-- Smin (R82). -/
def State.sMinSum (s : State) : Nat := (s.runningSet.map fun i => (s.entry i).tally.qmin).sum

/-- W (R82): truncated subtraction gives 0 for an entry whose capacity does not exceed its Qmin. -/
def State.spanSum (s : State) : Nat :=
  (s.runningSet.map fun i => (s.entry i).tally.qmaxAvail - (s.entry i).tally.qmin).sum

/-- The own share of Q_req (R83). -/
def State.share (s : State) (p : Params) : Nat :=
  let qmax := s.capability.qmaxAvail
  if s.demand.qReq ≤ s.sMinSum ∨ s.spanSum = 0 then p.qmin
  else
    (clampInt p.qmin qmax (p.qmin + (s.demand.qReq - s.sMinSum) * (qmax - p.qmin) / s.spanSum : Nat)).toNat

/-- SP is computed while the own train is RUNNING (R83, R84). -/
def computeShare (s : State) : State :=
  match s.loader.params with
  | some p => if s.sequencer.train = .running then setSp (s.share p) s else s
  | none => s

/-! ## Entry to RUNNING (R116) -/

/-- The train enters RUNNING from DIVERT: valve word, release COMPLETED, min-run timer, failures 0, integration
point, QUALITY judged, SP computed; an overflow that holds unloads it at once (R116, R154, R125). -/
def enterRunning (s : State) : State :=
  let s1 := moveTo .aborted .running s
  let s2 := { s1 with sequencer :=
    { s1.sequencer with
      minRun := match s.loader.params with
        | some p => startTimer s.time (seconds (p.minRunMin * 60))
        | none => none
      minRunMet := false
      failures := 0
      intPoint := some s.time } }
  overflowCheck (computeShare (judgeQualityTrip (release .completed s2)))

/-! ## The demand period end -/

/-- The demand period end (R6): the timer starts again, the profile is sampled (R5), one path runs, the Sequencer
acts on an overflow it set (R125; log 21), Staging evaluates (R71), a withheld RUNNING train asks for its stop (R81)
and the share is computed (R83). -/
def demandPeriod (p : Params) (s : State) : State :=
  let s1 := sampleProfile
    { s with demand := { s.demand with periodTimer := startTimer s.time (seconds p.tD) } }
  let lost := decide (s1.demand.source = .lost)
  let s2 := demandPath s1
  let s3 := if s2.demand.overflow && !s1.demand.overflow then overflowCheck s2 else s2
  let s4 := match s3.activeProfile with
    | some f => stageEvaluation p f lost s3
    | none => s3
  computeShare (withheldStopRequest s4)

/-- DEMAND_PERIOD_END, with the TARIFF level at that moment (R5, R6). -/
def execDemandPeriodEnd (tariff : Bool) (s : State) : Host.Outcome State Fault Refusal :=
  match s.demand.periodTimer, s.loader.params with
  | some _, some p => .next (finish s (demandPeriod p { s with pins := { s.pins with tariff := tariff } }))
  | _, _ => .next s

end Sys2Proof.Machine
end

