-- ==== Sys2Proof/Machine/Arbiter.lean ====
section
/-! DEFINITION. What the Slot Arbiter does with the frames of other stations, the grant, the withdrawals and the own hold timer (chapter 5, sections 5.2 to 5.4), and the conflict mark (R60, R105, R131). -/

namespace Sys2Proof.Machine

open Sys2Proof

/-! ## Views HELD by another station -/

/-- The expiry timer of a holding reported with r seconds remaining: r + 4 × T_s (R94, R97). -/
def reportExpiry (r : Nat) (s : State) : Timer := { since := s.time, span := seconds r + 4 * s.tS }

/-- A view HELD set from a report of the holder (R86, R94, R97): no withhold cause, no claim grace. -/
def reportedView (x : Station) (uid : UnitId) (k : Kind) (r : Nat) (s : State) : HeldView :=
  { station := x, uid := uid, kind := k, expiry := reportExpiry r s, grace := none, cause := .none }

/-- A view HELD set from a BID (R93): expiry T_hold + 4 × T_s, claim grace 2 × T_s. -/
def bidView (x : Station) (b : BidBody) (s : State) : HeldView :=
  { station := x, uid := b.uid, kind := b.intent,
    expiry := { since := s.time, span := seconds s.tHold + 4 * s.tS },
    grace := startTimer s.time (2 * s.tS), cause := b.cause }

/-- The own claim gives way to X with SLOT_LOST; the Sequencer stays as it is (R93, R94, R97, R103, R112). -/
def loseClaim (p : PendingView) (x : Station) (h : HeldView) (s : State) : State :=
  raise .slotLost (stationNumber x) p.intent.code (viewHeld h s)

/-! ## Withdrawal of the slot (R127) -/

/-- A staged stop runs on as an arbiter-withdrawn stop, without the slot (R127). -/
def unstage (s : State) : State := { s with sequencer := { s.sequencer with staged := false } }

/-- A withdrawal where two holders meet: a start is aborted, a staged stop runs on without the slot (R127). -/
def withdrawSlot (s : State) : State :=
  if s.sequencer.train = .unload then unstage s else leaveStart s

/-- A start that reaches RUNNING at the very moment its hold overruns: its quality timer expires at that moment, so
the entry to RUNNING is made and its release finds the view FREE (R100, R116; DEDUCED, log 36). -/
def reachRunning (s : State) : State :=
  if s.sequencer.train = .divert ∧ timerDue s.sequencer.quality s.time = true then enterRunning s else s

/-- A withdrawal at the own hold timer's expiry (R100, R127): a start trips HOLD_OVERRUN, out of RUNNING where it
reaches RUNNING at that moment; a staged stop runs on. -/
def overrunSlot (s : State) : State :=
  if s.sequencer.train.isStarting then arrive .holdOverrun (reachRunning s)
  else if s.sequencer.train = .unload then unstage s
  else s

/-- The two-holder rule (R95): the lower station number keeps the slot. -/
def twoHolders (k : Kind) (x : Station) (uid : UnitId) (xk : Kind) (r : Nat) (s : State) : State :=
  if s.ident.station < x then queueOccupied s
  else
    withdrawSlot
      (raise .slotLost (stationNumber x) k.code
        (queueYield .aborted k (viewHeld (reportedView x uid xk r s) s)))

/-! ## Frames (section 5.3) -/

/-- A BID from station X (R93). -/
def takeBid (x : Station) (b : BidBody) (s : State) : State :=
  match s.slot.view with
  | .free => viewHeld (bidView x b s) s
  | .held _ => s
  | .ownPending p => if p.sent then queueOccupied s else loseClaim p x (bidView x b s) s
  | .ownHeld _ _ => queueOccupied s

/-- A report of the holding X in a view HELD by X: kind set, expiry restarted, claim grace stopped (R94, R97). The unit
identifier stays the recorded one even when the report carries another: R86 takes it from the frame that set or last
changed the holder, and R94 and R97 name kind, expiry and grace alone (DESIGN CHOICE, log 44). -/
def refreshHeld (h : HeldView) (k : Kind) (r : Nat) (s : State) : State :=
  { s with slot :=
    { s.slot with view := .held { h with kind := k, expiry := reportExpiry r s, grace := none } } }

/-- An OCCUPIED from holder X (R94). -/
def takeOccupied (x : Station) (b : OccupiedBody) (s : State) : State :=
  match s.slot.view with
  | .free => viewHeld (reportedView x b.uid b.kind b.remaining s) s
  | .held h =>
    if h.station = x then refreshHeld h b.kind b.remaining s
    else viewHeld (reportedView x b.uid b.kind b.remaining s) s
  | .ownPending p => loseClaim p x (reportedView x b.uid b.kind b.remaining s) s
  | .ownHeld k _ => twoHolders k x b.uid b.kind b.remaining s

/-- A YIELD from station X (R96). -/
def takeYield (x : Station) (b : YieldBody) (s : State) : State :=
  let s1 := { s with slot :=
    { s.slot with lastYield := some { station := x, outcome := b.outcome, kind := b.kind } } }
  match s.slot.view with
  | .held h => if h.station = x ∧ h.uid = b.uid then viewFree s1 else s1
  | _ => s1

/-- The holding report of a TALLY from station X (R97). -/
def takeReport (x : Station) (t : TallyBody) (s : State) : State :=
  match kindOf t.slotKind, t.holdsSlot with
  | some k, true =>
    match s.slot.view with
    | .free => viewHeld (reportedView x t.uid k t.slotRemaining s) s
    | .held h =>
      if h.station = x then refreshHeld h k t.slotRemaining s
      else if x < h.station then viewHeld (reportedView x t.uid k t.slotRemaining s) s
      else s
    | .ownPending p => loseClaim p x (reportedView x t.uid k t.slotRemaining s) s
    | .ownHeld own _ => twoHolders own x t.uid k t.slotRemaining s
  | _, _ =>
    match s.slot.view with
    | .held h => if h.station = x ∧ h.grace = none then viewFree s else s
    | _ => s

/-! ## Own claim and own holding -/

/-- The Line Interface reports that the own BID has been sent (R89); a view that has left OWN_PENDING takes no
action on it (R170). -/
def bidSent (s : State) : State :=
  match s.slot.view with
  | .ownPending p =>
    { s with slot :=
      { s.slot with view := .ownPending { p with sent := true, window := startTimer s.time confirmationTicks } } }
  | _ => s

/-- The view becomes OWN_HELD with SLOT_WON, a BID that still waits is withdrawn (R88), and the grant goes to the
Sequencer (R90). -/
def winSlot (p : PendingView) (s : State) : State :=
  takeGrant p.intent
    (raiseOwn .slotWon p.intent.code
      { s with
        line := s.line.withdrawBid
        slot := { s.slot with view := .ownHeld p.intent { since := s.time, span := seconds s.tHold } } })

/-- CONFIRMATION_WINDOW_EXPIRY in OWN_PENDING (R90). The pending TALLY is recomposed whenever the view enters or
leaves OWN_HELD, so also when the grant is declined or aborted in the same taking (R102; log 10). -/
def execConfirmationWindowExpiry (s : State) : Host.Outcome State Fault Refusal :=
  match s.slot.view with
  | .ownPending p =>
    match p.window with
    | some _ => .next (arbitrate (recomposeTally (winSlot p s)))
    | none => .next s
  | _ => .next s

/-- The own hold timer expires (R100). -/
def overrunHold (k : Kind) (s : State) : State :=
  overrunSlot (raiseOwn .slotExpired k.code (queueYield .overrun k (viewFree s)))

/-- OWN_HOLD_EXPIRY (R100). -/
def execOwnHoldExpiry (s : State) : Host.Outcome State Fault Refusal :=
  match s.slot.view with
  | .ownHeld k _ => .next (finish s (overrunHold k s))
  | _ => .next s

/-! ## CONFLICT -/

/-- The view on CONFLICT: OWN_PENDING or OWN_HELD becomes FREE, without a YIELD (R105). -/
def dropSlot (s : State) : State := if s.slot.view.isOwn then viewFree s else s

/-- The Line Interface on CONFLICT: the set is emptied, the frame in the transmitter cut off, the tally timer
stopped (R166, R172, R174). -/
def silenceLine (s : State) : State :=
  { s with line :=
    { s.line with
      set := { tally := none, bid := none, occupied := none, yield := none }, tx := .quiet, tally := none } }

/-- The wind-down by train state (R131). -/
def windDown (s : State) : State :=
  match s.sequencer.train with
  | .rest | .ready | .withheld | .unconfigured => moveTo .aborted .conflict s
  | .fill | .pressurize | .divert => leaveStart s
  | .running => enterUnload false s
  | .unload => unstage s
  | .tripped | .flush | .conflict => s

/-- The first detection of a duplicate station number: DUPLICATE_STATION with the frame's class, the conflict mark
with its STATE_CHANGE, the line silenced, the slot dropped, the train wound down (R60, R61, R105, R131). Later
detections change nothing. -/
def enterConflict (cls : Nat) (s : State) : State :=
  if s.sequencer.conflict then s
  else
    let s1 := raiseOwn .duplicateStation cls s
    let s2 := noteChange s { s1 with sequencer := { s1.sequencer with conflict := true } }
    windDown (dropSlot (silenceLine s2))

end Sys2Proof.Machine
end

