-- ==== Sys2Proof/Machine/Line.lean ====
section
/-! DEFINITION. The Line Interface (chapter 9): reception of a frame and its hand-on, the echo, the transmitter's commands and the TALLY schedule. -/

namespace Sys2Proof.Machine

open Sys2Proof

/-! ## Reception (section 9.3) -/

/-- The receive error counter increases by 1 (R164, R39, R92). -/
def countRxError (s : State) : State := { s with line := { s.line with rxErr := satInc 255 s.line.rxErr } }

/-- The own frame's deferral after the n-th consecutive damaged attempt: 1 plus a six-bit group of the unit
identifier, the groups taken in turn (R169; log 16). -/
def deferralAfter (uid : UnitId) (n : Nat) : Nat := 1 + uid.toNat / 2 ^ (6 * ((n - 1) % 6)) % 64

/-- A damaged attempt: the set the frame leaves behind, the consecutive-damage count and the deferral (R169). -/
def damagedAttempt (set : PendingSet) (s : State) : State :=
  let n := satInc 255 s.line.damage
  { s with line :=
    { s.line with set := set, damage := n, deferral := some (deferralAfter s.ident.uid n) }.release }

/-- Whether a damaged frame goes back to the set from ECHO: a BID withdrawn meanwhile (the view has left
OWN_PENDING), an OCCUPIED withdrawn meanwhile and any frame in CONFLICT do not (R88, R166; log 14). -/
def mayReturn (f : TxFrame) (s : State) : Bool :=
  !s.sequencer.conflict &&
    match f with
    | .bid _ => decide (s.slot.view.code = 2)
    | .occupied _ => s.slot.view.isOwn
    | .yield _ | .tally _ => true

/-- Whether a received frame is the own frame heard back (R165). -/
def State.isOwnEcho (s : State) (f : RxFrame) : Bool := decide (f.station = s.ident.station) && decide (f.uid = s.ident.uid)

/-- The own frame has been sent: it leaves the transmitter, and of a BID the Arbiter is told (R169, R89). -/
def frameSent (f : TxFrame) (s : State) : State :=
  let s1 := { s with line := { s.line with damage := 0 }.release }
  match f with
  | .bid _ => bidSent s1
  | _ => s1

/-- In ECHO the transmitter judges the frame its receiver took at this idle, `none` for one that was discarded
(R169). -/
def judgeEcho (rx : Option RxFrame) (s : State) : State :=
  match s.line.tx with
  | .echo f =>
    if (rx.map s.isOwnEcho).getD false then frameSent f s
    else damagedAttempt (if mayReturn f s then s.line.set.giveBack f else s.line.set) s
  | _ => s

/-- A frame of another station is handed on by class: a TALLY to the Roster (R39, R38) and its report to the
Arbiter (R97); a slot frame to the Arbiter (R92 to R96). A frame whose body fails its check is counted. Of one TALLY the
Roster acts first, with the minority test and the STOP request or the train's move that it causes, and the Arbiter then
examines the holds-slot report; no rule orders the two (DESIGN CHOICE, log 37). -/
def handOnForeign (f : RxFrame) (s : State) : State :=
  match f.cls with
  | 8 =>
    let t := tallyOf f.body
    if t.inRange then takeReport f.station t (takeTally f.station t s) else countRxError s
  | 1 => match occupiedOf f with
    | some b => takeOccupied f.station b s
    | none => countRxError s
  | 2 => match yieldOf f with
    | some b => takeYield f.station b s
    | none => countRxError s
  | 3 | 4 => match bidOf f with
    | some b => takeBid f.station b s
    | none => countRxError s
  | _ => s

/-- An accepted frame is handed on (R165): the own echo to the transmitter alone, a foreign identifier under the
own number to duplicate detection (R59), another station's frame by class. Nothing is handed on before the end of
configuration load. -/
def handOn (f : RxFrame) (s : State) : State :=
  if !s.loadEnded then s
  else if f.station = s.ident.station then
    if f.uid = s.ident.uid then s else enterConflict f.cls s
  else handOnForeign f s

/-- The line is idle (R161). -/
def lineIdle (s : State) : State := { s with line := { s.line with rx := .idle } }

/-- What the idle at the end of received characters brings (R161, R162, R164, R165, R169), glitches alone among them.
The echo is judged before the frame is handed on (log 15). -/
def receiveFrame (rx : List RxChar) (s : State) : State :=
  match receive rx with
  | .nothing => finish s (judgeEcho none (lineIdle s))
  | .discarded => finish s (judgeEcho none (countRxError (lineIdle s)))
  | .accepted f => finish s (handOn f (judgeEcho (some f) (lineIdle s)))

/-- TALLY_RECEIVED (R38). Every reception acts as its characters say (log 7). -/
def execTallyReceived (rx : List RxChar) (s : State) : Host.Outcome State Fault Refusal := .next (receiveFrame rx s)

/-- BID_RECEIVED (R93). -/
def execBidReceived (rx : List RxChar) (s : State) : Host.Outcome State Fault Refusal := .next (receiveFrame rx s)

/-- OCCUPIED_RECEIVED (R94). -/
def execOccupiedReceived (rx : List RxChar) (s : State) : Host.Outcome State Fault Refusal :=
  .next (receiveFrame rx s)

/-- YIELD_RECEIVED (R96). -/
def execYieldReceived (rx : List RxChar) (s : State) : Host.Outcome State Fault Refusal := .next (receiveFrame rx s)

/-- FRAME_DISCARDED (R164). -/
def execFrameDiscarded (rx : List RxChar) (s : State) : Host.Outcome State Fault Refusal :=
  .next (receiveFrame rx s)

/-- DUPLICATE_STATION (R59). -/
def execDuplicateStation (rx : List RxChar) (s : State) : Host.Outcome State Fault Refusal :=
  .next (receiveFrame rx s)

/-- OWN_ECHO (R169). -/
def execOwnEcho (rx : List RxChar) (s : State) : Host.Outcome State Fault Refusal := .next (receiveFrame rx s)

/-! ## Sending (section 9.4) -/

/-- The frame of lowest class in the set, and the set without it (R167): OCCUPIED, YIELD, BID, TALLY. -/
def PendingSet.takeFirst (p : PendingSet) : Option (TxFrame × PendingSet) :=
  match p.occupied, p.yield, p.bid, p.tally with
  | some b, _, _, _ => some (.occupied b, { p with occupied := none })
  | none, some b, _, _ => some (.yield b, { p with yield := none })
  | none, none, some b, _ => some (.bid b, { p with bid := none })
  | none, none, none, some b => some (.tally b, { p with tally := none })
  | none, none, none, none => none

/-- The receiver on seeing whether the line has been recessive for 11 bit times without a break (R161, R162): with them
it is idle, unless a reception is open, whose end its own row brings; without them an idle line has had a falling edge,
and after device reset the line is still not idle. -/
def Receiver.see (elevenBits : Bool) : Receiver → Receiver
  | .receiving => .receiving
  | .unsettled => if elevenBits then .idle else .unsettled
  | .idle => if elevenBits then .idle else .receiving

/-- The line as the receiver has seen it: recessive for some nanoseconds without a break (R161). -/
def seeLine (recessive : Nat) (s : State) : State :=
  { s with line := { s.line with rx := s.line.rx.see (holdsBitTimes s.ident.rate 11 recessive) } }

/-- The recessive line holds the 11 bit times of the idle and, with a deferral set, its d further bit times (R167). -/
def State.deferralRun (s : State) (recessive : Nat) : Bool :=
  holdsBitTimes s.ident.rate (11 + s.line.deferral.getD 0) recessive

/-- The frame of lowest class goes into the transmitter, and the part drives its first start bit, which its own receiver
takes like any other (R167). -/
def beginFrame (f : TxFrame) (rest : PendingSet) (s : State) : State :=
  { s with line := { s.line with set := rest, tx := .contend f, rx := .receiving, deferral := none } }

/-- TRANSMIT_BEGIN (R167): in WAIT the part begins when the line is idle and its deferral, if one is set, has run. Another
station's falling edge seen before that leaves it in WAIT, and the deferral counts afresh from the next idle, because the
recessive line that the receiver has seen does. That line is the command's operand (DESIGN CHOICE, log 23). -/
def execTransmitBegin (s : State) (recessive : Nat := 0) : Host.Outcome State Fault Refusal :=
  let seen := seeLine recessive s
  match s.line.tx, s.line.set.takeFirst with
  | .wait, some (f, rest) =>
    .next (if seen.line.rx = .idle ∧ s.deferralRun recessive = true then beginFrame f rest seen else seen)
  | _, _ => .next s

/-- CONTENTION_LOST (R168): the frame returns to the set and the transmit-loss counter increases. -/
def execContentionLost (s : State) : Host.Outcome State Fault Refusal :=
  match s.line.tx with
  | .contend f =>
    .next { s with line :=
      { s.line with set := s.line.set.giveBack f, txLoss := satInc 255 s.line.txLoss }.release }
  | _ => .next s

/-- LINE_FAULT (R168): the frame returns to the set as a damaged attempt. -/
def execLineFault (s : State) : Host.Outcome State Fault Refusal :=
  match s.line.tx with
  | .contend f => .next (damagedAttempt (s.line.set.giveBack f) s)
  | _ => .next s

/-- HEADER_WON (R168): CONTEND to SEND. -/
def execHeaderWon (s : State) : Host.Outcome State Fault Refusal :=
  match s.line.tx with
  | .contend f => .next { s with line := { s.line with tx := .send f } }
  | _ => .next s

/-- LAST_CRC_BIT_SENT (R169): SEND to ECHO. -/
def execLastCrcBitSent (s : State) : Host.Outcome State Fault Refusal :=
  match s.line.tx with
  | .send f => .next { s with line := { s.line with tx := .echo f } }
  | _ => .next s

/-! ## The TALLY schedule (section 9.5) -/

/-- A TALLY joins the set and the timer starts again for T_s (R171). -/
def sendTally (s : State) : State :=
  let s1 := queueTally s
  { s1 with line := { s1.line with tally := startTimer s.time s.tS, tallyFirst := false } }

/-- TALLY_TIMER_EXPIRY (R171). -/
def execTallyTimerExpiry (s : State) : Host.Outcome State Fault Refusal :=
  match s.line.tally with
  | some _ => .next (sendTally s)
  | none => .next s

/-- The tally timer at the end of configuration load: the station index × T_s / 16 (R171). -/
def startTallyTimer (s : State) : State :=
  { s with line :=
    { s.line with tally := startTimer s.time (s.ident.station.val * s.tS / 16), tallyFirst := true } }

/-- A running tally timer of a T_s period is compared with the T_s in force, and expires when that has elapsed;
the first offset runs on (R172). -/
def compareTally (s : State) : State :=
  match s.line.tally with
  | some t =>
    if s.line.tallyFirst then s
    else if t.since + s.tS ≤ s.time then sendTally s
    else { s with line := { s.line with tally := some { t with span := s.tS } } }
  | none => s

end Sys2Proof.Machine
end

