-- ==== Sys2Proof/Machine/Port.lean ====
section
/-! DEFINITION. The Train Port (chapter 10): samples and their hand-on, the scanner, errors, LOST and its end. -/

namespace Sys2Proof.Machine

open Sys2Proof

/-! ## Words and channels (section 10.6) -/

/-- A code scaled and clamped to lo and hi (R184). -/
def scaleCode (c : Scaling) (code : Nat) : Nat :=
  (clampInt c.lo c.hi
    ((c.lo : Int) + (((code : Int) - c.codeLo) * ((c.hi : Int) - c.lo)).tdiv ((c.codeHi : Int) - c.codeLo))).toNat

/-- The value of a word stored to a channel, `none` for a sample that leaves it invalid: scaled within the codes
(R184, R185), the drive status word as it is (R186), the identity word when it is the configured one (R187); under the
fixed settings channels 0 to 5 are invalid and 7 is not compared (R188). -/
def judgeWord (st : PortSettings) (c : Channel) (w : Word16) : Option Nat :=
  if h : c.val < 6 then
    match st.scaling with
    | some v =>
      let sc := v[c.val]
      if sc.underCode ≤ w.toNat ∧ w.toNat ≤ sc.overCode then some (scaleCode sc w.toNat) else none
    | none => none
  else if c = 6 then some w.toNat
  else
    match st.identity with
    | some i => if i = w then some w.toNat else none
    | none => some w.toNat

/-- A channel entry after a sample (R185). -/
def ChannelEntry.after (e : ChannelEntry) (now : Nat) : Option Nat → ChannelEntry
  | some v => { value := v, invalidSince := none }
  | none => { e with invalidSince := e.invalidSince.orElse fun _ => some now }

/-- A channel entry replaced in its place. -/
def setChannel (c : Channel) (e : ChannelEntry) (s : State) : State :=
  { s with port := { s.port with channels := s.port.channels.set c e } }

/-- The next enabled channel above one, wrapping from 7 to 0 (R179). -/
def nextEnabled (mask : BitVec 8) (c : Channel) : Channel :=
  (([1, 2, 3, 4, 5, 6, 7] : List Channel).map (c + ·)).find? (fun d => mask.getLsbD d.val) |>.getD c

/-! ## Hand-on of a sample (R185) -/

/-- Channel 2 becoming invalid stops the quality timer (R115). -/
def stopQuality (s : State) : State := { s with sequencer := { s.sequencer with quality := none } }

/-- A sample is handed to the blocks that use its channel, in the order of R185's table (log 12). -/
def handSample (c : Channel) (valid : Bool) (s : State) : State :=
  match c with
  | 0 => if valid then judgeLowSuction s else s
  | 1 =>
    let s1 := rampArrived (trimSample valid s)
    judgeInstrument (if valid then integrate (pressurizeTest s1) else s1)
  | 2 => if valid then judgeQualityTrip (divertQuality (qualitySample s)) else stopQuality s
  | 3 => if valid then temperatureSample s else s
  | 4 => judgeLevel s
  | 5 => if valid then judgeHighPressure (pressurizeTest (pressureSample s)) else s
  | 6 => if s.loadEnded then judgeDriveFault (unloadTest s) else s
  | 7 => s

/-! ## Ends of transactions -/

/-- The transaction's number in a PORT_LOST record (R182). -/
def TxnKind.number : TxnKind → Nat
  | .read c => c.val
  | .valve _ => 8
  | .speed _ => 9

/-- A write that ended in error returns to its pending place, if that is empty (R180). -/
def giveBackWrite (k : TxnKind) (s : State) : State :=
  match k with
  | .read _ => s
  | .valve v => { s with port := { s.port with pendValve := s.port.pendValve.orElse fun _ => some v } }
  | .speed v => { s with port := { s.port with pendSpeed := s.port.pendSpeed.orElse fun _ => some v } }

/-- Every channel's change of validity, handed on without a sample (R182). -/
def channelsLost (s : State) : State := judgeInstrument (judgeLevel (stopQuality s))

/-- The port enters LOST (R182): PORT_LOST, every channel invalid, the retry timer started, PORT_LOSS judged. -/
def enterLost (k : TxnKind) (s : State) : State :=
  let s1 := raiseOwn .portLost k.number
    { s with port :=
      { s.port with
        state := .lost none
        channels := s.port.channels.map fun e => e.after s.time none
        retryTimer := startTimer s.time (seconds 1) } }
  channelsLost (if s.loadEnded then judgePortLoss s1 else s1)

/-- A transaction in error, or a read judged a mismatch (R182); the port is IDLE unless it becomes LOST. -/
def portError (k : TxnKind) (s : State) : State :=
  let n := satInc 255 s.port.errors
  let s1 := giveBackWrite k
    { s with port := { s.port with state := .idle, errors := n, pendRead := none } }
  if 3 ≤ n then enterLost k s1 else s1

/-- A scan read that named channel n has completed (R177, R178, R179). The pointer advances from where it stands, under
the mask now in force, also where a reload has come in while the read was in flight (DEDUCED, log 42). -/
def readDone (n : Channel) (s : State) : State :=
  { s with port :=
    { s.port with
      state := .idle
      errors := 0
      pendRead := some n
      pointer := nextEnabled s.portSettings.mask s.port.pointer } }

/-- A scan read naming n has returned a word under the settings it began with (R178, R187). -/
def takeWord (n : Channel) (st : PortSettings) (w : Word16) (s : State) : State :=
  match s.port.pendRead with
  | none => readDone n s
  | some p =>
    let v := judgeWord st p w
    let s1 := setChannel p (s.port.channels[p].after s.time v) s
    if p = 7 ∧ v = none then portError (.read n) s1 else handSample p v.isSome (readDone n s1)

/-- READ_COMPLETE (R178): the word is that of the two bytes read, low byte first (wordOfBytes, R177). -/
def execReadComplete (w : Word16) (s : State) : Host.Outcome State Fault Refusal :=
  match s.port.state with
  | .inTransaction { kind := .read n, settings := st } => .next (finish s (takeWord n st w s))
  | _ => .next s

/-- WRITE_COMPLETE (R177). -/
def execWriteComplete (s : State) : Host.Outcome State Fault Refusal :=
  match s.port.state with
  | .inTransaction { kind := .valve _, .. } | .inTransaction { kind := .speed _, .. } =>
    .next (finish s { s with port := { s.port with state := .idle, errors := 0 } })
  | _ => .next s

/-- A retry read in error (R183). -/
def retryFailed (s : State) : State :=
  { s with port :=
    { s.port with
      state := .lost none
      errors := satInc 255 s.port.errors
      pendRead := none
      retryTimer := startTimer s.time (seconds 1) } }

/-- TRANSACTION_ERROR (R182, R183). -/
def execTransactionError (s : State) : Host.Outcome State Fault Refusal :=
  match s.port.state with
  | .inTransaction t => .next (finish s (portError t.kind s))
  | .lost (some _) => .next (retryFailed s)
  | _ => .next s

/-- RETRY_TIMER_EXPIRY (R183): a retry read of the pointer's channel starts, and with it the pace timer (R179). -/
def execRetryTimerExpiry (s : State) : Host.Outcome State Fault Refusal :=
  match s.port.state, s.port.retryTimer with
  | .lost none, some _ =>
    .next { s with port :=
      { s.port with
        state := .lost (some { kind := .read s.port.pointer, settings := s.portSettings })
        retryTimer := none
        pace := startTimer s.time s.portSettings.tScan } }
  | _, _ => .next s

/-- The port is restored by a retry read that named channel n (R183). The pointer advances as after any read
(log 42). -/
def restorePort (n : Channel) (s : State) : State :=
  let s1 := raiseOwn .portRestored n.val
    { s with port :=
      { s.port with
        state := .idle
        retryTimer := none
        errors := 0
        pendRead := some n
        pointer := nextEnabled s.portSettings.mask s.port.pointer
        pendValve := some s.sequencer.valve
        pendSpeed := some s.trim.s } }
  if s.loadEnded then judgePortLoss s1 else s1

/-- RETRY_READ_COMPLETE (R183): the word is discarded. -/
def execRetryReadComplete (_w : Word16) (s : State) : Host.Outcome State Fault Refusal :=
  match s.port.state with
  | .lost (some { kind := .read n, .. }) => .next (finish s (restorePort n s))
  | _ => .next s

/-- SCAN_PACE_EXPIRY (R179, R181). -/
def execScanPaceExpiry (s : State) : Host.Outcome State Fault Refusal :=
  match s.port.pace with
  | some _ => .next (arbitrate { s with port := { s.port with pace := none } })
  | none => .next s

/-! ## New settings (R179, R188) -/

/-- A pointer that names a channel now left out moves to the next enabled one, and a running pace timer is compared
with the T_scan in force. -/
def adoptPortSettings (s : State) : State :=
  let st := s.portSettings
  { s with port :=
    { s.port with
      pointer := if st.mask.getLsbD s.port.pointer.val then s.port.pointer else nextEnabled st.mask s.port.pointer
      pace := match s.port.pace with
        | some t => if t.since + st.tScan ≤ s.time then none else some { t with span := st.tScan }
        | none => none } }

end Sys2Proof.Machine
end

