-- ==== Sys2Proof/Machine/SequencerTimers.lean ====
section
/-! DEFINITION. The expiries of the Train Sequencer's timers (chapter 6). A timer that does not run in the state its command names has no expiry, and the command has no effect (log 2). -/

namespace Sys2Proof.Machine

open Sys2Proof

/-- The rest timer expires: REST becomes READY; in any other state it is marked expired (R110). -/
def execRestTimerExpiry (s : State) : Host.Outcome State Fault Refusal :=
  match s.sequencer.rest with
  | .running _ =>
    let s1 := { s with sequencer := { s.sequencer with rest := .expired } }
    .next (finish s (if s.sequencer.train = .rest then moveTo .aborted .ready s1 else s1))
  | _ => .next s

/-- Whether the phase timer runs in a phase. -/
def State.inPhase (s : State) (t : Train) : Bool := decide (s.sequencer.train = t) && s.sequencer.phase.isSome

/-- T_fill expires: the start is counted, the train enters PRESSURIZE, and its test is made (R113, R114, R121). -/
def execFillExpiry (s : State) : Host.Outcome State Fault Refusal :=
  if s.inPhase .fill then
    .next (finish s (pressurizeTest (moveTo .aborted .pressurize
      { s with sequencer := { s.sequencer with starts := satInc 65535 s.sequencer.starts } })))
  else .next s

/-- A start has failed by timeout: start failures increase and START_FAIL arrives (R114, R115, R121, R156). -/
def startFailed (s : State) : State :=
  arrive .startFail
    { s with sequencer :=
      { s.sequencer with phase := none, failures := satInc 63 s.sequencer.failures } }

/-- T_press expires in PRESSURIZE (R114). -/
def execPressurizeTimeout (s : State) : Host.Outcome State Fault Refusal :=
  if s.inPhase .pressurize then .next (finish s (startFailed s)) else .next s

/-- T_divert expires in DIVERT (R115). -/
def execDivertTimeout (s : State) : Host.Outcome State Fault Refusal :=
  if s.inPhase .divert then .next (finish s (startFailed s)) else .next s

/-- The quality timer expires in DIVERT: the train enters RUNNING (R115, R116). -/
def execQualityTimerExpiry (s : State) : Host.Outcome State Fault Refusal :=
  match s.sequencer.train, s.sequencer.quality with
  | .divert, some _ => .next (finish s (enterRunning s))
  | _, _ => .next s

/-- The min-run timer expires (R117). -/
def execMinRunExpiry (s : State) : Host.Outcome State Fault Refusal :=
  match s.sequencer.minRun with
  | some _ => .next { s with sequencer := { s.sequencer with minRun := none, minRunMet := true } }
  | none => .next s

/-- T_unload expires in UNLOAD: the timeout is reported and DRIVE_FAULT arrives (R123, R151). -/
def execUnloadTimeout (s : State) : Host.Outcome State Fault Refusal :=
  if s.inPhase .unload then
    .next (finish s (arrive .driveFault { s with sequencer := { s.sequencer with phase := none } }))
  else .next s

/-- T_flush expires in FLUSH (R124). -/
def execFlushExpiry (s : State) : Host.Outcome State Fault Refusal :=
  if s.inPhase .flush then .next (finish s (endFlush s)) else .next s

end Sys2Proof.Machine
end

