-- ==== Sys2Proof/Machine/Load.lean ====
section
/-! DEFINITION. Device reset, the end of the load at device reset (R192), the end of a reload (R194) and the entry into UNCONFIGURED. -/

namespace Sys2Proof.Machine

open Sys2Proof

/-- DEVICE_RESET: every block takes its reset values, with the straps sampled (R192) and the lines at the levels they
have (log 5). From those values the port arbiter starts the reset valve word's write at once (R181, R188; log 11). The
factory identifier is no register and stays; the waiting commands are the model's own and stay. RESET's assertion and
its deassertion are this one command, so that at its end the load after the reset has begun (R190, R192; DESIGN CHOICE,
log 47). -/
def execDeviceReset (stn : BitVec 4) (rate : BitVec 2) (s : State) : Host.Outcome State Fault Refusal :=
  .next (arbitrate
    { State.afterReset { uid := s.ident.uid, station := stn.toFin, rate := rate } s.pins with pending := s.pending })

/-! ## The load at device reset (R192) -/

/-- The Loader installs a valid image: parameter set, configured flag, signature and TCF table (R191, R192, R194). -/
def install (i : Image) (s : State) : State :=
  { s with
    loader := { phase := .idle, params := some i.params, signature := i.signature, succeeded := true }
    capability := { s.capability with tcf := i.tcf } }

/-- The preload values are handed to the Sequencer (R119 to R121, R192). -/
def applyPreload (c : Preload) (s : State) : State :=
  { s with sequencer :=
    { s.sequencer with
      runSeconds := c.runHours * 3600, runTicks := 0, starts := c.starts, totalizer := c.totalizer, totRem := 0 } }

/-- The join wait of 3 × T_s begins (R87). -/
def startJoinWait (s : State) : State :=
  { s with slot := { s.slot with joinTimer := startTimer s.time (3 * s.tS), joinPassed := false } }

/-- A withhold cause that stands when the Sequencer starts is acted on (R111; log 13). -/
def judgeWithheld (s : State) : State := if s.withheld then withholdRises s else s

/-- A successful load at device reset (R192). -/
def loadSucceeded (i : Image) (s : State) : State :=
  let s1 := applyPreload i.preload (raiseOwn .configLoaded 0 (install i s))
  let s2 := startJoinWait (startEstimator i.params (startTallyTimer s1))
  let s3 := recompute (judgeAfresh (judgeWithheld (startRest s2)))
  minorityTest (adoptPortSettings s3)

/-- A failed load at device reset (R192, R130); the monitors that need no parameter start and judge the line and the
port state (R147, R150). -/
def loadFailed (reason : Nat) (s : State) : State :=
  let s1 := raiseOwn .configFailed reason
    { s with loader := { s.loader with phase := .idle, params := none, signature := 0 } }
  judgePortLoss (judgeExternal (startTallyTimer (moveTo .aborted .unconfigured s1)))

/-- CONFIG_LOAD_END (R192), with the TARIFF level at that moment (R18). -/
def execConfigLoadEnd (image : List Byte) (tariff : Bool) (s : State) : Host.Outcome State Fault Refusal :=
  let s0 := { s with pins := { s.pins with tariff := tariff } }
  match s.loader.phase with
  | .loading =>
    .next (finish s (match checkImage image with
      | .valid i => loadSucceeded i s0
      | .failed r => loadFailed r s0))
  | .idle | .reloading => .next s

/-! ## A successful reload (R194) -/

/-- A running settle gap is compared with the T_gap in force (R106). -/
def compareGap (s : State) : State :=
  match s.slot.gap with
  | some t =>
    let t' : Timer := { t with span := seconds s.tGap }
    { s with slot := { s.slot with gap := if t'.isDue s.time then none else some t' } }
  | none => s

/-- A running rest timer is compared with the new Min rest, and expires at once where that has elapsed (R110). -/
def compareRest (p : Params) (s : State) : State :=
  match s.sequencer.rest with
  | .running t =>
    let t' : Timer := { t with span := seconds (p.minRestMin * 60) }
    if t'.isDue s.time then
      let s1 := { s with sequencer := { s.sequencer with rest := .expired } }
      if s.sequencer.train = .rest then moveTo .aborted .ready s1 else s1
    else { s with sequencer := { s.sequencer with rest := .running t' } }
  | _ => s

/-- The state a train leaves UNCONFIGURED for (R130). -/
def State.unconfiguredExit (s : State) : Train :=
  if s.protection.latches.any then .tripped else if s.withheld then .withheld else .rest

/-- The part leaves UNCONFIGURED by a reload: join wait, train state with its rest timer, conditions judged afresh
(R87, R110, R130, R147; log 32). -/
def leaveUnconfigured (s : State) : State :=
  let s1 := startRest (startJoinWait s)
  judgeAfresh (moveTo .aborted s1.unconfiguredExit s1)

/-- Staging resets its counters (R85). -/
def resetCounters (s : State) : State := { s with staging := { s.staging with up := 0, down := 0 } }

/-- A successful reload (R194), block by block in the order of its list. -/
def reloadSucceeded (i : Image) (s : State) : State :=
  let s1 := minorityTest (rejudge s.loader.signature (raiseOwn .configLoaded 1 (install i s)))
  let s2 := if s.configured then reloadEstimator i.params s1 else judgeLevel (startEstimator i.params s1)
  let s3 := compareGap (cancelRequest (some .aborted) (resetCounters (recompute s2)))
  let s4 := if s.configured then compareRest i.params s3 else leaveUnconfigured s3
  compareTally (adoptPortSettings (compareSilences s4))

/-! ## Entry into UNCONFIGURED by a failed reload -/

/-- The Capability Unit on entering UNCONFIGURED (R35). -/
def stopCapability (s : State) : State :=
  { s with capability :=
    { s.capability with qmaxAvail := 0, unfit := false, cap := none, holdTimer := none, fallTarget := none } }

/-- Protection on entering UNCONFIGURED (R147). -/
def stopProtection (s : State) : State :=
  { s with protection :=
    { s.protection with highFlag := false, lowSuction := none, qualityTrip := none, instrument := none } }

/-- The train becomes UNCONFIGURED with its rest timer stopped (R130). -/
def trainUnconfigured (s : State) : State :=
  let s1 := moveTo .aborted .unconfigured s
  { s1 with sequencer := { s1.sequencer with rest := .stopped } }

/-- The join wait no longer counts as passed (R87), and one still running is stopped: R87 starts it anew when the part
leaves UNCONFIGURED and says nothing of the running one (DESIGN CHOICE, log 39). -/
def dropJoinWait (s : State) : State := { s with slot := { s.slot with joinTimer := none, joinPassed := false } }

/-- A failed reload of a configured part: CONFIG_FAILED, then each block's entry into UNCONFIGURED (R194, R20, R35,
R52, R55, R56, R85, R91, R130, R147, R172, R188). A request in OWN_PENDING is cancelled by R91 with its BID and OCCUPIED
withdrawn, and a YIELD if the BID was sent, where R174's table says of the set "kept" (DEDUCED, log 40). A running pace
timer keeps its time: R179 compares it at a successful reload alone, and the fixed T_scan comes in with the next
transaction (R188; DEDUCED, log 41). -/
def enterUnconfigured (reason : Nat) (s : State) : State :=
  let s1 := raiseOwn .configFailed reason
    { s with loader := { s.loader with phase := .idle, params := none, signature := 0 } }
  let s2 := setMinority false (cancelRequest (some .aborted) (trainUnconfigured s1))
  let s3 := stopEstimator (rejudge s.loader.signature s2)
  compareTally (compareSilences (dropJoinWait (stopProtection (resetCounters (stopCapability s3)))))

/-- The Loader ends a reload without a new parameter set: IDLE, with CONFIG_FAILED (R194). -/
def reloadDropped (reason : Nat) (s : State) : State :=
  raiseOwn .configFailed reason { s with loader := { s.loader with phase := .idle } }

/-- The end of a reload's reading (R194): the train state is judged before the image. -/
def endReload (image : List Byte) (s : State) : State :=
  if s.sequencer.train.mayReload = false ∨ s.sequencer.conflict = true then reloadDropped 9 s
  else
    match checkImage image with
    | .valid i => reloadSucceeded i s
    | .failed r => if s.configured then enterUnconfigured r s else reloadDropped r s

/-- RELOAD_END (R194), with the TARIFF level at that moment (R19). -/
def execReloadEnd (image : List Byte) (tariff : Bool) (s : State) : Host.Outcome State Fault Refusal :=
  match s.loader.phase with
  | .reloading => .next (finish s (endReload image { s with pins := { s.pins with tariff := tariff } }))
  | .idle | .loading => .next s

end Sys2Proof.Machine
end

