-- ==== Sys2Proof/Machine/LocalPort.lean ====
section
/-! DEFINITION. The local port's reads (chapter 11): the item layouts of section 11.7, set index, read item, pop event. The bytes of a reply are those clocked out after the operation byte; every byte beyond them reads 0 (R196; log 25). -/

namespace Sys2Proof.Machine

open Sys2Proof

/-! ## Fields -/

/-- A number in `n` bytes, shown as the largest value of the field where it exceeds it (section 11.7). -/
def capped (n v : Nat) : List Byte := beBytes n (min v (256 ^ n - 1))

/-- A flag byte. -/
def flagByte (b : Bool) : List Byte := beBytes 1 (flagNat b)

/-- The remaining whole seconds of a timer in `n` bytes. -/
def leftBytes (n : Nat) (t : Option Timer) (s : State) : List Byte := capped n (timerLeft t s.time)

/-- The running timer of the rest timer, if it runs. -/
def RestTimer.timer : RestTimer → Option Timer
  | .running t => some t
  | .stopped | .expired => none

/-- The withhold causes: the line in bit 0, command-withhold in bit 1, the minority cause in bit 2 (R111). -/
def State.causeBits (s : State) : Nat := packFlags [s.pins.withhold, s.lport.withholdCmd, s.roster.minority]

/-! ## Items (R197) -/

/-- Item 0, identity. -/
def identityItem (s : State) : List Byte :=
  beBytes 4 s.ident.uid.toNat ++ beBytes 1 (stationNumber s.ident.station) ++ beBytes 1 s.ident.rate.toNat ++
    flagByte s.configured ++ beBytes 2 s.loader.signature.toNat ++ beBytes 1 s.loader.phase.code

/-- Item 1, state and phase (R107). -/
def stateItem (s : State) : List Byte :=
  beBytes 1 s.ownCode ++ beBytes 1 s.sequencer.train.phaseCode ++ leftBytes 2 s.sequencer.phase s ++
    leftBytes 2 s.sequencer.quality s ++ leftBytes 2 s.sequencer.rest.timer s ++ leftBytes 2 s.sequencer.minRun s ++
    beBytes 1 s.causeBits

/-- Item 2, flags. -/
def flagsItem (s : State) : List Byte :=
  beBytes 1
      (packFlags
        [s.demand.overflow, s.demand.lowLow, s.capability.unfit, s.ownTally.levelValid, s.withheld, s.pins.withhold,
          s.lport.withholdCmd, s.roster.minority]) ++
    beBytes 1
      (packFlags
        [s.trim.settled, s.sequencer.minRunMet, s.sequencer.conflict, s.runPermit, s.attn, s.pins.tariff,
          s.pins.tripIn])

/-- Item 3, demand. -/
def demandItem (s : State) : List Byte :=
  beBytes 2 s.demand.qReq ++ beBytes 2 s.demand.d ++ flagByte s.demand.primed ++ beBytes 2 s.demand.level ++
    beBytes 1 s.demand.source.code ++ beBytes 2 (s.demand.lPrev.getD 0) ++ flagByte s.demand.lPrev.isSome ++
    beBytes 1 ((s.demand.profile.map profileCode).getD 2)

/-- Item 4, flow (R146). -/
def flowItem (s : State) : List Byte :=
  beBytes 2 s.staging.sp ++ beBytes 2 (s.chan 1) ++ beBytes 2 s.trim.s ++ beBytes 2 s.capability.qmaxAvail ++
    beBytes 1 s.effectiveClass.val ++ beBytes 1 s.capability.held.val ++ beBytes 2 s.trim.qEff ++
    beBytes 1 s.trim.mode.code ++ flagByte s.trim.settled ++ beBytes 1 s.trim.hold.code ++
    leftBytes 2 s.trim.settle s ++ leftBytes 2 s.trim.sat s

/-- The holder, kind, remaining time, withhold cause, sent flag and claim-grace flag of a view (R104). -/
def viewBytes (s : State) : List Byte :=
  match s.slot.view with
  | .free => List.replicate 6 0
  | .held h =>
    beBytes 1 (stationNumber h.station) ++ beBytes 1 h.kind.code ++ leftBytes 2 (some h.expiry) s ++
      beBytes 1 h.cause.code ++ beBytes 1 (packFlags [false, h.grace.isSome])
  | .ownPending p =>
    beBytes 1 (stationNumber s.ident.station) ++ beBytes 1 p.intent.code ++ beBytes 2 0 ++
      beBytes 1 p.cause.code ++ beBytes 1 (packFlags [p.sent, false])
  | .ownHeld k t =>
    beBytes 1 (stationNumber s.ident.station) ++ beBytes 1 k.code ++ leftBytes 2 (some t) s ++ beBytes 2 0

/-- The last YIELD heard, or 0 in all three (R96, R104). -/
def lastYieldBytes (s : State) : List Byte :=
  match s.slot.lastYield with
  | some y => beBytes 1 (stationNumber y.station) ++ beBytes 1 y.outcome.code ++ beBytes 1 y.kind.code
  | none => beBytes 3 0

/-- Item 5, slot view (R104). -/
def slotItem (s : State) : List Byte :=
  beBytes 1 s.slot.view.code ++ viewBytes s ++ leftBytes 1 s.slot.gap s ++ flagByte s.slot.joinPassed ++
    lastYieldBytes s

/-- The causes present now (R157, R160). -/
def State.presentBits (s : State) : Nat := packFlags (causes.map s.present)

/-- Item 6, latches and counts (R160). -/
def latchItem (s : State) : List Byte :=
  beBytes 2 s.protection.latches.bits ++ causes.flatMap (fun c => beBytes 1 (s.protection.counts.get c)) ++
    flagByte s.runPermit ++ beBytes 2 s.presentBits ++ leftBytes 2 s.protection.lowSuction s ++
    leftBytes 2 s.protection.qualityTrip s ++ leftBytes 2 s.protection.instrument s

/-- Item 7, stage counters (R71). -/
def stageItem (s : State) : List Byte :=
  beBytes 1 s.staging.up ++ beBytes 1 s.staging.down ++ beBytes 3 s.ownStartKey ++ beBytes 3 s.ownStopKey

/-- The whole seconds of a channel's invalid timer, 0 while valid, at most 65,535 (R185, R189). -/
def invalidBytes (s : State) (c : Channel) : List Byte :=
  match s.port.channels[c].invalidSince with
  | some t => capped 2 ((s.time - t) / 1024)
  | none => beBytes 2 0

/-- The retry flag (R176). -/
def PortState.retryFlag : PortState → Bool
  | .lost (some _) => true
  | _ => false

/-- Item 8, error counters (R173, R189). -/
def errorItem (s : State) : List Byte :=
  beBytes 1 s.line.rxErr ++ beBytes 1 s.line.txLoss ++ beBytes 1 s.line.damage ++ beBytes 1 s.line.tx.code ++
    beBytes 1
      (packFlags
        [s.line.set.tally.isSome, s.line.set.bid.isSome, s.line.set.occupied.isSome, s.line.set.yield.isSome]) ++
    beBytes 1 s.port.state.code ++ flagByte s.port.state.retryFlag ++ beBytes 1 s.port.errors ++
    beBytes 1 ((s.port.pendRead.map (·.val)).getD 15) ++ beBytes 1 s.port.pointer.val ++
    beBytes 1 (packFlags [s.port.pendValve.isSome, s.port.pendSpeed.isSome]) ++
    beBytes 1 (packFlags (channelList.map s.chanValid)) ++ channelList.flatMap (invalidBytes s)

/-- Item 9, a roster entry (R37). -/
def rosterItem (i : Station) (s : State) : List Byte :=
  let e := s.entry i
  let t := e.tally
  beBytes 1 (stationNumber i) ++ beBytes 1 e.validity.code ++ beBytes 4 t.uid.toNat ++ beBytes 1 t.stateCode ++
    beBytes 1 t.phaseCode ++ beBytes 1 t.flags ++ beBytes 1 t.health ++ beBytes 1 t.failures ++ beBytes 2 t.flow ++
    beBytes 2 t.qmin ++ beBytes 2 t.qmaxAvail ++ beBytes 4 t.totalizer ++ beBytes 4 t.runHours ++
    beBytes 2 t.starts ++ beBytes 2 t.signature.toNat ++ beBytes 2 t.level ++ beBytes 1 t.slotKind ++
    beBytes 2 t.slotRemaining ++ capped 2 ((e.silence.map fun m => (s.time - m) / 1024).getD 0) ++
    flagByte e.snapshot.isSome

/-- Item 10, queue. -/
def queueItem (s : State) : List Byte :=
  beBytes 1 s.queue.records.length ++ beBytes 1 s.queue.seq.toNat ++ flagByte s.queue.pendingLoss

/-- The contents of the item named by the two indices; none for an index above 10 or a roster item whose second
index is outside 1 to 16 (R196, R197). -/
def itemContents (item second : Nat) (s : State) : Option (List Byte) :=
  match item with
  | 0 => some (identityItem s)
  | 1 => some (stateItem s)
  | 2 => some (flagsItem s)
  | 3 => some (demandItem s)
  | 4 => some (flowItem s)
  | 5 => some (slotItem s)
  | 6 => some (latchItem s)
  | 7 => some (stageItem s)
  | 8 => some (errorItem s)
  | 9 => if 1 ≤ second ∧ second ≤ 16 then some (rosterItem (Fin.ofNat 16 (second - 1)) s) else none
  | 10 => some (queueItem s)
  | _ => none

/-- The reply to a read: the item index and the contents, or FFh (R196). -/
def readReply (s : State) : List Byte :=
  match itemContents s.lport.item.toNat s.lport.second.toNat s with
  | some l => s.lport.item :: l
  | none => [0xFF]

/-! ## Operations -/

/-- SET_INDEX (R196): each index byte is stored as it completes; a byte cut off leaves its old value. Nothing is
clocked out. -/
def execSetIndex (item second : Option Byte) (s : State) : Host.Outcome State Fault Refusal :=
  .next (answer []
    { s with lport := { s.lport with item := item.getD s.lport.item, second := second.getD s.lport.second } })

/-- READ_ITEM (R196, R197), with the TARIFF level at that moment. -/
def execReadItem (tariff : Bool) (s : State) : Host.Outcome State Fault Refusal :=
  let s1 := { s with pins := { s.pins with tariff := tariff } }
  .next (answer (readReply s1) s1)

/-- A record in the layout of section 11.7; elapsed seconds are a 32-bit count (log 26). -/
def Record.bytes (r : Record) : List Byte :=
  let ticks := r.time % 1024
  beBytes 1 r.seq.toNat ++ beBytes 4 (r.time / 1024) ++ beBytes 1 (128 * flagNat r.loss + ticks / 256) ++
    beBytes 1 ticks ++ beBytes 1 r.kind.code ++ beBytes 1 r.station ++ beBytes 1 r.detail

/-- POP_EVENT (R200): a copy of the oldest record, or the empty marker of ten bytes of 0. -/
def execPopEvent (s : State) : Host.Outcome State Fault Refusal :=
  match s.queue.records with
  | r :: _ => .next { s with lport := { s.lport with reply := r.bytes, pop := some (.copy r true) } }
  | [] => .next { s with lport := { s.lport with reply := List.replicate 10 0, pop := some .marker } }

/-- POP_EVENT_END (R200): the record leaves the queue when its last byte has been clocked out; one that R201 has
removed meanwhile is removed no second time. -/
def execPopEventEnd (s : State) : Host.Outcome State Fault Refusal :=
  match s.lport.pop with
  | some (.copy _ true) =>
    .next { s with
      queue := { s.queue with records := s.queue.records.tail }
      lport := { s.lport with pop := none } }
  | some _ => .next { s with lport := { s.lport with pop := none } }
  | none => .next s

end Sys2Proof.Machine
end

