-- ==== Sys2Proof/Machine/Clock.lean ====
section
/-! DEFINITION. What the part does of its own accord while no command waits (log 1): a timer that is due gives its expiry command; otherwise the port arbiter decides (R181) and one tick of 1/1024 s passes (00_scope, section 4.1), with the run time counted while the run command is on (R120) and a quiet line found idle (R161). -/

namespace Sys2Proof.Machine

open Sys2Proof

/-! ## Timers that are due -/

/-- A command offered when a condition holds. -/
def offer (b : Bool) (c : Instr) : List Instr := if b then [c] else []

/-- The expiry commands of chapters 1 and 2. -/
def State.dueDemand (s : State) : List Instr :=
  offer (s.configured && timerDue s.demand.periodTimer s.time) (.demandPeriodEnd s.pins.tariff) ++
    offer (timerDue s.demand.lostTimer s.time) .levelLost ++
    offer (s.capability.fallTarget.isSome && timerDue s.capability.holdTimer s.time) .classHoldExpiry

/-- The silences that have reached their thresholds (R46, R47). -/
def State.dueSilence (s : State) : List Instr :=
  stations.flatMap fun i =>
    offer (s.canGoStale i && silentFor 4 s.roster.entries[i] s) (.peerStale i) ++
      offer (s.canDrop i && silentFor 64 s.roster.entries[i] s) (.peerDropped i)

/-- The timer of the view, by view (R89, R97, R100, R101). -/
def State.dueView (s : State) : List Instr :=
  match s.slot.view with
  | .free => []
  | .held h => offer (timerDue h.grace s.time) .claimGraceExpiry ++ offer (h.expiry.isDue s.time) .heldViewExpiry
  | .ownPending p => offer (timerDue p.window s.time) .confirmationWindowExpiry
  | .ownHeld _ t => offer (t.isDue s.time) .ownHoldExpiry

/-- The expiry commands of chapter 5. -/
def State.dueSlot (s : State) : List Instr :=
  s.dueView ++ offer (timerDue s.slot.gap s.time) .settleGapExpiry ++
    offer (timerDue s.slot.joinTimer s.time) .joinWaitExpiry

/-- The phase timer's expiry, by phase (R113 to R115, R123, R124). -/
def phaseExpiry : Train → List Instr
  | .fill => [.fillExpiry]
  | .pressurize => [.pressurizeTimeout]
  | .divert => [.divertTimeout]
  | .unload => [.unloadTimeout]
  | .flush => [.flushExpiry]
  | _ => []

/-- The expiry commands of chapter 6. -/
def State.dueSequencer (s : State) : List Instr :=
  (if timerDue s.sequencer.phase s.time then phaseExpiry s.sequencer.train else []) ++
    offer (decide (s.sequencer.train = .divert) && timerDue s.sequencer.quality s.time) .qualityTimerExpiry ++
    offer (timerDue s.sequencer.minRun s.time) .minRunExpiry ++
    offer (timerDue s.sequencer.rest.timer s.time) .restTimerExpiry

/-- The expiry commands of chapters 7 and 8. -/
def State.dueWatch (s : State) : List Instr :=
  offer (timerDue s.trim.settle s.time) .settleTimerExpiry ++
    offer (s.configured && timerDue s.trim.sat s.time) .saturationTimerExpiry ++
    offer (timerDue s.protection.lowSuction s.time) .lowSuctionExpiry ++
    offer (timerDue s.protection.qualityTrip s.time) .qualityTripExpiry ++
    offer (timerDue s.protection.instrument s.time) .instrumentExpiry

/-- The expiry commands of chapters 9 and 10. -/
def State.duePorts (s : State) : List Instr :=
  offer (timerDue s.line.tally s.time) .tallyTimerExpiry ++ offer (timerDue s.port.pace s.time) .scanPaceExpiry ++
    offer (decide (s.port.state = .lost none) && timerDue s.port.retryTimer s.time) .retryTimerExpiry

/-- Every expiry that is due. -/
def State.due (s : State) : List Instr :=
  s.dueDemand ++ s.dueSilence ++ s.dueSlot ++ s.dueSequencer ++ s.dueWatch ++ s.duePorts

/-! ## One tick -/

/-- The largest run time, 2^32 × 3,600 - 1 seconds (R120). -/
def maxRunSeconds : Nat := 2 ^ 32 * 3600 - 1

/-- One tick of run time (R120). -/
def countRunTick (q : Sequencer) : Sequencer :=
  if q.runTicks + 1 < 1024 then { q with runTicks := q.runTicks + 1 }
  else if q.runSeconds < maxRunSeconds then { q with runSeconds := q.runSeconds + 1, runTicks := 0 }
  else q

/-- One tick of the time base. -/
def tick (s : State) : State :=
  { s with
    time := s.time + 1
    sequencer := if s.sequencer.valve.run then countRunTick s.sequencer else s.sequencer }

/-- The part on an empty queue: the first expiry that is due joins the queue, otherwise a tick passes (log 1). -/
def idle (s : State) : State :=
  match s.due with
  | c :: _ => { s with pending := [c] }
  | [] => tick (arbitrate s)

end Sys2Proof.Machine
end

