-- ==== Sys2Proof/Machine/Dispatch.lean ====
section
/-! DEFINITION. The meaning of every command: one arm per row of the table, in the order of the table. -/

namespace Sys2Proof.Machine

open Sys2Proof

def exec (i : Instr) (s : State) : Host.Outcome State Fault Refusal :=
  match i with
  | .deviceReset stn rate => Sys2Proof.Machine.execDeviceReset stn rate s
  | .configLoadEnd image tariff => Sys2Proof.Machine.execConfigLoadEnd image tariff s
  | .setIndex item second => Sys2Proof.Machine.execSetIndex item second s
  | .readItem tariff => Sys2Proof.Machine.execReadItem tariff s
  | .popEvent => Sys2Proof.Machine.execPopEvent s
  | .popEventEnd => Sys2Proof.Machine.execPopEventEnd s
  | .withhold => Sys2Proof.Machine.execWithhold s
  | .returnCmd => Sys2Proof.Machine.execReturn s
  | .clearTrips => Sys2Proof.Machine.execClearTrips s
  | .clearCounters => Sys2Proof.Machine.execClearCounters s
  | .reloadConfig => Sys2Proof.Machine.execReloadConfig s
  | .unknownCommand op => Sys2Proof.Machine.execUnknownCommand op s
  | .reloadEnd image tariff => Sys2Proof.Machine.execReloadEnd image tariff s
  | .withholdLineChange level => Sys2Proof.Machine.execWithholdLineChange level s
  | .tripInChange level => Sys2Proof.Machine.execTripInChange level s
  | .tallyReceived rx => Sys2Proof.Machine.execTallyReceived rx s
  | .bidReceived rx => Sys2Proof.Machine.execBidReceived rx s
  | .occupiedReceived rx => Sys2Proof.Machine.execOccupiedReceived rx s
  | .yieldReceived rx => Sys2Proof.Machine.execYieldReceived rx s
  | .frameDiscarded rx => Sys2Proof.Machine.execFrameDiscarded rx s
  | .duplicateStation rx => Sys2Proof.Machine.execDuplicateStation rx s
  | .ownEcho rx => Sys2Proof.Machine.execOwnEcho rx s
  | .transmitBegin recessive => Sys2Proof.Machine.execTransmitBegin s recessive
  | .contentionLost => Sys2Proof.Machine.execContentionLost s
  | .lineFault => Sys2Proof.Machine.execLineFault s
  | .demandPeriodEnd tariff => Sys2Proof.Machine.execDemandPeriodEnd tariff s
  | .levelLost => Sys2Proof.Machine.execLevelLost s
  | .classHoldExpiry => Sys2Proof.Machine.execClassHoldExpiry s
  | .peerStale station => Sys2Proof.Machine.execPeerStale station s
  | .peerDropped station => Sys2Proof.Machine.execPeerDropped station s
  | .confirmationWindowExpiry => Sys2Proof.Machine.execConfirmationWindowExpiry s
  | .ownHoldExpiry => Sys2Proof.Machine.execOwnHoldExpiry s
  | .heldViewExpiry => Sys2Proof.Machine.execHeldViewExpiry s
  | .settleGapExpiry => Sys2Proof.Machine.execSettleGapExpiry s
  | .joinWaitExpiry => Sys2Proof.Machine.execJoinWaitExpiry s
  | .claimGraceExpiry => Sys2Proof.Machine.execClaimGraceExpiry s
  | .restTimerExpiry => Sys2Proof.Machine.execRestTimerExpiry s
  | .fillExpiry => Sys2Proof.Machine.execFillExpiry s
  | .pressurizeTimeout => Sys2Proof.Machine.execPressurizeTimeout s
  | .qualityTimerExpiry => Sys2Proof.Machine.execQualityTimerExpiry s
  | .divertTimeout => Sys2Proof.Machine.execDivertTimeout s
  | .minRunExpiry => Sys2Proof.Machine.execMinRunExpiry s
  | .unloadTimeout => Sys2Proof.Machine.execUnloadTimeout s
  | .flushExpiry => Sys2Proof.Machine.execFlushExpiry s
  | .settleTimerExpiry => Sys2Proof.Machine.execSettleTimerExpiry s
  | .saturationTimerExpiry => Sys2Proof.Machine.execSaturationTimerExpiry s
  | .lowSuctionExpiry => Sys2Proof.Machine.execLowSuctionExpiry s
  | .qualityTripExpiry => Sys2Proof.Machine.execQualityTripExpiry s
  | .instrumentExpiry => Sys2Proof.Machine.execInstrumentExpiry s
  | .tallyTimerExpiry => Sys2Proof.Machine.execTallyTimerExpiry s
  | .scanPaceExpiry => Sys2Proof.Machine.execScanPaceExpiry s
  | .retryTimerExpiry => Sys2Proof.Machine.execRetryTimerExpiry s
  | .readComplete word => Sys2Proof.Machine.execReadComplete word s
  | .writeComplete => Sys2Proof.Machine.execWriteComplete s
  | .transactionError => Sys2Proof.Machine.execTransactionError s
  | .retryReadComplete word => Sys2Proof.Machine.execRetryReadComplete word s
  | .headerWon => Sys2Proof.Machine.execHeaderWon s
  | .lastCrcBitSent => Sys2Proof.Machine.execLastCrcBitSent s

end Sys2Proof.Machine
end

