-- ==== Sys2Proof/Safety.lean ====
section
/-! DEFINITION. The terms that claims about the part are made in: what a command leaves unchanged, block by block; the records a command raises; and the laws that the manual says its blocks hold, each strengthened to what every step keeps. -/

namespace Sys2Proof.Machine

open Sys2Proof

/-! ## Frames -/

/-- The parts of State, block by block. -/
inductive Block where
  | time
  | ident
  | pins
  | demand
  | capability
  | roster
  | staging
  | slot
  | sequencer
  | trim
  | protection
  | line
  | port
  | loader
  | lport
  | queue
  | pending
deriving DecidableEq, Repr

/-- A block is the same in two states. -/
def Block.same (b : Block) (s t : State) : Prop :=
  match b with
  | .time => t.time = s.time
  | .ident => t.ident = s.ident
  | .pins => t.pins = s.pins
  | .demand => t.demand = s.demand
  | .capability => t.capability = s.capability
  | .roster => t.roster = s.roster
  | .staging => t.staging = s.staging
  | .slot => t.slot = s.slot
  | .sequencer => t.sequencer = s.sequencer
  | .trim => t.trim = s.trim
  | .protection => t.protection = s.protection
  | .line => t.line = s.line
  | .port => t.port = s.port
  | .loader => t.loader = s.loader
  | .lport => t.lport = s.lport
  | .queue => t.queue = s.queue
  | .pending => t.pending = s.pending

/-- Every block outside a list is the same in two states. -/
def changesOnly (bs : List Block) (s t : State) : Prop := ∀ b : Block, b ∉ bs → b.same s t

/-! ## Records -/

/-- The own station number. -/
def State.own (s : State) : Nat := stationNumber s.ident.station

/-- Records created one after another (R199): kind, station and detail of each. -/
def raiseAll (l : List (EventKind × Nat × Nat)) (s : State) : State :=
  l.foldl (fun s r => raise r.1 r.2.1 r.2.2 s) s

/-- The event queue after records raised in order at the moment of a state. -/
def State.queueAfter (s : State) (l : List (EventKind × Nat × Nat)) : EventQueue := (raiseAll l s).queue

/-- A record is the first that a command raises. -/
def firstRaised (r : EventKind × Nat × Nat) (s t : State) : Prop :=
  ∃ more : List (EventKind × Nat × Nat), t.queue = s.queueAfter (r :: more)

/-- A record is among those that a command raises. -/
def raisedWithin (r : EventKind × Nat × Nat) (s t : State) : Prop :=
  ∃ l m : List (EventKind × Nat × Nat), t.queue = s.queueAfter (l ++ r :: m)

/-- The bytes of an item of the local port with its index byte (section 11.7). -/
def itemLength : Nat → Nat
  | 0 => 11
  | 1 => 12
  | 2 => 3
  | 3 => 13
  | 4 => 20
  | 5 => 13
  | 6 => 21
  | 7 => 9
  | 8 => 29
  | 9 => 38
  | 10 => 4
  | _ => 0

/-! ## Trips -/

/-- The cause that a command of these seven makes arrive, if any: the expiries of Protection's timers, the timeouts of
a start and of an unload, and TRIP-IN (R114, R115, R123, R150, R152, R154, R155). -/
def State.arrivalOf (s : State) (c : Instr) : Option Cause :=
  match c with
  | .lowSuctionExpiry => if s.protection.lowSuction.isSome then some .lowSuction else none
  | .qualityTripExpiry => if s.protection.qualityTrip.isSome then some .quality else none
  | .instrumentExpiry => if s.protection.instrument.isSome then some .instrument else none
  | .pressurizeTimeout => if s.inPhase .pressurize then some .startFail else none
  | .divertTimeout => if s.inPhase .divert then some .startFail else none
  | .unloadTimeout => if s.inPhase .unload then some .driveFault else none
  | .tripInChange true => if s.loadEnded && !s.protection.extFlag then some .external else none
  | _ => none

/-- The train state after a trip, by R128: to FLUSH where no set latch forbids it, else to TRIPPED, or to train state
CONFLICT under the conflict mark. -/
def State.afterTrip (s : State) (c : Cause) : Train :=
  let latches := s.protection.latches.put c true
  let ended : Train := if s.sequencer.conflict then .conflict else .tripped
  match s.sequencer.train with
  | .fill | .pressurize | .divert | .running | .unload | .flush =>
    if latches.external || latches.portLoss then ended else .flush
  | .rest | .ready | .withheld => .tripped
  | .tripped => .tripped
  | .unconfigured => .unconfigured
  | .conflict => .conflict

/-- The settle gap as a view that becomes FREE leaves it (R87). -/
def State.gapStarted (s : State) : Option Timer :=
  if s.tGap = 0 then none else startTimer s.time (seconds s.tGap)

/-- Where an entry to UNLOAD with the run command on leaves the train (R123, R141): with S at S_start already the run
command goes off at once, and a drive that a valid channel 6 reports at rest lets the train pass on to FLUSH. -/
def State.unloadsTo (s : State) (p : Params) : Train :=
  if s.trim.s = p.sStart ∧ s.chanValid 6 = true ∧ s.driveRunning = false then .flush else .unload

/-- Where a STARTING train that leaves its start without a trip goes (R125 to R127). -/
def State.abortsTo (s : State) (p : Params) : Train := if s.sequencer.train = .fill then .flush else s.unloadsTo p

/-- The view is FREE with the settle gap started, and a YIELD with an outcome and a kind is queued (R91, R99). -/
def givesSlotUp (o : YieldOutcome) (k : Kind) (s t : State) : Prop :=
  t.slot = { s.slot with view := .free, gap := s.gapStarted } ∧
    t.line.set.yield = some { uid := s.ident.uid, outcome := o, kind := k }

/-- A request has been taken (R67, R88): the view is OWN_PENDING with its intent, key and cause, unsent; the BID that
carries them is in the set; the settle gap is stopped and the stage counters are 0 (R80). -/
def takesClaim (k : Kind) (key : Nat) (cause : BidCause) (s t : State) : Prop :=
  t.slot =
      { s.slot with
        view := .ownPending { intent := k, key := key, cause := cause, sent := false, window := none }, gap := none } ∧
    t.line.set.bid = some { uid := s.ident.uid, intent := k, key := key, cause := cause } ∧
    t.staging.up = 0 ∧ t.staging.down = 0

/-- A pending claim has been cancelled (R91): the view is FREE with the settle gap started, no BID is left, and a YIELD
with an outcome is queued if the BID was sent and none otherwise. -/
def cancelsClaim (o : YieldOutcome) (q : PendingView) (s t : State) : Prop :=
  t.slot = { s.slot with view := .free, gap := s.gapStarted } ∧ t.line.set.bid = none ∧
    (q.sent = true → t.line.set.yield = some { uid := s.ident.uid, outcome := o, kind := q.intent }) ∧
    (q.sent = false → t.line.set.yield = s.line.set.yield)

/-! ## The level and the samples of the channels -/

/-- A reading is the lower median of readings: it is one of them, with at most half of the others below it and more than
half at or below it (R2). -/
def isLowerMedian (l : List Nat) (m : Nat) : Prop :=
  m ∈ l ∧ (l.filter fun n => decide (n < m)).length ≤ (l.length - 1) / 2 ∧
    (l.length - 1) / 2 < (l.filter fun n => decide (n ≤ m)).length

/-- The level and its source after a change of channel 4 or of the roster (R1 to R4): the own reading while channel 4 is
valid, else the lower median of the qualifying peers, else the level held with the level-lost timer running; out of LOST
with L_prev absent and LEVEL_RESTORED. -/
def levelFollows (p : Params) (s t : State) : Prop :=
  (t.chanValid 4 = true →
    t.demand.source = .own ∧ t.demand.level = min (t.chan 4) 10000 ∧ t.demand.lostTimer = none) ∧
  (t.chanValid 4 = false → t.qualifyingLevels ≠ [] →
    t.demand.source = .peers ∧ isLowerMedian t.qualifyingLevels t.demand.level ∧ t.demand.lostTimer = none) ∧
  (t.chanValid 4 = false → t.qualifyingLevels = [] → t.demand =
    if s.demand.source = .lost then s.demand
    else
      { s.demand with
        lostTimer := s.demand.lostTimer.orElse fun _ => some { since := s.time, span := p.levelLostDelay * 1024 } }) ∧
  (s.demand.source = .lost → t.demand.source ≠ .lost →
    t.demand.lPrev = none ∧ raisedWithin (.levelRestored, s.own, t.demand.source.code) s t) ∧
  (s.demand.source ≠ .lost → t.demand.lPrev = s.demand.lPrev) ∧
  t.demand =
    { s.demand with
      source := t.demand.source, level := t.demand.level, lostTimer := t.demand.lostTimer, lPrev := t.demand.lPrev }

/-- A timer that runs on, or is started now for a number of seconds, while a condition holds, and is stopped otherwise. -/
def timerWhile (c : Prop) [Decidable c] (now seconds : Nat) (t : Option Timer) : Option Timer :=
  if c then t.orElse fun _ => some { since := now, span := seconds * 1024 } else none

/-- A sample of channel 0 (R152). -/
def suctionSampleActs (p : Params) (s t : State) : Prop :=
  changesOnly [.protection, .port] s t ∧
  (t.chanValid 0 = false → t.protection = s.protection) ∧
  (t.chanValid 0 = true → t.protection =
    { s.protection with
      lowSuction := timerWhile
        (s.sequencer.valve.run = true ∧ p.port.mask.getLsbD 0 = true ∧ t.chan 0 < p.lowSuctionLimit) s.time p.tLs
        s.protection.lowSuction })

/-- Δt of a trim update (R136). -/
def State.trimTicks (s : State) : Nat :=
  match s.trim.last with
  | some m => min (s.time - m) 10240
  | none => 0

/-- q_eff after an update toward a target: moved by at most R_q over Δt (R137). -/
def State.rampedFlow (s : State) (p : Params) (target : Nat) : Int :=
  clampInt ((s.trim.qEff : Int) - (p.rQ * s.trimTicks / 1024 : Nat)) ((s.trim.qEff : Int) + (p.rQ * s.trimTicks / 1024 : Nat))
    target

/-- One trim update toward a target (R136 to R140): q_eff, the error of the flow sampled, the speed step clamped to R_s
over Δt, the pressure hold that takes a positive step to 0, S within S_min to S_max, and the moment; the records are a
PRESSURE_HOLD where the hold sets in, and the ones that follow. That the hold's reason is 2 wherever channel 5 is invalid
is the model's choice (log 46). -/
def trimUpdates (p : Params) (target : Nat) (more : List (EventKind × Nat × Nat)) (s t : State) : Prop :=
  let q := s.rampedFlow p target
  let hold : PressureHold :=
    if t.chanValid 5 = false then .channelInvalid else if p.pHold ≤ t.chan 5 then .atPressure else .clear
  let limit : Int := (p.rS * s.trimTicks / 1024 : Nat)
  let step := clampInt (-limit) limit (((q - t.chan 1) * p.ki).tdiv 1024)
  (t.trim.qEff : Int) = q ∧ t.trim.last = some s.time ∧ t.trim.hold = hold ∧ t.trim.mode = s.trim.mode ∧
    (t.trim.s : Int) = clampInt p.sMin p.sMax (s.trim.s + if hold ≠ .clear ∧ 0 < step then 0 else step) ∧
    t.queue = s.queueAfter
      ((if hold ≠ .clear ∧ s.trim.hold = .clear then [(.pressureHold, s.own, hold.code)] else []) ++ more)

/-- The Sequencer after the PRESSURIZE test (R114): DIVERT when it holds, with the quality timer started by a good
conductivity of a valid channel 2 (R115). -/
def State.pressureReached (s : State) (p : Params) (q : Sequencer) : Sequencer :=
  { q with
    train := .divert, phase := some { since := s.time, span := p.tDivert * 1024 }
    quality :=
      if s.chanValid 2 = true ∧ s.chan 2 ≤ p.kOk then some { since := s.time, span := p.tQual * 1024 } else none
    staged := false }

/-- The PRESSURIZE test on the channels as they stand (R114). -/
def State.pressureTest (s : State) (p : Params) : Prop :=
  s.chanValid 1 = true ∧ s.chanValid 5 = true ∧ p.pRunMin ≤ s.chan 5 ∧ p.qmin ≤ s.chan 1 + p.settleBand

/-- The instrument timer after a sample of channel 1 (R155). -/
def State.instrumentAfter (s : State) (valid : Bool) : Option Timer :=
  timerWhile (s.sequencer.valve.run = true ∧ valid = false) s.time 5 s.protection.instrument

/-- A valid sample of channel 1 in RUNNING: the update toward SP (R136 to R140), the cap cleared once S stands more than
200 below S_max (R34), the settle watch (R143), the saturation watch (R145), the totalizer (R119) and the instrument
timer stopped (R155). -/
def runningFlowActs (p : Params) (s t : State) : Prop :=
  let e := s.rampedFlow p s.staging.sp - t.chan 1
  let clears := t.trim.s + 200 < p.sMax ∧ s.capability.cap.isSome = true
  let chain := capacityChain p s.capability.tcf s.capability.temp s.capability.held none
  let near := ((s.staging.sp : Int) - t.chan 1).natAbs ≤ p.settleBand
  trimUpdates p s.staging.sp [] s t ∧
  changesOnly [.capability, .staging, .sequencer, .trim, .protection, .port, .lport, .queue] s t ∧
  (∀ m, s.sequencer.intPoint = some m →
    let units := s.sequencer.totRem + t.chan 1 * (s.time - m)
    t.sequencer =
      { s.sequencer with
        totalizer := (s.sequencer.totalizer + units / 3686400) % 2 ^ 32, totRem := units % 3686400,
        intPoint := some s.time }) ∧
  (s.sequencer.intPoint = none → t.sequencer = s.sequencer) ∧
  t.protection = { s.protection with instrument := none } ∧
  t.trim.sat = timerWhile (t.trim.s = p.sMax ∧ (p.settleBand : Int) < e) s.time p.satTime s.trim.sat ∧
  (¬clears → t.capability = s.capability ∧ t.staging = s.staging) ∧
  (clears →
    t.capability = { s.capability with cap := none, qmaxAvail := chain.1, unfit := chain.2 } ∧
      t.staging = { s.staging with sp := min s.staging.sp chain.1 }) ∧
  (t.staging = s.staging →
    t.trim.settle = timerWhile near s.time p.settleTime s.trim.settle ∧
      t.trim.settled = if near then s.trim.settled else false)

/-- An invalid sample of channel 1 in RUNNING: both timers of the watches stopped, the settled flag kept (R142, which
the model follows over a sentence of R143, log 35), nothing integrated (R119), the instrument timer running (R155). -/
def runningFlowFails (s t : State) : Prop :=
  t.trim = { s.trim with settle := none, sat := none } ∧
  t.protection = { s.protection with instrument := s.instrumentAfter false } ∧
  changesOnly [.trim, .protection, .port] s t

/-- A sample of channel 1 in PRESSURIZE or DIVERT: the update toward Qmin (R133, R136 to R140) and the PRESSURIZE test
(R114). -/
def startingFlowActs (p : Params) (s t : State) : Prop :=
  let passes := s.sequencer.train = .pressurize ∧ t.pressureTest p
  t.protection = { s.protection with instrument := s.instrumentAfter (t.chanValid 1) } ∧
  changesOnly [.sequencer, .trim, .protection, .port, .lport, .queue] s t ∧
  (t.chanValid 1 = false → t.trim = s.trim ∧ t.sequencer = s.sequencer ∧ t.queue = s.queue) ∧
  (t.chanValid 1 = true →
    (t.trim.settle = s.trim.settle ∧ t.trim.settled = s.trim.settled ∧ t.trim.sat = s.trim.sat) ∧
    (passes →
      trimUpdates p p.qmin [(.stateChange, s.own, t.ownCode * 16 + 3)] s t ∧
        t.sequencer = t.pressureReached p s.sequencer) ∧
    (¬passes → trimUpdates p p.qmin [] s t ∧ t.sequencer = s.sequencer))

/-- A sample of channel 1 in UNLOAD with the run command on, valid or not: S falls by R_s over Δt and not below S_start
(R141); at S_start the run command goes off with S 0, and a drive at rest lets the train pass on to FLUSH, a staged stop
releasing its slot COMPLETED (R123). -/
def rampFlowActs (p : Params) (s t : State) : Prop :=
  let v := max p.sStart (s.trim.s - p.rS * s.trimTicks / 1024)
  let rests := t.chanValid 6 = true ∧ t.driveRunning = false
  (v ≠ p.sStart →
    t.trim = { s.trim with s := v, last := some s.time } ∧ t.sequencer = s.sequencer ∧
      t.protection = { s.protection with instrument := s.instrumentAfter (t.chanValid 1) } ∧
      changesOnly [.trim, .protection, .port] s t) ∧
  (v = p.sStart →
    t.trim.s = 0 ∧ t.trim.mode = .off ∧ t.protection.instrument = none ∧
      t.sequencer.train = (if rests then .flush else .unload) ∧
      t.sequencer.valve =
        (if rests then { feed := false, dump := true, flush := true, run := false }
          else { feed := true, dump := true, flush := false, run := false }) ∧
      (rests → s.sequencer.staged = true → s.sequencer.conflict = false →
        ∀ k hold, s.slot.view = .ownHeld k hold → givesSlotUp .completed k s t) ∧
      (¬rests → t.slot = s.slot ∧ t.sequencer.staged = s.sequencer.staged))

/-- A sample of channel 1, by the train state (R133, R155). -/
def flowSampleActs (p : Params) (s t : State) : Prop :=
  (s.sequencer.train = .running → s.trim.mode = .trimSp →
    (t.chanValid 1 = true → runningFlowActs p s t) ∧ (t.chanValid 1 = false → runningFlowFails s t)) ∧
  ((s.sequencer.train = .pressurize ∨ s.sequencer.train = .divert) → s.trim.mode = .trimQmin →
    startingFlowActs p s t) ∧
  (s.sequencer.train = .unload → s.sequencer.valve.run = true → s.trim.mode = .rampDown → rampFlowActs p s t) ∧
  (s.sequencer.valve.run = false → s.trim.mode = .off →
    t.protection = { s.protection with instrument := none } ∧ changesOnly [.protection, .port] s t)

/-- The chain is recomputed for a temperature, a held class and the cap as it stands, and SP is brought down to a lower
capacity in RUNNING (R22 to R26, R84). -/
def capacityFollows (p : Params) (c : Capability) (s t : State) : Prop :=
  let chain := capacityChain p c.tcf c.temp c.held c.cap
  t.capability = { c with qmaxAvail := chain.1, unfit := chain.2 } ∧
    t.staging =
      { s.staging with
        sp := if s.sequencer.train = .running then min s.staging.sp chain.1 else s.staging.sp }

/-- The held class after new sub-classes (R30): it rises at once to a higher raw class, with the chain recomputed; an
equal one ends a pending fall; a lower one starts the class-hold timer, or raises the fall target while it runs. -/
def classFollows (p : Params) (quality pressure : Fin 4) (s t : State) : Prop :=
  let c := { s.capability with qualitySub := quality, pressureSub := pressure }
  let raw : Fin 4 := if quality < pressure then pressure else quality
  (c.held < raw → capacityFollows p { c with held := raw, holdTimer := none, fallTarget := none } s t) ∧
  (raw = c.held → t.capability = { c with holdTimer := none, fallTarget := none } ∧ t.staging = s.staging) ∧
  (raw < c.held → c.holdTimer = none →
    t.capability =
        { c with holdTimer := some { since := s.time, span := p.classHold * 1024 }, fallTarget := some raw } ∧
      t.staging = s.staging) ∧
  (raw < c.held → ∀ f, c.holdTimer.isSome = true → c.fallTarget = some f →
    t.capability = { c with fallTarget := some (if f < raw then raw else f) } ∧ t.staging = s.staging)

/-- A sample of channel 2: the quality sub-class in RUNNING (R28, R30), the quality timer in DIVERT (R115), the
quality-trip timer (R154); one that leaves it invalid stops the quality timer alone. -/
def conductivitySampleActs (p : Params) (s t : State) : Prop :=
  let v := t.chan 2
  let sub : Fin 4 := if v < p.k1 then 0 else if v < p.k2 then 1 else if v < p.k3 then 2 else 3
  (t.chanValid 2 = false →
    t.sequencer = { s.sequencer with quality := none } ∧ changesOnly [.sequencer, .port] s t) ∧
  (t.chanValid 2 = true →
    changesOnly [.capability, .staging, .sequencer, .trim, .protection, .port] s t ∧
    t.protection =
      { s.protection with
        qualityTrip :=
          timerWhile (s.sequencer.train = .running ∧ p.kTrip ≤ v) s.time p.tQt s.protection.qualityTrip } ∧
    t.sequencer =
      { s.sequencer with
        quality :=
          if s.sequencer.train = .divert then timerWhile (v ≤ p.kOk) s.time p.tQual s.sequencer.quality
          else s.sequencer.quality } ∧
    (s.sequencer.train = .running → classFollows p sub s.capability.pressureSub s t) ∧
    (s.sequencer.train ≠ .running →
      t.capability = s.capability ∧ t.staging = s.staging ∧ t.trim = s.trim))

/-- A sample of channel 3: T and the chain (R21, R26). -/
def temperatureSampleActs (p : Params) (s t : State) : Prop :=
  (t.chanValid 3 = false → changesOnly [.port] s t) ∧
  (t.chanValid 3 = true →
    capacityFollows p { s.capability with temp := min (t.chan 3) 4000 } s t ∧
      changesOnly [.capability, .staging, .trim, .port] s t)

/-- A cause has arrived (R148, R149): its count is raised and its latch set; with its latch clear before, TRIP is raised,
RUN-PERMIT goes and the train moves by its state (R128). -/
def causeArrives (k : Cause) (s t : State) : Prop :=
  t.protection.latches = s.protection.latches.put k true ∧
    t.protection.counts = s.protection.counts.put k (min 63 (s.protection.counts.get k + 1)) ∧ t.runPermit = false ∧
    (s.protection.latches.get k = false →
      raisedWithin (.trip, s.own, k.code) s t ∧ t.sequencer.train = s.afterTrip k)

/-- A sample of channel 5: the pressure sub-class with the run command on (R29, R30), the PRESSURIZE test (R114), and
HIGH_PRESSURE, which arrives when its condition holds and did not before (R153). -/
def pressureSampleActs (p : Params) (s t : State) : Prop :=
  let m : Int := (p.pDisLimit : Int) - t.chan 5
  let sub : Fin 4 := if (p.m1 : Int) ≤ m then 0 else if (p.m2 : Int) ≤ m then 1 else if (p.m3 : Int) ≤ m then 2 else 3
  let high := p.pTrip ≤ t.chan 5
  let passes := s.sequencer.train = .pressurize ∧ t.pressureTest p
  (t.chanValid 5 = false → changesOnly [.port] s t) ∧
  (t.chanValid 5 = true →
    t.protection.highFlag = decide high ∧
    (high → s.protection.highFlag = false → causeArrives .highPressure s t) ∧
    (¬(high ∧ s.protection.highFlag = false) →
      t.protection = { s.protection with highFlag := decide high } ∧
      changesOnly [.capability, .staging, .sequencer, .trim, .protection, .port, .lport, .queue] s t ∧
      (passes →
        t.sequencer = t.pressureReached p s.sequencer ∧
          t.queue = s.queueAfter [(.stateChange, s.own, t.ownCode * 16 + 3)]) ∧
      (¬passes → t.sequencer = s.sequencer ∧ t.queue = s.queue) ∧
      (s.sequencer.valve.run = true → classFollows p s.capability.qualitySub sub s t) ∧
      (s.sequencer.valve.run = false → t.capability = s.capability ∧ t.staging = s.staging ∧ t.trim = s.trim)))

/-- A sample of channel 6, after the end of the load: in UNLOAD with the run command off a drive at rest takes the train
to FLUSH, a staged stop releasing its slot COMPLETED (R123), and the fault flag makes DRIVE_FAULT arrive when it is set
and was not before (R151). -/
def driveSampleActs (s t : State) : Prop :=
  let rests := s.sequencer.train = .unload ∧ s.sequencer.valve.run = false ∧ t.driveRunning = false
  t.protection.driveFlag = t.driveFault ∧
  (t.driveFault = true → s.protection.driveFlag = false → causeArrives .driveFault s t) ∧
  (¬(t.driveFault = true ∧ s.protection.driveFlag = false) →
    t.protection.latches = s.protection.latches ∧ t.protection.counts = s.protection.counts ∧
    (rests →
      t.sequencer.train = .flush ∧ raisedWithin (.stateChange, s.own, t.ownCode * 16 + 5) s t ∧
        (s.sequencer.staged = true → s.sequencer.conflict = false →
          ∀ k hold, s.slot.view = .ownHeld k hold → givesSlotUp .completed k s t)) ∧
    (¬rests → changesOnly [.protection, .port] s t))

/-- What a sample of each channel does in the blocks that use it (R185): t is the state after the read that carried it, a
configured part's; channel 7 is the port's own. -/
def sampleActs (p : Params) (c : Channel) (s t : State) : Prop :=
  match c with
  | 0 => suctionSampleActs p s t
  | 1 => flowSampleActs p s t
  | 2 => conductivitySampleActs p s t
  | 3 => temperatureSampleActs p s t
  | 4 => levelFollows p s t ∧ changesOnly [.demand, .port, .lport, .queue] s t
  | 5 => pressureSampleActs p s t
  | 6 => driveSampleActs s t
  | 7 => True

/-- The scan pointer's advance (R179): the next enabled channel in ascending order, wrapping from 7 to 0. -/
def nextInScan (mask : BitVec 8) (c d : Channel) : Prop :=
  mask.getLsbD d.val = true ∧
    ∃ n, 1 ≤ n ∧ n ≤ 8 ∧ d.val = (c.val + n) % 8 ∧ ∀ m, 1 ≤ m → m < n → mask.getLsbD ((c.val + m) % 8) = false

/-! ## Laws -/

/-- The train states and phases that need a parameter set: every one with a running phase or a way into one. -/
def Train.needsParams : Train → Bool
  | .rest | .tripped | .withheld | .unconfigured | .conflict => false
  | .ready | .fill | .pressurize | .divert | .running | .unload | .flush => true

/-- R109 and R133: the run command is on only in PRESSURIZE, DIVERT, RUNNING and UNLOAD; S is 0 while it is off and
within S_start to S_max while it is on. The other fields are what a step needs to keep this. -/
structure SpeedLaw (s : State) : Prop where
  /-- the valve word is that of the train state, in UNLOAD with the run command on or off (R108) -/
  valve : s.sequencer.valve = valveOf s.sequencer.train ∨
    s.sequencer.train = .unload ∧ s.sequencer.valve = { valveOf .unload with run := false }
  /-- S is 0 whenever the run command is off, and Flow Trim is then OFF -/
  off : s.sequencer.valve.run = false → s.trim.s = 0 ∧ s.trim.mode = .off
  /-- S lies within S_start to S_max whenever the run command is on -/
  on : s.sequencer.valve.run = true → ∃ p, s.loader.params = some p ∧ p.sStart ≤ s.trim.s ∧ s.trim.s ≤ p.sMax
  /-- the limits of the parameter set in force, as the cross checks leave them (R191) -/
  limits : ∀ p, s.loader.params = some p → p.sStart ≤ p.sMin ∧ p.sMin ≤ p.sMax
  /-- without a parameter set the train waits, with the rest timer stopped (R110, R130) -/
  unset : s.loader.params = none → s.sequencer.train.needsParams = false ∧ s.sequencer.rest = .stopped
  /-- no parameter set stands before the end of the load at device reset (R190) -/
  loading : s.loader.phase = .loading → s.loader.params = none

/-- R25, R35 and R84: Qmax_avail lies within Qmin to 65,535 while configured, and at Qmin when UNFIT; it is 0
otherwise; SP lies within Qmin to Qmax_avail in RUNNING and is 0 in every other state. -/
structure CapacityLaw (s : State) : Prop where
  set : ∀ p, s.loader.params = some p →
    p.qmin ≤ s.capability.qmaxAvail ∧ s.capability.qmaxAvail ≤ 65535 ∧ p.qmin ≤ 65535 ∧
      (s.capability.unfit = true → s.capability.qmaxAvail = p.qmin)
  unset : s.loader.params = none → s.capability.qmaxAvail = 0 ∧ s.capability.unfit = false
  running : s.sequencer.train = .running →
    ∃ p, s.loader.params = some p ∧ p.qmin ≤ s.staging.sp ∧ s.staging.sp ≤ s.capability.qmaxAvail
  stopped : s.sequencer.train ≠ .running → s.staging.sp = 0

/-- R16: Q_req is within 0 to the Q_plant_max of the active profile; without an active profile it is 0. -/
structure DemandLaw (s : State) : Prop where
  active : ∀ f, s.activeProfile = some f → s.demand.qReq ≤ f.qPlantMax
  none : s.activeProfile = Option.none → s.demand.qReq = 0
  loading : s.loader.phase = .loading → s.loader.params = Option.none

/-- R148 and R149: while a latch is set, the train is TRIPPED, in FLUSH, UNCONFIGURED or in CONFLICT. -/
def LatchLaw (s : State) : Prop :=
  s.protection.latches.any = true →
    s.sequencer.train = .tripped ∨ s.sequencer.train = .flush ∨ s.sequencer.train = .unconfigured ∨
      s.sequencer.train = .conflict

/-- R91 and R98: a START claim is pending only in READY and a STOP claim only in RUNNING; the slot is held for a
start exactly in STARTING and for a stop exactly in UNLOAD by staged stop. -/
structure SlotLaw (s : State) : Prop where
  pending : ∀ q, s.slot.view = .ownPending q →
    match q.intent with
    | .start => s.sequencer.train = .ready
    | .stop => s.sequencer.train = .running
  held : ∀ k t, s.slot.view = .ownHeld k t →
    match k with
    | .start => s.sequencer.train.isStarting = true
    | .stop => s.sequencer.train = .unload ∧ s.sequencer.staged = true
  /-- R98: the own train is in STARTING only while the slot is held for a start -/
  starting : s.sequencer.train.isStarting = true → ∃ t, s.slot.view = .ownHeld .start t
  /-- R98: it is in UNLOAD by staged stop only while the slot is held for a stop -/
  stopping : s.sequencer.train = .unload → s.sequencer.staged = true → ∃ t, s.slot.view = .ownHeld .stop t
  loading : s.loader.phase = .loading → s.loader.params = none ∧ s.slot.view.isOwn = false

/-- R61, R105, R166 and R172: in CONFLICT the part holds no frame to send, its tally timer is stopped and it claims
and holds no slot. -/
def ConflictLaw (s : State) : Prop :=
  s.sequencer.conflict = true →
    s.line.set.isEmpty = true ∧ s.line.tx = .quiet ∧ s.line.tally = none ∧ s.slot.view.isOwn = false ∧
      s.loadEnded = true

/-- R37, R40 and R55: a LIVE peer matches, an EXCLUDED peer does not and has no snapshot, and an EMPTY peer entry
holds nothing; the own index holds no peer, and no peer is held before the end of configuration load. -/
structure RosterLaw (s : State) : Prop where
  live : ∀ i : Station, s.roster.entries[i].validity = .live →
    s.roster.entries[i].tally.matchesSig s.loader.signature = true
  excluded : ∀ i : Station, s.roster.entries[i].validity = .excluded →
    s.roster.entries[i].tally.matchesSig s.loader.signature = false ∧ s.roster.entries[i].snapshot = none
  empty : ∀ i : Station, i ≠ s.ident.station → s.roster.entries[i].validity = .empty → s.roster.entries[i] = Entry.none
  own : s.roster.entries[s.ident.station].validity = .empty
  loading : s.loader.phase = .loading → ∀ i : Station, s.roster.entries[i].validity = .empty

/-- R176, R182 and R183: in LOST every channel is invalid; the retry timer runs exactly in LOST without a retry read
in flight; outside LOST fewer than three errors stand in a row. -/
structure PortLaw (s : State) : Prop where
  channels : s.port.state.isLost = true → ∀ c, s.chanValid c = false
  retry : s.port.retryTimer.isSome = true ↔ s.port.state = .lost none
  errors : s.port.state.isLost = false → s.port.errors < 3

/-- R199 to R201: at most 32 records, numbered without a gap up to the sequence counter; the newest record's loss
flag is the pending-loss flag; the copy that a pop transfer clocks out is of the oldest record unless that has been
removed. -/
structure QueueLaw (s : State) : Prop where
  length : s.queue.records.length ≤ 32
  numbered : ∀ i (h : i < s.queue.records.length),
    s.queue.records[i].seq = s.queue.seq - BitVec.ofNat 8 (s.queue.records.length - i)
  newest : ∀ r, s.queue.records.getLast? = some r → r.loss = s.queue.pendingLoss
  copy : ∀ r, s.lport.pop = some (.copy r true) → s.queue.records.head? = some r

/-- The saturating and wrapping counters stay in their ranges (R76, R119 to R121, R148, R164, R168, R169, R182). -/
structure CounterLaw (s : State) : Prop where
  stages : s.staging.up ≤ 255 ∧ s.staging.down ≤ 255
  failures : s.sequencer.failures ≤ 63
  starts : s.sequencer.starts ≤ 65535
  runTime : s.sequencer.runSeconds ≤ maxRunSeconds ∧ s.sequencer.runTicks < 1024
  totalizer : s.sequencer.totalizer < 2 ^ 32 ∧ s.sequencer.totRem < unitsPerCount
  counts : ∀ c, s.protection.counts.get c ≤ 63
  line : s.line.rxErr ≤ 255 ∧ s.line.txLoss ≤ 255 ∧ s.line.damage ≤ 255
  errors : s.port.errors ≤ 255

end Sys2Proof.Machine
end

