-- ==== Sys2Proof/Certificates/Slice0/Obligations.lean ====
section
/-! DEFINITION. The statements about the part: the machine and its whole-machine rules, the laws every step keeps, the
commands' effects with what they leave unchanged, and the manual's formulas. An expiry command stands for its timer's
expiry whenever that timer runs, and the moment it comes is its sender's (log 3). -/

open Sys2Proof Sys2Proof.Machine

/-! ## The machine -/

/-- A step takes the command at the front of the queue, with the rest waiting. -/
def Obligations.StepTakesFrontCommand : Prop :=
  ∀ (c : Instr) (rest : List Instr) (s : State), s.pending = c :: rest →
    step s = exec c { s with pending := rest }

/-- On an empty queue (the model's choice, log 1): the first due expiry joins the queue; with none due one tick
passes, the run time counts it while the run command is on and stays at its end (R120), and nothing but the clock, the
run time and the port's next transaction changes. -/
def Obligations.EmptyQueueLetsTimePass : Prop :=
  ∀ s : State, s.pending = [] →
    (∀ c l, s.due = c :: l → step s = .next { s with pending := [c] }) ∧
    (s.due = [] → ∃ t, step s = .next t ∧ t.time = s.time + 1 ∧ changesOnly [.time, .sequencer, .port] s t ∧
      t.sequencer =
        { s.sequencer with runSeconds := t.sequencer.runSeconds, runTicks := t.sequencer.runTicks } ∧
      (s.sequencer.valve.run = false → t.sequencer = s.sequencer) ∧
      (s.sequencer.valve.run = true → s.sequencer.runTicks < 1024 → s.sequencer.runSeconds ≤ maxRunSeconds →
        t.sequencer.runSeconds * 1024 + t.sequencer.runTicks =
          min (s.sequencer.runSeconds * 1024 + s.sequencer.runTicks + 1) (maxRunSeconds * 1024 + 1023)))

/-- No command touches the queue of waiting commands, and none but DEVICE_RESET touches the clock, the unit identifier
or the straps' values. -/
def Obligations.CommandsKeepQueueClockAndIdentity : Prop :=
  ∀ (c : Instr) (s t : State), exec c s = .next t →
    t.pending = s.pending ∧
      ((∀ stn rate, c ≠ .deviceReset stn rate) → t.time = s.time ∧ t.ident = s.ident)

/-- The parameter set, the signature and the TCF table change only at device reset and at the end of a load or
reload; the Loader's state also at RELOAD CONFIG. -/
def Obligations.OnlyLoadsChangeParameters : Prop :=
  ∀ (c : Instr) (s t : State), exec c s = .next t →
    (∀ stn rate, c ≠ .deviceReset stn rate) → (∀ image tariff, c ≠ .configLoadEnd image tariff) →
    (∀ image tariff, c ≠ .reloadEnd image tariff) →
      t.loader.params = s.loader.params ∧ t.loader.signature = s.loader.signature ∧
        t.loader.succeeded = s.loader.succeeded ∧ t.capability.tcf = s.capability.tcf ∧
        (c ≠ .reloadConfig → t.loader = s.loader)

/-- The conflict mark, once set, stays until device reset. -/
def Obligations.ConflictLastsUntilReset : Prop :=
  ∀ (c : Instr) (s t : State), exec c s = .next t → s.sequencer.conflict = true →
    (∀ stn rate, c ≠ .deviceReset stn rate) → t.sequencer.conflict = true

/-- A trip latch is cleared only by CLEAR TRIPS while its cause is absent, or by device reset; and no count falls but
by CLEAR COUNTERS or device reset. -/
def Obligations.LatchesAndCountsOutlastEverythingElse : Prop :=
  ∀ (c : Instr) (s t : State) (k : Cause), exec c s = .next t → (∀ stn rate, c ≠ .deviceReset stn rate) →
    (s.protection.latches.get k = true → (c = .clearTrips → s.present k = true) →
      t.protection.latches.get k = true) ∧
    (c ≠ .clearCounters → s.protection.counts.get k ≤ 63 →
      s.protection.counts.get k ≤ t.protection.counts.get k)

/-- Each input line's held level and each flag and index the local processor writes changes only by its own
command. DEVICE_RESET keeps the two lines' levels (the model's choice, log 5). -/
def Obligations.InputsChangeOnlyByTheirOwnCommands : Prop :=
  ∀ (c : Instr) (s t : State), exec c s = .next t →
    (t.pins.withhold ≠ s.pins.withhold → ∃ level, c = .withholdLineChange level) ∧
    (t.pins.tripIn ≠ s.pins.tripIn → ∃ level, c = .tripInChange level) ∧
    ((∀ stn rate, c ≠ .deviceReset stn rate) →
      (t.lport.withholdCmd ≠ s.lport.withholdCmd → c = .withhold ∨ c = .returnCmd) ∧
      (t.lport.item ≠ s.lport.item ∨ t.lport.second ≠ s.lport.second → ∃ i j, c = .setIndex i j))

/-! ## Laws that every step keeps -/

/-- Every step keeps the speed law (R109, R133). -/
def Obligations.EveryStepKeepsSpeedLaw : Prop :=
  ∀ s t : State, SpeedLaw s → step s = .next t → SpeedLaw t

/-- Every step keeps the capacity law (R25, R35, R84), given the speed law. -/
def Obligations.EveryStepKeepsCapacityLaw : Prop :=
  ∀ s t : State, SpeedLaw s → CapacityLaw s → step s = .next t → CapacityLaw t

/-- Every step keeps the demand law (R16). -/
def Obligations.EveryStepKeepsDemandLaw : Prop :=
  ∀ s t : State, DemandLaw s → step s = .next t → DemandLaw t

/-- Every step keeps the latch law (R128, R148, R149). -/
def Obligations.EveryStepKeepsLatchLaw : Prop :=
  ∀ s t : State, LatchLaw s → step s = .next t → LatchLaw t

/-- Every step keeps the slot law, in both directions (R91, R98), given the latch law. -/
def Obligations.EveryStepKeepsSlotLaw : Prop :=
  ∀ s t : State, LatchLaw s → SlotLaw s → step s = .next t → SlotLaw t

/-- Every step keeps the conflict law (R61, R105, R166, R172). -/
def Obligations.EveryStepKeepsConflictLaw : Prop :=
  ∀ s t : State, ConflictLaw s → step s = .next t → ConflictLaw t

/-- Every step keeps the roster law (R37, R40, R55). -/
def Obligations.EveryStepKeepsRosterLaw : Prop :=
  ∀ s t : State, RosterLaw s → step s = .next t → RosterLaw t

/-- Every step keeps the port law (R176, R182, R183). -/
def Obligations.EveryStepKeepsPortLaw : Prop :=
  ∀ s t : State, PortLaw s → step s = .next t → PortLaw t

/-- Every step keeps the queue law (R199 to R201). -/
def Obligations.EveryStepKeepsQueueLaw : Prop :=
  ∀ s t : State, QueueLaw s → step s = .next t → QueueLaw t

/-- Every step keeps the counters in their ranges. -/
def Obligations.EveryStepKeepsCounterLaw : Prop :=
  ∀ s t : State, CounterLaw s → step s = .next t → CounterLaw t

/-- Every law holds right after reset. -/
def Obligations.LawsHoldAtReset : Prop :=
  SpeedLaw State.reset ∧ CapacityLaw State.reset ∧ DemandLaw State.reset ∧ LatchLaw State.reset ∧
    SlotLaw State.reset ∧ ConflictLaw State.reset ∧ RosterLaw State.reset ∧ PortLaw State.reset ∧
    QueueLaw State.reset ∧ CounterLaw State.reset

/-! ## Device reset, load and reload -/

/-- DEVICE_RESET: every block takes its reset values, and the straps are sampled; the identifier, the lines' levels
(log 5) and the waiting commands stay. Of the port's reset values (R176) the valve word's write is already under way, as
R188 has it written at once (log 11); the staged mark, the integration point and the first-offset mark have no reset
value in the spec (log 30). At the command's end RESET is deasserted again, so the load has begun and MCS is asserted
(the model's choice, log 47). -/
def Obligations.DeviceResetGivesResetValues : Prop :=
  ∀ (stn : BitVec 4) (rate : BitVec 2) (s : State), ∃ t, exec (.deviceReset stn rate) s = .next t ∧
    changesOnly
      [.time, .ident, .demand, .capability, .roster, .staging, .slot, .sequencer, .trim, .protection, .line, .port,
        .loader, .lport, .queue] s t ∧
    t.time = 0 ∧ t.ident = { uid := s.ident.uid, station := stn.toFin, rate := rate } ∧
    t.demand =
      { source := .lost, level := 0, lostTimer := none, lPrev := none, d := 0, primed := false, qReq := 0,
        profile := none, periodTimer := none, overflow := false, lowLow := false } ∧
    t.capability =
      { tcf := Vector.replicate 33 0, temp := 0, qualitySub := 0, pressureSub := 0, held := 0, holdTimer := none,
        fallTarget := none, cap := none, qmaxAvail := 0, unfit := false } ∧
    (∀ i : Station, t.roster.entries[i] = Entry.none) ∧ t.roster.minority = false ∧
    t.staging = { up := 0, down := 0, sp := 0 } ∧ t.ownStartKey = 0 ∧ t.ownStopKey = 0 ∧
    t.slot = { view := .free, gap := none, joinTimer := none, joinPassed := false, lastYield := none } ∧
    t.sequencer =
      { train := .rest, conflict := false, valve := { feed := false, dump := true, flush := false, run := false },
        phase := none, quality := none, minRun := none, minRunMet := false, rest := .stopped, staged := false,
        runSeconds := 0, runTicks := 0, starts := 0, failures := 0, totalizer := 0, totRem := 0, intPoint := none } ∧
    t.trim =
      { mode := .off, s := 0, qEff := 0, last := none, hold := .clear, settle := none, settled := false,
        sat := none } ∧
    (∀ k, t.protection.latches.get k = false ∧ t.protection.counts.get k = 0) ∧
    (t.protection.extFlag = false ∧ t.protection.driveFlag = false ∧ t.protection.highFlag = false ∧
      t.protection.portFlag = false) ∧
    t.protection.lowSuction = none ∧ t.protection.qualityTrip = none ∧ t.protection.instrument = none ∧
    t.runPermit = false ∧
    t.line =
      { set := { tally := none, bid := none, occupied := none, yield := none }, tx := .quiet, rx := .unsettled,
        deferral := none, damage := 0, rxErr := 0, txLoss := 0, tally := none, tallyFirst := false } ∧
    t.port =
      { state := .inTransaction { kind := .valve t.sequencer.valve, settings := fixedPortSettings },
        channels := Vector.replicate 8 { value := 0, invalidSince := some 0 }, pendRead := none, pointer := 0,
        pace := none, retryTimer := none, pendValve := none, pendSpeed := some 0, errors := 0 } ∧
    t.portBytes = [0x00, 0x02] ∧
    t.loader = { phase := .loading, params := none, signature := 0, succeeded := false } ∧
    t.mcs = true ∧ t.memoryCommand = [0x03, 0x00, 0x00] ∧
    t.lport.item = 0 ∧ t.lport.second = 1 ∧ t.lport.withholdCmd = false ∧
    t.queue = { records := [], seq := 0, pendingLoss := false } ∧ t.attn = false

/-- A successful load at device reset, in a part in REST with every latch and roster entry empty: parameter set,
configured flag, signature, table, preload counters, the timers it starts and CONFIG_LOADED with detail 0 first. A
withhold cause that holds takes the train to WITHHELD (R111). Each condition of a cause that holds is an arrival, which
latches, counts and trips the train (R147); with none RUN-PERMIT is asserted, and no further record is raised. -/
def Obligations.LoadInstallsImageAndStartsBlocks : Prop :=
  ∀ (image : List Byte) (tariff : Bool) (i : Image) (s : State), s.loader.phase = .loading →
    checkImage image = .valid i → s.sequencer.train = .rest → s.sequencer.conflict = false →
    s.sequencer.valve = valveOf .rest → s.protection.latches.any = false → s.roster.minority = false →
    (∀ j : Station, s.roster.entries[j].validity = .empty) →
      let holds : Cause → Bool := fun k =>
        match k with
        | .external => s.pins.tripIn
        | .driveFault => s.driveFault
        | .highPressure => decide (i.params.pTrip ≤ s.chan 5)
        | .portLoss => s.port.state.isLost
        | _ => false
      let trips := ∃ k, holds k = true
      let counted :=
        { s.sequencer with
          runSeconds := i.preload.runHours * 3600, runTicks := 0, starts := i.preload.starts,
          totalizer := i.preload.totalizer, totRem := 0,
          rest := .running { since := s.time, span := i.params.minRestMin * 60 * 1024 } }
      ∃ t, exec (.configLoadEnd image tariff) s = .next t ∧
        t.loader = { phase := .idle, params := some i.params, signature := i.signature, succeeded := true } ∧
        t.mcs = false ∧ t.capability.tcf = i.tcf ∧
        (t.capability.qmaxAvail, t.capability.unfit) =
          capacityChain i.params i.tcf s.capability.temp s.capability.held s.capability.cap ∧
        t.demand =
          { s.demand with
            profile := some (if tariff then .peak else .offPeak),
            periodTimer := some { since := s.time, span := i.params.tD * 1024 } } ∧
        t.slot =
          { s.slot with
            joinTimer := some { since := s.time, span := 3 * (i.params.tsCode * 256) }, joinPassed := false } ∧
        t.line.tally = some { since := s.time, span := s.ident.station.val * (i.params.tsCode * 256) / 16 } ∧
        t.line.tallyFirst = true ∧ (t.entry s.ident.station).validity = .live ∧
        (∀ k, t.protection.latches.get k = holds k ∧
          t.protection.counts.get k =
            if holds k then min 63 (s.protection.counts.get k + 1) else s.protection.counts.get k) ∧
        (trips →
          t.sequencer = { counted with train := .tripped, phase := none, quality := none, staged := false } ∧
            t.runPermit = false ∧ firstRaised (.configLoaded, s.own, 0) s t ∧
            ∀ k, holds k = true → raisedWithin (.trip, s.own, k.code) s t) ∧
        (¬trips → s.withheld = false →
          t.sequencer = counted ∧ t.runPermit = true ∧ t.queue = s.queueAfter [(.configLoaded, s.own, 0)]) ∧
        (¬trips → s.withheld = true →
          t.sequencer = { counted with train := .withheld, phase := none, quality := none, staged := false } ∧
            t.runPermit = true ∧
            t.queue = s.queueAfter [(.configLoaded, s.own, 0), (.stateChange, s.own, 112)]) ∧
        changesOnly
          [.pins, .demand, .capability, .slot, .sequencer, .protection, .line, .port, .loader, .lport, .queue] s t

/-- A load at device reset that fails: the part is UNCONFIGURED with the fixed T_s, the counters as they stood, and
CONFIG_FAILED with the reason before STATE_CHANGE (the order of the two is the model's, log 12). -/
def Obligations.FailedLoadLeavesPartUnconfigured : Prop :=
  ∀ (image : List Byte) (tariff : Bool) (r : Nat) (s : State), s.loader.phase = .loading →
    checkImage image = .failed r → s.sequencer.train = .rest → s.sequencer.conflict = false →
    s.sequencer.valve = valveOf .rest → s.pins.tripIn = false → s.port.state.isLost = false →
      ∃ t, exec (.configLoadEnd image tariff) s = .next t ∧
        t.loader = { s.loader with phase := .idle, params := none, signature := 0 } ∧
        t.sequencer =
          { s.sequencer with train := .unconfigured, phase := none, quality := none, staged := false } ∧
        (t.entry s.ident.station).validity = .live ∧ (t.entry s.ident.station).tally.stateCode = 0 ∧
        (t.entry s.ident.station).tally.qmin = 0 ∧ (t.entry s.ident.station).tally.signature = 0 ∧
        t.line = { s.line with
          tally := some { since := s.time, span := s.ident.station.val * 1024 / 16 }, tallyFirst := true } ∧
        t.runPermit = false ∧
        t.queue = s.queueAfter [(.configFailed, s.own, r), (.stateChange, s.own, 0)] ∧
        changesOnly [.pins, .sequencer, .protection, .line, .port, .loader, .lport, .queue] s t

/-- The end of a reload's reading that changes no parameter set: abandoned when the train state or the conflict mark
forbids it, whatever the image; and a failed image in a part already UNCONFIGURED. CONFIG_FAILED is the one record. -/
def Obligations.ReloadDroppedKeepsParameters : Prop :=
  ∀ (image : List Byte) (tariff : Bool) (r : Nat) (s : State), s.loader.phase = .reloading →
    (r = 9 ∧ (s.sequencer.train.mayReload = false ∨ s.sequencer.conflict = true)) ∨
      (checkImage image = .failed r ∧ s.configured = false ∧ s.sequencer.train.mayReload = true ∧
        s.sequencer.conflict = false) →
      ∃ t, exec (.reloadEnd image tariff) s = .next t ∧
        t.loader = { s.loader with phase := .idle } ∧
        t.queue = s.queueAfter [(.configFailed, s.own, r)] ∧ t.pins = { s.pins with tariff := tariff } ∧
        t.port.channels = s.port.channels ∧
        changesOnly [.pins, .port, .loader, .lport, .queue] s t

/-- A reload that fails in a configured part: every block's entry into UNCONFIGURED, with CONFIG_FAILED first (the
place of the record is the model's, log 12). A join wait that has passed no longer counts (R87), and one still running is
stopped: that clause is the model's choice, R87 speaking only of one that has passed (log 39). -/
def Obligations.FailedReloadEntersUnconfigured : Prop :=
  ∀ (image : List Byte) (tariff : Bool) (r : Nat) (s : State), s.loader.phase = .reloading →
    s.sequencer.train.mayReload = true → s.sequencer.conflict = false → s.configured = true →
    checkImage image = .failed r →
      ∃ t, exec (.reloadEnd image tariff) s = .next t ∧
        t.loader = { s.loader with phase := .idle, params := none, signature := 0 } ∧
        t.sequencer.train = .unconfigured ∧ t.sequencer.rest = .stopped ∧ t.runPermit = false ∧
        (t.sequencer.runSeconds = s.sequencer.runSeconds ∧ t.sequencer.starts = s.sequencer.starts ∧
          t.sequencer.failures = s.sequencer.failures ∧ t.sequencer.totalizer = s.sequencer.totalizer ∧
          t.sequencer.totRem = s.sequencer.totRem) ∧
        t.demand =
          { source := .lost, level := s.demand.level, lostTimer := none, lPrev := none, d := 0, primed := false,
            qReq := 0, profile := none, periodTimer := none, overflow := false, lowLow := false } ∧
        t.capability =
          { s.capability with
            qmaxAvail := 0, unfit := false, cap := none, holdTimer := none, fallTarget := none } ∧
        (t.staging.up = 0 ∧ t.staging.down = 0) ∧ t.roster.minority = false ∧
        (∀ j : Station, t.roster.entries[j].snapshot = none) ∧
        (∀ q, t.slot.view ≠ .ownPending q) ∧ t.slot.joinTimer = none ∧ t.slot.joinPassed = false ∧
        t.protection.latches = s.protection.latches ∧ t.protection.counts = s.protection.counts ∧
        t.protection.highFlag = false ∧ t.protection.lowSuction = none ∧ t.protection.qualityTrip = none ∧
        t.protection.instrument = none ∧ t.lport.withholdCmd = s.lport.withholdCmd ∧
        firstRaised (.configFailed, s.own, r) s t

/-- A successful reload of a configured part: the new set in force, CONFIG_LOADED with detail 1 first, and what each
block resets and keeps. -/
def Obligations.ReloadReplacesParametersInPlace : Prop :=
  ∀ (image : List Byte) (tariff : Bool) (i : Image) (s : State), s.loader.phase = .reloading →
    s.sequencer.train.mayReload = true → s.sequencer.conflict = false → s.configured = true →
    checkImage image = .valid i →
      ∃ t, exec (.reloadEnd image tariff) s = .next t ∧
        t.loader = { phase := .idle, params := some i.params, signature := i.signature, succeeded := true } ∧
        t.capability.tcf = i.tcf ∧ t.capability.temp = s.capability.temp ∧ t.capability.held = s.capability.held ∧
        (t.capability.qmaxAvail, t.capability.unfit) =
          capacityChain i.params i.tcf s.capability.temp s.capability.held s.capability.cap ∧
        t.demand.primed = false ∧ t.demand.lPrev = none ∧ t.demand.d = s.demand.d ∧
        t.demand.profile = s.demand.profile ∧
        t.demand.periodTimer = some { since := s.time, span := i.params.tD * 1024 } ∧
        (t.demand.overflow = s.demand.overflow ∧ t.demand.lowLow = s.demand.lowLow) ∧
        (t.staging.up = 0 ∧ t.staging.down = 0) ∧ (∀ q, t.slot.view ≠ .ownPending q) ∧
        (t.sequencer.runSeconds = s.sequencer.runSeconds ∧ t.sequencer.runTicks = s.sequencer.runTicks ∧
          t.sequencer.starts = s.sequencer.starts ∧ t.sequencer.failures = s.sequencer.failures ∧
          t.sequencer.totalizer = s.sequencer.totalizer ∧ t.sequencer.totRem = s.sequencer.totRem) ∧
        t.protection.latches = s.protection.latches ∧ t.protection.counts = s.protection.counts ∧
        t.lport.withholdCmd = s.lport.withholdCmd ∧ firstRaised (.configLoaded, s.own, 1) s t

/-- A successful reload of an UNCONFIGURED part, with no condition of a cause holding: it leaves UNCONFIGURED for
TRIPPED, WITHHELD or REST with the rest timer and the join wait started (the order within the taking is the model's,
log 32). -/
def Obligations.ReloadLeavesUnconfigured : Prop :=
  ∀ (image : List Byte) (tariff : Bool) (i : Image) (s : State), s.loader.phase = .reloading →
    s.sequencer.train = .unconfigured → s.sequencer.conflict = false → s.configured = false →
    checkImage image = .valid i → s.pins.tripIn = false → s.driveFault = false → s.port.state.isLost = false →
    s.chan 5 < i.params.pTrip →
      ∃ t, exec (.reloadEnd image tariff) s = .next t ∧
        t.loader = { phase := .idle, params := some i.params, signature := i.signature, succeeded := true } ∧
        (s.protection.latches.any = true → t.sequencer.train = .tripped) ∧
        (s.protection.latches.any = false → t.withheld = true → t.sequencer.train = .withheld) ∧
        (s.protection.latches.any = false → t.withheld = false → t.sequencer.train = .rest) ∧
        t.sequencer.rest = .running { since := s.time, span := i.params.minRestMin * 60 * 1024 } ∧
        t.slot.joinTimer = some { since := s.time, span := 3 * (i.params.tsCode * 256) } ∧
        t.slot.joinPassed = false ∧ t.protection.latches = s.protection.latches ∧
        t.demand.profile = some (if tariff then .peak else .offPeak) ∧
        t.demand.periodTimer = some { since := s.time, span := i.params.tD * 1024 } ∧
        firstRaised (.configLoaded, s.own, 1) s t

/-! ## The local port and the event queue -/

/-- SET_INDEX stores each byte that was clocked in; a byte cut off leaves its old value. Nothing else changes but that
a transfer before it has ended. -/
def Obligations.SetIndexStoresEachByte : Prop :=
  ∀ (i j : Option Byte) (s : State), exec (.setIndex i j) s = .next
    { s with lport :=
      { s.lport with item := i.getD s.lport.item, second := j.getD s.lport.second, reply := [], pop := none } }

/-- READ_ITEM: the reply begins with the item index and has the length of the item's layout, for indices 0 to 10 (the
roster item with a second index 1 to 16); otherwise it is FFh. The read changes nothing else, and the indices stay. Every
item carries its fields at the offsets and in the widths of section 11.7, the roster item's four-byte fields high byte
first, a remaining time cut to whole seconds and to its field. -/
def Obligations.ReadItemAnswersWholeItem : Prop :=
  ∀ (tariff : Bool) (s : State), ∃ t, exec (.readItem tariff) s = .next t ∧
    t.pins = { s.pins with tariff := tariff } ∧
    t.lport = { s.lport with reply := t.lport.reply, pop := none } ∧ changesOnly [.pins, .lport] s t ∧
    let r := t.lport.reply
    let byte : Nat → Nat := fun n => fieldAt r n 1
    let flag : Bool → Nat := fun b => if b then 1 else 0
    let left : Option Timer → Nat := fun m => timerLeft m s.time
    (s.lport.item.toNat ≤ 10 →
      (s.lport.item.toNat = 9 → 1 ≤ s.lport.second.toNat ∧ s.lport.second.toNat ≤ 16) →
      r.head? = some s.lport.item ∧ r.length = itemLength s.lport.item.toNat) ∧
    (10 < s.lport.item.toNat ∨
        s.lport.item.toNat = 9 ∧ (s.lport.second.toNat = 0 ∨ 16 < s.lport.second.toNat) →
      r = [0xFF]) ∧
    (s.lport.item = 0 →
      r =
        ([0, (s.ident.uid >>> 24).setWidth 8, (s.ident.uid >>> 16).setWidth 8, (s.ident.uid >>> 8).setWidth 8,
          s.ident.uid.setWidth 8, BitVec.ofNat 8 (s.ident.station.val + 1), s.ident.rate.setWidth 8,
          (if s.loader.params.isSome then 1 else 0), (s.loader.signature >>> 8).setWidth 8,
          s.loader.signature.setWidth 8, BitVec.ofNat 8 s.loader.phase.code] : List Byte)) ∧
    (s.lport.item = 1 →
      byte 1 = s.ownCode ∧ byte 2 = s.sequencer.train.phaseCode ∧
      fieldAt r 3 2 = min (left s.sequencer.phase) 65535 ∧ fieldAt r 5 2 = min (left s.sequencer.quality) 65535 ∧
      fieldAt r 7 2 =
        (match s.sequencer.rest with
          | .running m => min (left (some m)) 65535
          | .stopped | .expired => 0) ∧
      fieldAt r 9 2 = min (left s.sequencer.minRun) 65535 ∧
      byte 11 = flag s.pins.withhold + 2 * flag s.lport.withholdCmd + 4 * flag s.roster.minority) ∧
    (s.lport.item = 2 →
      byte 1 =
        flag s.demand.overflow + 2 * flag s.demand.lowLow + 4 * flag s.capability.unfit +
          8 * flag (s.chanValid 4 && s.loader.params.isSome) + 16 * flag s.withheld + 32 * flag s.pins.withhold +
          64 * flag s.lport.withholdCmd + 128 * flag s.roster.minority ∧
      byte 2 =
        flag s.trim.settled + 2 * flag s.sequencer.minRunMet + 4 * flag s.sequencer.conflict + 8 * flag s.runPermit +
          16 * flag s.attn + 32 * flag tariff + 64 * flag s.pins.tripIn) ∧
    (s.lport.item = 3 →
      fieldAt r 1 2 = s.demand.qReq % 65536 ∧ fieldAt r 3 2 = s.demand.d % 65536 ∧ byte 5 = flag s.demand.primed ∧
      fieldAt r 6 2 = s.demand.level % 65536 ∧ byte 8 = s.demand.source.code ∧
      fieldAt r 9 2 = s.demand.lPrev.getD 0 % 65536 ∧ byte 11 = flag s.demand.lPrev.isSome ∧
      byte 12 =
        (match s.demand.profile with
          | some .offPeak => 0
          | some .peak => 1
          | none => 2)) ∧
    (s.lport.item = 4 →
      fieldAt r 1 2 = s.staging.sp % 65536 ∧ fieldAt r 3 2 = s.chan 1 % 65536 ∧ fieldAt r 5 2 = s.trim.s % 65536 ∧
      fieldAt r 7 2 = s.capability.qmaxAvail % 65536 ∧
      byte 9 = (if s.capability.unfit then 3 else s.capability.held.val) ∧ byte 10 = s.capability.held.val ∧
      fieldAt r 11 2 = s.trim.qEff % 65536 ∧ byte 13 = s.trim.mode.code ∧ byte 14 = flag s.trim.settled ∧
      byte 15 = s.trim.hold.code ∧ fieldAt r 16 2 = min (left s.trim.settle) 65535 ∧
      fieldAt r 18 2 = min (left s.trim.sat) 65535) ∧
    (s.lport.item = 5 →
      byte 1 = s.slot.view.code ∧
      (match s.slot.view with
        | .free => fieldAt r 2 6 = 0
        | .held h =>
          byte 2 = h.station.val + 1 ∧ byte 3 = h.kind.code ∧ fieldAt r 4 2 = min (left (some h.expiry)) 65535 ∧
            byte 6 = h.cause.code ∧ byte 7 = 2 * flag h.grace.isSome
        | .ownPending q =>
          byte 2 = s.ident.station.val + 1 ∧ byte 3 = q.intent.code ∧ fieldAt r 4 2 = 0 ∧ byte 6 = q.cause.code ∧
            byte 7 = flag q.sent
        | .ownHeld k m =>
          byte 2 = s.ident.station.val + 1 ∧ byte 3 = k.code ∧ fieldAt r 4 2 = min (left (some m)) 65535 ∧
            fieldAt r 6 2 = 0) ∧
      byte 8 = min (left s.slot.gap) 255 ∧ byte 9 = flag s.slot.joinPassed ∧
      (match s.slot.lastYield with
        | some y => byte 10 = y.station.val + 1 ∧ byte 11 = y.outcome.code ∧ byte 12 = y.kind.code
        | none => fieldAt r 10 3 = 0)) ∧
    (s.lport.item = 6 →
      (∀ k : Cause,
        (fieldAt r 1 2).testBit (k.code - 1) = s.protection.latches.get k ∧
          byte (2 + k.code) = s.protection.counts.get k % 256 ∧
          (fieldAt r 13 2).testBit (k.code - 1) = s.present k) ∧
      fieldAt r 1 2 < 512 ∧ fieldAt r 13 2 < 512 ∧ byte 12 = flag s.runPermit ∧
      fieldAt r 15 2 = min (left s.protection.lowSuction) 65535 ∧
      fieldAt r 17 2 = min (left s.protection.qualityTrip) 65535 ∧
      fieldAt r 19 2 = min (left s.protection.instrument) 65535) ∧
    (s.lport.item = 7 →
      byte 1 = s.staging.up % 256 ∧ byte 2 = s.staging.down % 256 ∧ fieldAt r 3 3 = s.ownStartKey % 16777216 ∧
      fieldAt r 6 3 = s.ownStopKey % 16777216) ∧
    (s.lport.item = 8 →
      byte 1 = s.line.rxErr % 256 ∧ byte 2 = s.line.txLoss % 256 ∧ byte 3 = s.line.damage % 256 ∧
      byte 4 = s.line.tx.code ∧
      byte 5 =
        flag s.line.set.tally.isSome + 2 * flag s.line.set.bid.isSome + 4 * flag s.line.set.occupied.isSome +
          8 * flag s.line.set.yield.isSome ∧
      byte 6 = s.port.state.code ∧ byte 7 = flag (s.port.state.isLost && s.port.state.inFlight.isSome) ∧
      byte 8 = s.port.errors % 256 ∧
      byte 9 =
        (match s.port.pendRead with
          | some c => c.val
          | none => 15) ∧
      byte 10 = s.port.pointer.val ∧ byte 11 = flag s.port.pendValve.isSome + 2 * flag s.port.pendSpeed.isSome ∧
      ∀ c : Channel, (byte 12).testBit c.val = s.chanValid c ∧
        fieldAt r (13 + 2 * c.val) 2 =
          match s.port.channels[c].invalidSince with
          | some m => min ((s.time - m) / 1024) 65535
          | none => 0) ∧
    (s.lport.item = 9 → ∀ x : Station, s.lport.second.toNat = x.val + 1 →
      let e := s.entry x
      byte 1 = x.val + 1 ∧ byte 2 = e.validity.code ∧ fieldAt r 3 4 = e.tally.uid.toNat ∧
      byte 7 = e.tally.stateCode % 256 ∧ byte 8 = e.tally.phaseCode % 256 ∧
      byte 9 =
        flag e.tally.withheld + 2 * flag e.tally.settled + 4 * flag e.tally.minRunMet + 8 * flag e.tally.levelValid +
          16 * flag e.tally.unfit + 32 * flag e.tally.holdsSlot ∧
      byte 10 = e.tally.health % 256 ∧ byte 11 = e.tally.failures % 256 ∧ fieldAt r 12 2 = e.tally.flow % 65536 ∧
      fieldAt r 14 2 = e.tally.qmin % 65536 ∧ fieldAt r 16 2 = e.tally.qmaxAvail % 65536 ∧
      fieldAt r 18 4 = e.tally.totalizer % 2 ^ 32 ∧ fieldAt r 22 4 = e.tally.runHours % 2 ^ 32 ∧
      fieldAt r 26 2 = e.tally.starts % 65536 ∧ fieldAt r 28 2 = e.tally.signature.toNat ∧
      fieldAt r 30 2 = e.tally.level % 65536 ∧ byte 32 = e.tally.slotKind % 256 ∧
      fieldAt r 33 2 = e.tally.slotRemaining % 65536 ∧
      fieldAt r 35 2 =
        (match e.silence with
          | some m => min ((s.time - m) / 1024) 65535
          | none => 0) ∧
      byte 37 = flag e.snapshot.isSome) ∧
    (s.lport.item = 10 →
      r =
        ([10, BitVec.ofNat 8 s.queue.records.length, s.queue.seq, if s.queue.pendingLoss then 1 else 0] :
          List Byte))

/-- A pop transfer clocks out a copy of the oldest record in its layout and leaves it in the queue; its end removes
that record alone. A pop of an empty queue clocks out ten bytes of 0 and its end removes nothing; nor does the end of a
transfer whose record R201 has removed. -/
def Obligations.PopTransferRemovesItsRecordAtItsEnd : Prop :=
  ∀ s : State,
    (∀ (r : Record) (rest : List Record), s.queue.records = r :: rest →
      ∃ t, exec .popEvent s = .next t ∧
        t.lport = { s.lport with reply := t.lport.reply, pop := some (.copy r true) } ∧ changesOnly [.lport] s t ∧
        t.lport.reply.length = 10 ∧ t.lport.reply[0]? = some r.seq ∧
        fieldAt t.lport.reply 1 4 = r.time / 1024 % 2 ^ 32 ∧
        fieldAt t.lport.reply 5 2 = (if r.loss then 32768 else 0) + r.time % 1024 ∧
        t.lport.reply[7]? = some (BitVec.ofNat 8 r.kind.code) ∧
        t.lport.reply[8]? = some (BitVec.ofNat 8 r.station) ∧ t.lport.reply[9]? = some (BitVec.ofNat 8 r.detail) ∧
        exec .popEventEnd t = .next
          { t with queue := { s.queue with records := rest }, lport := { t.lport with pop := none } }) ∧
    (s.queue.records = [] → ∃ t, exec .popEvent s = .next t ∧ t.lport.reply = List.replicate 10 0 ∧
      changesOnly [.lport] s t ∧
      exec .popEventEnd t = .next { t with lport := { t.lport with pop := none } }) ∧
    (∀ (r : Record) (k : EventKind) (station detail : Nat), s.lport.pop = some (.copy r true) →
      32 ≤ s.queue.records.length →
      exec .popEventEnd (raise k station detail s) =
        .next { raise k station detail s with
          lport := { (raise k station detail s).lport with pop := none } })

/-- R201: a record created while the queue holds 32 removes the oldest, carries the loss flag and sets the pending-loss
flag; into a queue with room it is created without a removal, carries none and clears the flag, which the queue item reports. -/
def Obligations.RecordIntoFullQueueCarriesLossFlag : Prop :=
  ∀ (k : EventKind) (station detail : Nat) (s : State), s.queue.records.length ≤ 32 →
    ∃ r : Record, r.seq = s.queue.seq ∧ r.time = s.time ∧ r.kind = k ∧ r.station = station ∧ r.detail = detail ∧
      (raise k station detail s).queue.seq = s.queue.seq + 1 ∧
      (s.queue.records.length = 32 →
        (raise k station detail s).queue.records = s.queue.records.drop 1 ++ [r] ∧ r.loss = true ∧
          (raise k station detail s).queue.pendingLoss = true) ∧
      (s.queue.records.length < 32 →
        (raise k station detail s).queue.records = s.queue.records ++ [r] ∧ r.loss = false ∧
          (raise k station detail s).queue.pendingLoss = false) ∧
      (raise k station detail s).attn = true ∧ changesOnly [.queue, .lport] s (raise k station detail s) ∧
      ((raise k station detail s).lport.item = 10 → ∀ tariff, ∃ t,
        exec (.readItem tariff) (raise k station detail s) = .next t ∧
          t.lport.reply[3]? = some (if s.queue.records.length = 32 then 1 else 0))

/-- WITHHOLD, RETURN and the WITHHOLD line set their own cause, reply DONE (the commands), leave the other two causes,
and the train acts: REST and READY become WITHHELD when the combined condition rises, a pending START request of READY
cancelled (R91); a STARTING train is aborted with the slot given up ABORTED and no failure counted (R126); WITHHELD becomes
REST, or READY with the rest timer expired, when it falls; RUNNING stays, and a cause that arises there, beside another or
not (log 34), has a STOP bid taken where the Arbiter takes requests (R81, R88). -/
def Obligations.WithholdCausesMoveTheWaitingTrain : Prop :=
  ∀ (level : Bool) (s : State), s.loadEnded = true → s.sequencer.conflict = false →
    ∀ c : Instr,
      (level = true ∧ c = .withhold ∨ level = false ∧ c = .returnCmd ∨ c = .withholdLineChange level) →
      ∃ t, exec c s = .next t ∧
        (c ≠ .withholdLineChange level → t.lport.withholdCmd = level ∧ t.pins = s.pins ∧ t.lport.reply = [0]) ∧
        (c = .withholdLineChange level →
          t.pins = { s.pins with withhold := level } ∧ t.lport.withholdCmd = s.lport.withholdCmd ∧
            t.lport.reply = s.lport.reply) ∧
        t.roster = s.roster ∧
        (s.withheld = false → t.withheld = true →
          (s.sequencer.train = .rest ∨ s.sequencer.train = .ready) →
          t.sequencer.train = .withheld ∧ t.queue = s.queueAfter [(.stateChange, s.own, 112)]) ∧
        (s.withheld = false → t.withheld = true → s.sequencer.train = .ready →
          (∀ q, s.slot.view = .ownPending q → q.intent = .start → cancelsClaim .aborted q s t)) ∧
        (s.withheld = false → t.withheld = true → s.sequencer.train.isStarting = true →
          t.sequencer.failures = s.sequencer.failures ∧ t.sequencer.starts = s.sequencer.starts ∧
          (∀ p, s.loader.params = some p → s.sequencer.valve = valveOf s.sequencer.train →
            t.sequencer.train = s.abortsTo p) ∧
          (∀ k hold, s.slot.view = .ownHeld k hold → givesSlotUp .aborted k s t)) ∧
        (s.sequencer.train = .running →
          (c = .withhold ∧ s.lport.withholdCmd = false ∨
            c = .withholdLineChange true ∧ s.pins.withhold = false) →
          (s.slot.view = .free → s.slot.gap = none → s.slot.joinPassed = true →
            takesClaim .stop t.ownStopKey .withheld s t ∧ t.ownStopKey < 8388608) ∧
          (¬(s.slot.view = .free ∧ s.slot.gap = none ∧ s.slot.joinPassed = true) →
            t.slot = s.slot ∧ t.staging = s.staging)) ∧
        (s.withheld = true → t.withheld = false → s.sequencer.train = .withheld →
          (s.sequencer.rest ≠ .expired →
            t.sequencer.train = .rest ∧ t.queue = s.queueAfter [(.stateChange, s.own, 16)]) ∧
          (s.sequencer.rest = .expired →
            t.sequencer.train = .ready ∧
              t.queue = s.queueAfter [(.stateChange, s.own, 16), (.stateChange, s.own, 32)])) ∧
        (s.withheld = t.withheld → t.sequencer = s.sequencer ∧ t.queue = s.queue) ∧
        (s.sequencer.train = .running → t.sequencer = s.sequencer) ∧
        changesOnly
          [.pins, .capability, .staging, .slot, .sequencer, .trim, .protection, .line, .port, .lport, .queue] s t

/-- CLEAR TRIPS, in every own state: every latch whose cause is absent is cleared and no other, with a LATCH_CLEARED for
each in ascending order; the counts stay; the reply is DONE with none left, else LATCHES_REMAIN with the latches that
remain, cause code n in bit n - 1; with none left a TRIPPED train leaves TRIPPED with the rest timer started, its
STATE_CHANGE after the LATCH_CLEARED records. Without a parameter set LOW_SUCTION and HIGH_PRESSURE are absent (R152,
R153). -/
def Obligations.ClearTripsClearsAbsentCauses : Prop :=
  ∀ s : State,
    let cleared : List (EventKind × Nat × Nat) :=
      (causes.filter fun k => s.protection.latches.get k && !s.present k).map fun k => (.latchCleared, s.own, k.code)
    ∃ t, exec .clearTrips s = .next t ∧
      (∀ k, t.protection.latches.get k = (s.protection.latches.get k && s.present k)) ∧
      (s.loader.params = none → s.present .lowSuction = false ∧ s.present .highPressure = false) ∧
      t.protection.counts = s.protection.counts ∧
      (t.protection.latches.any = false → t.lport.reply = [0]) ∧
      (t.protection.latches.any = true →
        t.lport.reply.length = 3 ∧ t.lport.reply.head? = some 2 ∧
        ∀ k : Cause, (fieldAt t.lport.reply 1 2).testBit (k.code - 1) = t.protection.latches.get k) ∧
      (t.protection.latches.any = true ∨ s.sequencer.train ≠ .tripped →
        t.sequencer = s.sequencer ∧ t.queue = s.queueAfter cleared) ∧
      (t.protection.latches.any = false → s.sequencer.train = .tripped →
        t.sequencer.train =
            (if s.sequencer.conflict then .conflict else if s.withheld then .withheld else .rest) ∧
          (∀ p, s.loader.params = some p →
            t.sequencer.rest = .running { since := s.time, span := p.minRestMin * 60 * 1024 }) ∧
          t.queue = s.queueAfter
            (cleared ++
              if s.sequencer.conflict then [] else [(.stateChange, s.own, if s.withheld then 112 else 16)]))

/-- CLEAR COUNTERS sets the start failures, the nine counts and the two line counters to 0 and nothing else. Each operation
byte of R196's table picks its command, and any other byte the unknown command, which is answered UNKNOWN_COMMAND and does
nothing. -/
def Obligations.ClearCountersAndUnknownCommand : Prop :=
  ∀ (op : Byte) (s : State),
    exec .clearCounters s = .next
      { s with
        sequencer := { s.sequencer with failures := 0 }
        protection :=
          { s.protection with
            counts :=
              { external := 0, driveFault := 0, lowSuction := 0, highPressure := 0, quality := 0, startFail := 0,
                portLoss := 0, instrument := 0, holdOverrun := 0 } }
        line := { s.line with rxErr := 0, txLoss := 0 }
        lport := { s.lport with reply := [0], pop := none } } ∧
    exec (.unknownCommand op) s = .next { s with lport := { s.lport with reply := [3], pop := none } } ∧
    ∀ (i j : Option Byte) (tariff : Bool),
      operation 0x01 i j tariff = .setIndex i j ∧ operation 0x02 i j tariff = .readItem tariff ∧
      operation 0x03 i j tariff = .popEvent ∧ operation 0x10 i j tariff = .withhold ∧
      operation 0x11 i j tariff = .returnCmd ∧ operation 0x12 i j tariff = .clearTrips ∧
      operation 0x13 i j tariff = .clearCounters ∧ operation 0x14 i j tariff = .reloadConfig ∧
      (op ∉ ([0x01, 0x02, 0x03, 0x10, 0x11, 0x12, 0x13, 0x14] : List Byte) →
        exec (operation op i j tariff) s = exec (.unknownCommand op) s)

/-- R193: RELOAD CONFIG is taken when the Loader is IDLE and the train state is REST, READY, WITHHELD, TRIPPED or
UNCONFIGURED with the conflict mark clear; otherwise it is refused with BUSY_STATE and nothing else changes. -/
def Obligations.ReloadConfigTakenOnlyAtRest : Prop :=
  ∀ s : State,
    let waits := s.sequencer.train = .rest ∨ s.sequencer.train = .ready ∨ s.sequencer.train = .withheld ∨
      s.sequencer.train = .tripped ∨ s.sequencer.train = .unconfigured
    (s.loader.phase = .idle ∧ waits ∧ s.sequencer.conflict = false →
      exec .reloadConfig s = .next
        { s with
          loader := { s.loader with phase := .reloading }, lport := { s.lport with reply := [0], pop := none } }) ∧
    (¬(s.loader.phase = .idle ∧ waits ∧ s.sequencer.conflict = false) →
      exec .reloadConfig s = .next { s with lport := { s.lport with reply := [1], pop := none } })

/-! ## Trips -/

/-- R148 and R128: a cause that arrives with its latch clear sets it, raises its count and TRIP first, takes RUN-PERMIT
away and moves the train by its state; a start that failed by timeout counts one failure more. Under the conflict mark a
trip that forbids the flush ends in train state CONFLICT, where R128's table names TRIPPED (the model's inference, log
28). -/
def Obligations.ArrivingCauseLatchesAndTripsTheTrain : Prop :=
  ∀ (c : Instr) (k : Cause) (s : State), s.arrivalOf c = some k → s.protection.latches.get k = false →
    ∃ t, exec c s = .next t ∧ t.protection.latches = s.protection.latches.put k true ∧
      t.protection.counts = s.protection.counts.put k (min 63 (s.protection.counts.get k + 1)) ∧
      firstRaised (.trip, s.own, k.code) s t ∧ t.runPermit = false ∧ t.sequencer.train = s.afterTrip k ∧
      (s.sequencer.train.isStarting = true ∨ s.sequencer.train = .running ∨ s.sequencer.train = .unload →
        t.sequencer.valve = valveOf (s.afterTrip k) ∧ t.slot.view.isOwnHeld = false) ∧
      t.sequencer.failures =
        (if c = .pressurizeTimeout ∨ c = .divertTimeout then min 63 (s.sequencer.failures + 1)
          else s.sequencer.failures) ∧
      changesOnly
        [.pins, .capability, .staging, .slot, .sequencer, .trim, .protection, .line, .port, .lport, .queue] s t

/-- R149: a cause that arrives with its latch already set only raises its count: no record, no change of the train. It
holds of the seven commands that make a cause arrive by themselves and of the arrival of any cause. -/
def Obligations.LatchedCauseOnlyCounts : Prop :=
  ∀ (k : Cause) (s : State), s.protection.latches.get k = true →
    let counts := s.protection.counts.put k (min 63 (s.protection.counts.get k + 1))
    arrive k s = { s with protection := { s.protection with counts := counts } } ∧
    s.runPermit = false ∧
    ∀ c : Instr, s.arrivalOf c = some k →
      ∃ t, exec c s = .next t ∧ t.protection.latches = s.protection.latches ∧ t.protection.counts = counts ∧
        t.queue = s.queue ∧ t.sequencer.train = s.sequencer.train ∧ t.sequencer.valve = s.sequencer.valve ∧
        t.runPermit = false ∧ changesOnly [.pins, .sequencer, .protection, .port] s t

/-- A TRIP-IN change that is no arrival: the level is taken, the condition judged from the end of the load on, and
nothing else changes but what the port's arbiter starts. -/
def Obligations.TripInReleaseOnlyFollowsTheLine : Prop :=
  ∀ (level : Bool) (s : State), (level = false ∨ s.loadEnded = false ∨ s.protection.extFlag = true) →
    ∃ t, exec (.tripInChange level) s = .next t ∧ t.pins = { s.pins with tripIn := level } ∧
      t.protection =
        (if s.loadEnded then { s.protection with extFlag := level } else s.protection) ∧
      changesOnly [.pins, .protection, .port] s t

/-! ## Frames received -/

/-- A TALLY of a peer: one that fails the ranges of R39 is counted and changes no entry; otherwise it is taken into that
entry alone, with validity by R40, the silence timer restarted and the snapshot kept or not, the record of its arrival
first and SIGNATURE_MISMATCH next. A change of the entry's validity has the minority test made, and MINORITY raised where
the cause changes (R56, R57). The view follows the holding reported, row by row of R97; the Roster acts before the Arbiter
(log 37), so that a claim or a holding that the minority test has ended meets the report as its new view. A view HELD by
the sender keeps the identifier it recorded, whichever the TALLY carries (the model's choice, log 44). -/
def Obligations.TallyIsTakenIntoItsEntry : Prop :=
  ∀ (rx : List RxChar) (f : RxFrame) (s : State), receive rx = .accepted f → f.cls = 8 → s.loadEnded = true →
    f.station ≠ s.ident.station →
    let b := tallyOf f.body
    let e := s.roster.entries[f.station]
    let matching := b.signature = s.loader.signature ∨ b.stateCode = 0
    let x := f.station.val + 1
    let arrival : List (EventKind × Nat × Nat) :=
      if e.validity = .empty then [(.peerJoined, x, b.stateCode)]
      else if e.tally.uid ≠ b.uid then [(.peerReplaced, x, b.stateCode)]
      else if e.validity = .stale then [(.peerReturned, x, b.stateCode)]
      else []
    let mismatch : List (EventKind × Nat × Nat) :=
      if ¬matching ∧ ¬(e.validity = .excluded ∧ e.tally.uid = b.uid) then [(.signatureMismatch, x, b.stateCode)] else []
    let expiry : Timer := { since := s.time, span := b.slotRemaining * 1024 + 4 * s.tS }
    ∃ t, exec (.tallyReceived rx) s = .next t ∧
      (∀ j : Station, j ≠ f.station → t.roster.entries[j] = s.roster.entries[j]) ∧ t.loader = s.loader ∧
      (b.inRange = false →
        t.roster = s.roster ∧ t.line.rxErr = min 255 (s.line.rxErr + 1) ∧ changesOnly [.line, .port] s t) ∧
      (b.inRange = true →
        t.line.rxErr = s.line.rxErr ∧
        t.roster.entries[f.station].tally = b ∧ t.roster.entries[f.station].silence = some s.time ∧
        (matching → t.roster.entries[f.station].validity = .live) ∧
        (¬matching → t.roster.entries[f.station].validity = .excluded) ∧
        (matching → e.tally.uid = b.uid → (e.validity = .live ∨ e.validity = .stale) →
          t.roster.entries[f.station].snapshot = e.snapshot) ∧
        (¬(matching ∧ e.tally.uid = b.uid ∧ (e.validity = .live ∨ e.validity = .stale)) →
          t.roster.entries[f.station].snapshot = none) ∧
        (∃ more, t.queue = s.queueAfter (arrival ++ mismatch ++ more)) ∧
        ((t.roster.entries[f.station].validity = e.validity ∨ s.configured = false) →
          t.roster.minority = s.roster.minority) ∧
        (t.roster.entries[f.station].validity ≠ e.validity → s.configured = true →
          t.roster.minority = decide
            ((stations.filter fun j => decide ((t.entry j).validity = .live) &&
                decide ((t.entry j).tally.signature = s.loader.signature)).length <
              (stations.filter fun j => decide ((t.entry j).validity = .excluded)).length)) ∧
        (t.roster.minority ≠ s.roster.minority → ∃ l m,
          t.queue = s.queueAfter
            (arrival ++ mismatch ++ l ++ (.minority, s.own, if t.roster.minority then 1 else 0) :: m)) ∧
        (∀ k, b.holdsSlot = true → kindOf b.slotKind = some k →
          let taken : View := .held
            { station := f.station, uid := b.uid, kind := k, expiry := expiry, grace := none, cause := .none }
          (s.slot.view = .free → t.slot.view = taken ∧ t.slot.gap = none) ∧
          (∀ h, s.slot.view = .held h →
            (h.station = f.station → t.slot.view = .held { h with kind := k, grace := none, expiry := expiry }) ∧
            (f.station < h.station → t.slot.view = taken) ∧ (h.station < f.station → t.slot = s.slot)) ∧
          (∀ q, s.slot.view = .ownPending q → t.slot.view = taken ∧ t.line.set.bid = none ∧
            (t.roster.minority = s.roster.minority →
              t.sequencer = s.sequencer ∧ raisedWithin (.slotLost, x, q.intent.code) s t)) ∧
          (∀ own hold, s.slot.view = .ownHeld own hold → s.sequencer.conflict = false →
            (f.station < s.ident.station → t.slot.view = taken ∧
              t.line.set.yield = some { uid := s.ident.uid, outcome := .aborted, kind := own } ∧
              t.sequencer.train.isStarting = false ∧
              (t.roster.minority = s.roster.minority → raisedWithin (.slotLost, x, own.code) s t)) ∧
            (s.ident.station < f.station → t.roster.minority = s.roster.minority →
              t.slot = s.slot ∧ t.sequencer = s.sequencer ∧
                t.line.set.occupied = some
                  { uid := s.ident.uid, station := s.own, kind := own,
                    remaining := timerLeft (some hold) s.time }))) ∧
        (b.holdsSlot = false →
          (∀ h, s.slot.view = .held h →
            (h.station = f.station → h.grace = none → t.slot.view = .free ∧ t.slot.gap = s.gapStarted) ∧
            (h.station ≠ f.station ∨ h.grace ≠ none → t.slot = s.slot)) ∧
          ((∀ h, s.slot.view ≠ .held h) → t.roster.minority = s.roster.minority → t.slot = s.slot)))

/-- A BID of another station in each view (R93): FREE becomes HELD with T_hold + 4 × T_s and the claim grace; HELD
stays; an unsent own claim gives way with SLOT_LOST; a sent one, and the holder, answer with OCCUPIED. -/
def Obligations.BidActsByTheView : Prop :=
  ∀ (rx : List RxChar) (f : RxFrame) (b : BidBody) (s : State), receive rx = .accepted f →
    (f.cls = 3 ∨ f.cls = 4) → bidOf f = some b → s.loadEnded = true → f.station ≠ s.ident.station →
    let taken : View := .held
      { station := f.station, uid := b.uid, kind := b.intent,
        expiry := { since := s.time, span := s.tHold * 1024 + 4 * s.tS },
        grace := some { since := s.time, span := 2 * s.tS }, cause := b.cause }
    ∃ t, exec (.bidReceived rx) s = .next t ∧
      changesOnly [.staging, .slot, .line, .port, .lport, .queue] s t ∧ t.staging.sp = s.staging.sp ∧
      (s.slot.view = .free →
        t.slot = { s.slot with view := taken, gap := none } ∧ t.staging.up = 0 ∧ t.staging.down = 0 ∧
          t.queue = s.queue) ∧
      (∀ h, s.slot.view = .held h → t.slot = s.slot ∧ t.staging = s.staging ∧ t.queue = s.queue) ∧
      (∀ q, s.slot.view = .ownPending q → q.sent = false →
        t.slot = { s.slot with view := taken, gap := none } ∧ t.line.set.bid = none ∧
          t.queue = s.queueAfter [(.slotLost, f.station.val + 1, q.intent.code)]) ∧
      (∀ q, s.slot.view = .ownPending q → q.sent = true → s.sequencer.conflict = false →
        t.slot = s.slot ∧ t.queue = s.queue ∧
          t.line.set.occupied = some
            { uid := s.ident.uid, station := s.own, kind := q.intent, remaining := s.tHold }) ∧
      (∀ k hold, s.slot.view = .ownHeld k hold → s.sequencer.conflict = false →
        t.slot = s.slot ∧ t.queue = s.queue ∧
          t.line.set.occupied = some
            { uid := s.ident.uid, station := s.own, kind := k, remaining := timerLeft (some hold) s.time })

/-- An OCCUPIED of another station in each view (R94, R95): FREE and HELD follow the report, an own claim gives way,
and of two holders the lower station number keeps the slot; the one that gives way aborts its start, from FILL to FLUSH
and from PRESSURIZE or DIVERT to UNLOAD with no failure counted, or lets its staged stop run on without the slot
(R127). A view HELD by the sender keeps the identifier it recorded, whichever the OCCUPIED carries (the model's choice,
log 44). -/
def Obligations.OccupiedActsByTheView : Prop :=
  ∀ (rx : List RxChar) (f : RxFrame) (b : OccupiedBody) (s : State), receive rx = .accepted f → f.cls = 1 →
    occupiedOf f = some b → s.loadEnded = true → f.station ≠ s.ident.station →
    let expiry : Timer := { since := s.time, span := b.remaining * 1024 + 4 * s.tS }
    let taken : View := .held
      { station := f.station, uid := b.uid, kind := b.kind, expiry := expiry, grace := none, cause := .none }
    ∃ t, exec (.occupiedReceived rx) s = .next t ∧
      (s.slot.view = .free → t.slot.view = taken ∧ t.slot.gap = none ∧ t.queue = s.queue) ∧
      (∀ h, s.slot.view = .held h → t.sequencer = s.sequencer ∧ t.queue = s.queue ∧
        (h.station = f.station →
          t.slot.view = .held { h with kind := b.kind, expiry := expiry, grace := none }) ∧
        (h.station ≠ f.station → t.slot.view = taken)) ∧
      (∀ q, s.slot.view = .ownPending q → t.slot.view = taken ∧ t.line.set.bid = none ∧
        t.sequencer = s.sequencer ∧ t.queue = s.queueAfter [(.slotLost, f.station.val + 1, q.intent.code)]) ∧
      (∀ k hold, s.slot.view = .ownHeld k hold → s.sequencer.conflict = false →
        (s.ident.station < f.station → t.slot = s.slot ∧ t.sequencer = s.sequencer ∧ t.queue = s.queue ∧
          t.line.set.occupied = some
            { uid := s.ident.uid, station := s.own, kind := k, remaining := timerLeft (some hold) s.time }) ∧
        (f.station < s.ident.station → t.slot.view = taken ∧
          t.line.set.yield = some { uid := s.ident.uid, outcome := .aborted, kind := k } ∧
          t.sequencer.train.isStarting = false ∧ t.sequencer.failures = s.sequencer.failures ∧
          (∀ p, s.sequencer.train.isStarting = true → s.loader.params = some p →
            s.sequencer.valve = valveOf s.sequencer.train → t.sequencer.train = s.abortsTo p) ∧
          (s.sequencer.train = .unload → t.sequencer = { s.sequencer with staged := false }) ∧
          firstRaised (.slotLost, f.station.val + 1, k.code) s t))

/-- A YIELD of another station (R96): the last YIELD is recorded, and a view HELD by that very unit becomes FREE with
the settle gap started; any other view stays. -/
def Obligations.YieldFreesTheViewOfItsHolder : Prop :=
  ∀ (rx : List RxChar) (f : RxFrame) (b : YieldBody) (s : State), receive rx = .accepted f → f.cls = 2 →
    yieldOf f = some b → s.loadEnded = true → f.station ≠ s.ident.station →
    ∃ t, exec (.yieldReceived rx) s = .next t ∧ changesOnly [.slot, .line, .port] s t ∧
      t.slot.lastYield = some { station := f.station, outcome := b.outcome, kind := b.kind } ∧
      t.slot.joinTimer = s.slot.joinTimer ∧ t.slot.joinPassed = s.slot.joinPassed ∧
      ((∃ h, s.slot.view = .held h ∧ h.station = f.station ∧ h.uid = b.uid) →
        t.slot.view = .free ∧ t.slot.gap = s.gapStarted) ∧
      ((∀ h, s.slot.view = .held h → ¬(h.station = f.station ∧ h.uid = b.uid)) →
        t.slot.view = s.slot.view ∧ t.slot.gap = s.slot.gap)

/-- A frame that fails R164, heard by a transmitter that is not in ECHO: counted, and the line is idle from now on. A
reception of glitches alone leaves the line idle and counts nothing (R161, R162). -/
def Obligations.DiscardedFrameIsCounted : Prop :=
  ∀ (rx : List RxChar) (s : State), (∀ f, s.line.tx ≠ .echo f) →
    (receive rx = .discarded → ∃ t, exec (.frameDiscarded rx) s = .next t ∧
      t.line = { s.line with rx := .idle, rxErr := min 255 (s.line.rxErr + 1) } ∧
      changesOnly [.line, .port] s t) ∧
    (receive rx = .nothing → ∃ t, exec (.frameDiscarded rx) s = .next t ∧
      t.line = { s.line with rx := .idle } ∧ changesOnly [.line, .port] s t)

/-- A foreign identifier under the own station number (R59 to R61, R105, R131): DUPLICATE_STATION with the frame's
class, CONFLICT, silence, no slot, and the train wound down; a later detection changes nothing but the line's idle and
echo. -/
def Obligations.DuplicateStationEntersConflict : Prop :=
  ∀ (rx : List RxChar) (f : RxFrame) (s : State), receive rx = .accepted f → s.loadEnded = true →
    f.station = s.ident.station → f.uid ≠ s.ident.uid →
    ∃ t, exec (.duplicateStation rx) s = .next t ∧
      (s.sequencer.conflict = true → changesOnly [.line, .port] s t) ∧
      (s.sequencer.conflict = false →
        t.sequencer.conflict = true ∧ t.ownCode = 8 ∧ (t.entry s.ident.station).tally.stateCode = 8 ∧
        firstRaised (.duplicateStation, s.own, f.cls) s t ∧
        t.line.set.isEmpty = true ∧ t.line.tx = .quiet ∧ t.line.tally = none ∧ t.slot.view.isOwn = false ∧
        ((s.sequencer.train = .rest ∨ s.sequencer.train = .ready ∨ s.sequencer.train = .withheld ∨
            s.sequencer.train = .unconfigured) → t.sequencer.train = .conflict) ∧
        ((s.sequencer.train = .tripped ∨ s.sequencer.train = .flush ∨ s.sequencer.train = .unload) →
          t.sequencer.train = s.sequencer.train) ∧
        (s.sequencer.train = .fill → t.sequencer.train = .flush) ∧
        ((s.sequencer.train = .pressurize ∨ s.sequencer.train = .divert ∨ s.sequencer.train = .running) →
          t.sequencer.train = .unload ∨ t.sequencer.train = .flush))

/-- In ECHO: the own frame heard back has been sent, and of a BID the window of 150 ms (154 ticks, log 9) starts for the
claim then pending (log 14). Anything else is a damaged attempt with its deferral (R169; beyond 255 in a row the group of
the held count, log 16): the frame goes back to the set unless a newer one of its kind has joined, but a claim withdrawn
meanwhile, and any frame under the conflict mark, does not (log 14). A discarded echo is counted as a receive error; a
frame of another part heard in ECHO is not, and is handed on after the echo has been judged (log 15). -/
def Obligations.EchoJudgesTheOwnFrame : Prop :=
  ∀ (rx : List RxChar) (fr : TxFrame) (s : State), s.line.tx = .echo fr →
    let n := min 255 (s.line.damage + 1)
    let returns : Bool := !s.sequencer.conflict &&
      match fr with
      | .bid _ => s.slot.view.isOwn && !s.slot.view.isOwnHeld
      | .occupied _ => s.slot.view.isOwn
      | .yield _ | .tally _ => true
    let back : PendingSet :=
      match fr with
      | .occupied b => { s.line.set with occupied := some (s.line.set.occupied.getD b) }
      | .yield b => { s.line.set with yield := some (s.line.set.yield.getD b) }
      | .bid b => { s.line.set with bid := some (s.line.set.bid.getD b) }
      | .tally b => { s.line.set with tally := some (s.line.set.tally.getD b) }
    let damaged : Line :=
      { s.line with
        rx := .idle, damage := n
        set := if returns then back else s.line.set
        tx := if returns then .wait else if s.line.set.isEmpty then .quiet else .wait
        deferral := some (1 + s.ident.uid.toNat / 2 ^ (6 * ((n - 1) % 6)) % 64) }
    (∀ f, receive rx = .accepted f → f.station = s.ident.station → f.uid = s.ident.uid →
      ∃ t, exec (.ownEcho rx) s = .next t ∧ changesOnly [.slot, .line, .port] s t ∧
        t.line =
          { s.line with
            rx := .idle, damage := 0, tx := if s.line.set.isEmpty then .quiet else .wait } ∧
        (∀ b q, fr = .bid b → s.slot.view = .ownPending q →
          t.slot =
            { s.slot with
              view := .ownPending { q with sent := true, window := some { since := s.time, span := 154 } } }) ∧
        ((∀ b, fr ≠ .bid b) ∨ (∀ q, s.slot.view ≠ .ownPending q) → t.slot = s.slot)) ∧
    (receive rx = .discarded →
      ∃ t, exec (.ownEcho rx) s = .next t ∧ changesOnly [.line, .port] s t ∧
        t.line = { damaged with rxErr := min 255 (s.line.rxErr + 1) }) ∧
    (∀ f, receive rx = .accepted f → ¬(f.station = s.ident.station ∧ f.uid = s.ident.uid) →
      ∃ t, exec (.ownEcho rx) s = .next t ∧ t.line.damage = n ∧ t.line.deferral = damaged.deferral ∧
        t.line.rx = .idle ∧ (∀ g, t.line.tx ≠ .echo g) ∧
        (s.loadEnded = false → t.line = damaged ∧ changesOnly [.line, .port] s t))

/-! ## Sending -/

/-- TRANSMIT_BEGIN in WAIT: with the line idle and any deferral run, the frame of lowest class goes out of the set and
into the transmitter, in the order OCCUPIED, YIELD, BID, TALLY (R167). The line is idle when the receiver has seen it
recessive for 11 bit times without a break and no reception is open, a bit time being the inverse of the strapped rate, and
a deferral has run after d bit times more (R161). Before that the part begins nothing, and an idle line that is no longer
recessive so long has had a falling edge, which ends the idle. That the recessive line comes with the command, in
nanoseconds, is the model's choice (log 23). -/
def Obligations.TransmitBeginTakesLowestClass : Prop :=
  ∀ (recessive : Nat) (s : State), s.line.tx = .wait →
    let rate := [19200, 38400, 57600, 115200].getD s.ident.rate.toNat 0
    let holds : Nat → Prop := fun bits => bits * 1000000000 ≤ recessive * rate
    let ready := s.line.rx ≠ .receiving ∧ holds 11 ∧ ∀ d, s.line.deferral = some d → holds (11 + d)
    let begun : PendingSet → TxFrame → Host.Outcome State Fault Refusal := fun rest f =>
      .next { s with line := { s.line with set := rest, tx := .contend f, rx := .receiving, deferral := none } }
    (ready →
      (∀ b, s.line.set.occupied = some b →
        exec (.transmitBegin recessive) s = begun { s.line.set with occupied := none } (.occupied b)) ∧
      (∀ b, s.line.set.occupied = none → s.line.set.yield = some b →
        exec (.transmitBegin recessive) s = begun { s.line.set with yield := none } (.yield b)) ∧
      (∀ b, s.line.set.occupied = none → s.line.set.yield = none → s.line.set.bid = some b →
        exec (.transmitBegin recessive) s = begun { s.line.set with bid := none } (.bid b)) ∧
      (∀ b, s.line.set.occupied = none → s.line.set.yield = none → s.line.set.bid = none →
        s.line.set.tally = some b →
        exec (.transmitBegin recessive) s = begun { s.line.set with tally := none } (.tally b))) ∧
    (¬ready → s.line.set.isEmpty = false →
      (holds 11 → s.line.rx ≠ .receiving →
        exec (.transmitBegin recessive) s = .next { s with line := { s.line with rx := .idle } }) ∧
      (¬holds 11 → s.line.rx = .idle →
        exec (.transmitBegin recessive) s = .next { s with line := { s.line with rx := .receiving } }) ∧
      (s.line.rx = .receiving ∨ ¬holds 11 ∧ s.line.rx = .unsettled → exec (.transmitBegin recessive) s = .next s))

/-- The four ends of sending: contention lost and line fault return the frame to the set, unless a newer one of its
kind has joined, and leave the transmitter in WAIT; the header won leads to SEND, the last CRC bit to ECHO. Beyond 255 damaged attempts in a
row the deferral's group is that of the held count (the model's choice, log 16). -/
def Obligations.SendingEndsMoveTheTransmitter : Prop :=
  ∀ (f : TxFrame) (s : State),
    (s.line.tx = .contend f →
      exec .contentionLost s = .next
        { s with line :=
          { s.line with set := s.line.set.giveBack f, tx := .wait, txLoss := min 255 (s.line.txLoss + 1) } } ∧
      exec .lineFault s = .next
        { s with line :=
          { s.line with
            set := s.line.set.giveBack f, tx := .wait, damage := min 255 (s.line.damage + 1)
            deferral := some
              (1 + s.ident.uid.toNat / 2 ^ (6 * ((min 255 (s.line.damage + 1) - 1) % 6)) % 64) } } ∧
      exec .headerWon s = .next { s with line := { s.line with tx := .send f } }) ∧
    (s.line.tx = .send f →
      exec .lastCrcBitSent s = .next { s with line := { s.line with tx := .echo f } })

/-- TALLY_TIMER_EXPIRY (R171): the own entry as it stands joins the set as a TALLY, replacing one that waits, and the
timer runs again for T_s. -/
def Obligations.TallyTimerQueuesTheOwnEntry : Prop :=
  ∀ s : State, s.line.tally.isSome = true → s.sequencer.conflict = false →
    exec .tallyTimerExpiry s = .next
      { s with line :=
        { s.line with
          set := { s.line.set with tally := some s.ownTally }
          tx := if s.line.tx = .quiet then .wait else s.line.tx
          tally := some { since := s.time, span := s.tS }
          tallyFirst := false } }

/-- Every frame the part sends is taken by a receiver as what it is: the frame on the line, clean, is accepted with its
class, key and station, and its body reads back field by field. -/
def Obligations.SentFramesAreReceivedAsTheyAre : Prop :=
  ∀ x : Station,
    (∀ b : BidBody, b.key < 2 ^ 24 → ∃ f, receive (((TxFrame.bid b).chars x).map cleanChar) = .accepted f ∧
      f.station = x ∧ f.key = b.key ∧ f.uid = b.uid ∧ f.cls = (if b.intent = .stop then 3 else 4) ∧
      bidOf f = some b) ∧
    (∀ b : OccupiedBody, b.station = x.val + 1 → b.remaining < 2 ^ 16 →
      ∃ f, receive (((TxFrame.occupied b).chars x).map cleanChar) = .accepted f ∧ f.station = x ∧ f.key = 0 ∧
        f.uid = b.uid ∧ f.cls = 1 ∧ occupiedOf f = some b) ∧
    (∀ b : YieldBody, ∃ f, receive (((TxFrame.yield b).chars x).map cleanChar) = .accepted f ∧ f.station = x ∧
      f.key = 0 ∧ f.uid = b.uid ∧ f.cls = 2 ∧ yieldOf f = some b) ∧
    (∀ b : TallyBody, b.stateCode < 2 ^ 8 → b.phaseCode < 2 ^ 8 → b.health < 2 ^ 8 → b.failures < 2 ^ 8 →
      b.flow < 2 ^ 16 → b.qmin < 2 ^ 16 → b.qmaxAvail < 2 ^ 16 → b.totalizer < 2 ^ 32 → b.runHours < 2 ^ 32 →
      b.starts < 2 ^ 16 → b.level < 2 ^ 16 → b.slotKind < 2 ^ 8 → b.slotRemaining < 2 ^ 16 →
      ∃ f, receive (((TxFrame.tally b).chars x).map cleanChar) = .accepted f ∧ f.station = x ∧ f.key = 0 ∧
        f.uid = b.uid ∧ f.cls = 8 ∧ tallyOf f.body = b)

/-! ## Demand and staging -/

/-- DEMAND_PERIOD_END by its three paths (R6): LOST holds the demand and resets the stage counters (R7, R72); the
snapshot-only period sets L_prev and the snapshots (R8); the full computation gives production, volume change, rate, D,
Q_req and the two level conditions (R9 to R17). The profile follows TARIFF (R5), the timer starts again, and in RUNNING SP
is the share (R83). An overflow that the period sets takes a RUNNING train to UNLOAD without the slot, a pending STOP claim
cancelled, and aborts a start with its slot given up ABORTED and no failure counted (R125; before Staging evaluates, log
21). -/
def Obligations.DemandPeriodComputesDemand : Prop :=
  ∀ (tariff : Bool) (p : Params) (s : State), s.loader.params = some p → s.demand.periodTimer.isSome = true →
    let name : ProfileName := if tariff then .peak else .offPeak
    let f := if tariff then p.peak else p.offPeak
    let lvl := s.demand.level
    let again : Option Timer := some { since := s.time, span := p.tD * 1024 }
    let limited := if s.demand.profile = some name then s.demand.qReq else min s.demand.qReq f.qPlantMax
    let counted : Station → Prop := fun i => (s.entry i).validity = .live ∨ (s.entry i).validity = .stale
    let produced : Station → Nat := fun i =>
      match (s.entry i).snapshot with
      | some n =>
        let delta := ((s.entry i).tally.totalizer + 2 ^ 32 - n) % 2 ^ 32
        if (s.entry i).counted = true ∧ delta ≤ 2 * ((s.entry i).tally.qmaxAvail * p.tD / 360) then delta else 0
      | none => 0
    let spill := if p.highHigh ≤ lvl then true else if lvl + p.band < p.highHigh then false else s.demand.overflow
    let low := if lvl ≤ p.lowLowLevel then true else if p.lowLowLevel + p.band < lvl then false else s.demand.lowLow
    ∃ t, exec (.demandPeriodEnd tariff) s = .next t ∧
      changesOnly
        [.pins, .demand, .capability, .roster, .staging, .slot, .sequencer, .trim, .protection, .line, .port, .lport,
          .queue] s t ∧
      t.pins = { s.pins with tariff := tariff } ∧
      (s.demand.profile ≠ some name → firstRaised (.profileChange, s.own, if tariff then 1 else 0) s t) ∧
      (t.sequencer.train = .running → t.staging.sp = t.share p) ∧
      (s.demand.source ≠ .lost → s.demand.overflow = false → spill = true → s.sequencer.conflict = false →
        s.sequencer.valve = valveOf s.sequencer.train →
        (s.sequencer.train = .running →
          t.sequencer.train = s.unloadsTo p ∧ t.sequencer.staged = false ∧ t.staging.sp = 0 ∧
          (∀ q, s.slot.view = .ownPending q → q.intent = .stop → cancelsClaim .aborted q s t)) ∧
        (s.sequencer.train.isStarting = true →
          t.sequencer.train = s.abortsTo p ∧ t.sequencer.failures = s.sequencer.failures ∧
          (∀ k hold, s.slot.view = .ownHeld k hold → givesSlotUp .aborted k s t))) ∧
      (s.demand.source = .lost →
        t.demand = { s.demand with profile := some name, periodTimer := again, qReq := limited } ∧
          t.roster = s.roster ∧ t.staging.up = 0 ∧ t.staging.down = 0) ∧
      (s.demand.source ≠ .lost → s.demand.lPrev = none →
        t.demand =
            { s.demand with
              profile := some name, periodTimer := again, lPrev := some lvl, overflow := spill, lowLow := low,
              qReq := if spill then 0 else limited } ∧
          ∀ i : Station,
            (counted i → t.roster.entries[i].snapshot = some (s.entry i).tally.totalizer) ∧
            (¬counted i → t.roster.entries[i].snapshot = s.roster.entries[i].snapshot)) ∧
      (∀ prev, s.demand.source ≠ .lost → s.demand.lPrev = some prev →
        let production : Int := (stations.map produced).sum
        let volume : Int := (((lvl : Int) - prev) * p.tankC).tdiv 1000
        let rate : Nat := min ((max (production - volume) 0).toNat * 3600 / p.tD) 65535
        let d : Nat :=
          if s.demand.primed then
            ((s.demand.d : Int) + ((rate : Int) - s.demand.d).tdiv (2 ^ p.filterShift : Nat)).toNat
          else rate
        let correction : Int :=
          if ((f.lTarget : Int) - lvl).natAbs ≤ p.band then 0
          else (((f.lTarget : Int) - lvl) * p.tankC * 3600).tdiv (1000 * p.tRec : Nat)
        t.demand =
            { s.demand with
              profile := some name, periodTimer := again, lPrev := some lvl, d := d, primed := true,
              overflow := spill, lowLow := low,
              qReq := if spill then 0 else (min (max ((d : Int) + correction) 0) f.qPlantMax).toNat } ∧
          ∀ i : Station, t.roster.entries[i].snapshot =
            if (s.entry i).counted = true then some (s.entry i).tally.totalizer else none)

/-- The stage evaluation counts by the two conditions (R76): in a period that is not held the counters move by up_cond
(R74), else down_cond (R75), else to 0; a held period leaves them (R73). Then the requests: a START candidate whose count
has reached its rank's threshold (R77), a STOP candidate (R78), and a withheld RUNNING train in every period (R81). With no
request made, or one that the Arbiter refuses, the counts stand; a request made with the view FREE, the gap run out and
the join wait passed is taken (R88), which sets the counters to 0 (R80). -/
def Obligations.StageCountersFollowTheConditions : Prop :=
  ∀ (tariff : Bool) (p : Params) (s : State), s.loader.params = some p → s.demand.periodTimer.isSome = true →
    s.demand.source ≠ .lost →
    let f := if tariff then p.peak else p.offPeak
    let n := s.activeSet.length
    let own := s.ident.station
    let withheldRun := s.sequencer.train = .running ∧ s.withheld = true
    let accepts := s.slot.view = .free ∧ s.slot.gap = none ∧ s.slot.joinPassed = true ∧
      s.sequencer.conflict = false
    ∃ t, exec (.demandPeriodEnd tariff) s = .next t ∧
      ((t.demand.overflow = true → s.demand.overflow = true) →
        (s.periodHeld = true →
          (¬(withheldRun ∧ accepts) →
            t.staging.up = s.staging.up ∧ t.staging.down = s.staging.down ∧ t.slot = s.slot) ∧
          (withheldRun → accepts → takesClaim .stop s.ownStopKey s.bidCause s t)) ∧
        (s.periodHeld = false →
          let up := (n < p.mMin ∨ s.capSum * f.stageUpPct < t.demand.qReq * 100) ∧ n < f.mMax ∧
            s.startCandidates ≠ [] ∧ t.demand.overflow = false
          let down := p.mMin < n ∧ (∀ i ∈ s.activeSet, (s.entry i).tally.stateCode ≠ 3) ∧
            t.demand.overflow = false ∧
            ∃ c, s.bestStop = some c ∧
              t.demand.qReq * 100 < (s.capSum - (s.entry c).tally.qmaxAvail) * f.stageDownPct
          ∃ u d : Nat,
            (up → u = min 255 (s.staging.up + 1) ∧ d = 0) ∧
            (¬up → down → u = 0 ∧ d = min 255 (s.staging.down + 1)) ∧
            (¬up → ¬down → u = 0 ∧ d = 0) ∧
            let r := s.rankIn startKey s.startCandidates own
            let starts := own ∈ s.startCandidates ∧
              (p.nUp * r ≤ u ∨ (r ≤ u ∧ t.demand.lowLow = true))
            let stops := own ∈ s.stopCandidates ∧ p.nDn * s.rankIn stopKey s.stopCandidates own ≤ d
            (starts → accepts → takesClaim .start s.ownStartKey .none s t) ∧
            (stops ∨ withheldRun → accepts → takesClaim .stop s.ownStopKey s.bidCause s t) ∧
            (¬((starts ∨ stops ∨ withheldRun) ∧ accepts) →
              t.staging.up = u ∧ t.staging.down = d ∧ t.slot = s.slot)))

/-- The start key and the stop key of an entry (R64, R65), and that the keys of the own station are those of its own
entry. -/
def Obligations.KeysOrderTheTrains : Prop :=
  (∀ b : TallyBody,
    startKey b = min b.failures 3 * 4194304 + b.health * 1048576 + min b.runHours 1048575 ∧
    stopKey b =
      (if b.withheld then 0 else 1) * 8388608 + (3 - b.health) * 2097152 + (2097151 - min b.runHours 2097151) ∧
    (b.health ≤ 3 → startKey b ≤ 16777215 ∧ stopKey b ≤ 16777215)) ∧
  (∀ a b : TallyBody, a.health ≤ 3 → b.health ≤ 3 →
    (min a.failures 3 < min b.failures 3 → startKey a < startKey b) ∧
    (min a.failures 3 = min b.failures 3 → a.health < b.health → startKey a < startKey b) ∧
    (min a.failures 3 = min b.failures 3 → a.health = b.health → a.runHours < b.runHours →
      a.runHours < 1048575 → startKey a < startKey b) ∧
    (a.withheld = true → b.withheld = false → stopKey a < stopKey b) ∧
    (a.withheld = b.withheld → b.health < a.health → stopKey a < stopKey b) ∧
    (a.withheld = b.withheld → a.health = b.health → b.runHours < a.runHours → b.runHours < 2097151 →
      stopKey a < stopKey b)) ∧
  (∀ s : State, s.loadEnded = true →
    let own := (s.entry s.ident.station).tally
    s.ownStartKey = startKey own ∧ s.ownStopKey = stopKey own ∧
      own.failures = s.sequencer.failures ∧ own.runHours = s.sequencer.runSeconds / 3600 ∧
      own.health = (if s.capability.unfit then 3 else s.capability.held.val) ∧
      own.withheld = (s.pins.withhold || s.lport.withholdCmd || s.roster.minority))

/-! ## Level, peers and capacity -/

/-- LEVEL_LOST makes the source LOST with a record of the source before (R3); a silent peer becomes STALE with every
field kept and, from STALE, EMPTY (R46, R47). In a configured part the level follows at once: a peer that stops qualifying
moves the substitute level, and the last one starts the level-lost timer (R2, R3, R54). -/
def Obligations.LostLevelAndSilentPeers : Prop :=
  ∀ (i : Station) (s : State),
    (s.demand.lostTimer.isSome = true →
      exec .levelLost s = .next
        { raise .levelLost s.own s.demand.source.code s with
          demand := { s.demand with source := .lost, lostTimer := none } }) ∧
    (s.ident.station ≠ i → s.roster.entries[i].silence.isSome = true →
      let blocks : List Block :=
        [.demand, .capability, .roster, .staging, .slot, .sequencer, .trim, .protection, .line, .port, .lport, .queue]
      ((s.roster.entries[i].validity = .live ∨ s.roster.entries[i].validity = .excluded) →
        ∃ t, exec (.peerStale i) s = .next t ∧ changesOnly blocks s t ∧
          t.roster.entries[i] = { s.roster.entries[i] with validity := .stale } ∧
          (∀ j : Station, j ≠ i → t.roster.entries[j] = s.roster.entries[j]) ∧
          firstRaised (.peerStale, i.val + 1, s.roster.entries[i].tally.stateCode) s t ∧
          (∀ p, s.loader.params = some p → levelFollows p s t)) ∧
      (s.roster.entries[i].validity = .stale →
        ∃ t, exec (.peerDropped i) s = .next t ∧ changesOnly blocks s t ∧
          t.roster.entries[i] = Entry.none ∧
          (∀ j : Station, j ≠ i → t.roster.entries[j] = s.roster.entries[j]) ∧
          firstRaised (.peerDropped, i.val + 1, s.roster.entries[i].tally.stateCode) s t ∧
          (∀ p, s.loader.params = some p → levelFollows p s t)))

/-- The class-hold timer lowers the held class to the fall target (R31), and a saturation in RUNNING sets the cap and
starts its timer again (R33, R145); both recompute the capacity (R22 to R25) and bring SP down to it in RUNNING (R84). A
saturation outside RUNNING only starts the timer again. -/
def Obligations.CapacityFollowsClassAndSaturation : Prop :=
  ∀ (p : Params) (s : State), s.loader.params = some p → s.capability.temp ≤ 4000 →
    let e : Nat → Int := fun j => ((s.capability.tcf[j]?).getD 0 : Nat)
    let k := s.capability.temp / 125
    let factor : Int :=
      if s.capability.temp = 4000 then e 32
      else e k + ((e (k + 1) - e k) * (s.capability.temp % 125 : Nat)).tdiv 125
    let atTemp : Nat := min ((p.qmaxNom : Int) * factor / 1024).toNat 65535
    let pct : Fin 4 → Nat := fun c => if c = 0 then 100 else if c = 1 then 90 else if c = 2 then 75 else 60
    let capped : Fin 4 → Option Nat → Nat := fun c o => min (atTemp * pct c / 100) (o.getD 65535)
    let follows : Nat → State → Prop := fun qmax t =>
      (s.sequencer.train = .running → qmax < s.staging.sp → t.staging = { s.staging with sp := qmax }) ∧
      (¬(s.sequencer.train = .running ∧ qmax < s.staging.sp) → t.staging = s.staging)
    (∀ fall, s.capability.holdTimer.isSome = true → s.capability.fallTarget = some fall →
      let c := capped fall s.capability.cap
      ∃ t, exec .classHoldExpiry s = .next t ∧ changesOnly [.capability, .staging, .trim] s t ∧
        t.capability =
          { s.capability with
            held := fall, holdTimer := none, fallTarget := none, qmaxAvail := max c p.qmin,
            unfit := decide (c < p.qmin) } ∧
        follows (max c p.qmin) t) ∧
    (s.trim.sat.isSome = true →
      let again : Option Timer := some { since := s.time, span := p.satTime * 1024 }
      let c := capped s.capability.held (some (s.chan 1))
      (s.sequencer.train = .running →
        ∃ t, exec .saturationTimerExpiry s = .next t ∧
          changesOnly [.capability, .staging, .trim, .lport, .queue] s t ∧
          t.capability =
            { s.capability with
              cap := some (s.chan 1), qmaxAvail := max c p.qmin, unfit := decide (c < p.qmin) } ∧
          t.trim.sat = again ∧ t.trim.s = s.trim.s ∧ t.trim.mode = s.trim.mode ∧ follows (max c p.qmin) t ∧
          t.queue = s.queueAfter [(.capacityCapped, s.own, if c < p.qmin then 1 else 0)]) ∧
      (s.sequencer.train ≠ .running →
        exec .saturationTimerExpiry s = .next { s with trim := { s.trim with sat := again } }))

/-! ## The slot and the train -/

/-- The timers that act on one field, each exact: settle gap, join wait, claim grace, expiry of a view HELD, min-run and
settle timer (R87, R97, R101, R117, R143). -/
def Obligations.SmallTimersActExactly : Prop :=
  ∀ s : State,
    exec .settleGapExpiry s = .next { s with slot := { s.slot with gap := none } } ∧
    (s.slot.joinTimer.isSome = true →
      exec .joinWaitExpiry s = .next { s with slot := { s.slot with joinTimer := none, joinPassed := true } }) ∧
    (∀ h, s.slot.view = .held h →
      exec .claimGraceExpiry s = .next { s with slot := { s.slot with view := .held { h with grace := none } } } ∧
      exec .heldViewExpiry s = .next
        { raise .slotExpired (h.station.val + 1) h.kind.code s with
          slot := { s.slot with view := .free, gap := s.gapStarted } }) ∧
    (s.sequencer.minRun.isSome = true →
      exec .minRunExpiry s = .next { s with sequencer := { s.sequencer with minRun := none, minRunMet := true } }) ∧
    (s.trim.settle.isSome = true →
      exec .settleTimerExpiry s = .next { s with trim := { s.trim with settle := none, settled := true } })

/-- CONFIRMATION_WINDOW_EXPIRY in OWN_PENDING (R90): SLOT_WON and the hold timer, a BID that still waits withdrawn (R88),
and the grant starts the train from READY into FILL, or takes a RUNNING train into UNLOAD as a staged stop when its min-run
time is met or it is withheld; otherwise the stop is declined with a YIELD ABORTED and the slot is free (R112, R122). An
overflow that holds aborts the start at once (R125); with S at S_start already the run command goes off at once, and a
drive at rest lets the train pass on to FLUSH with the slot released COMPLETED (R123, R141). A pending TALLY is composed
anew from the entry as the whole taking leaves it (R102; the model's inference, log 10). -/
def Obligations.ConfirmedClaimMovesTheTrain : Prop :=
  ∀ (q : PendingView) (p : Params) (s : State), s.slot.view = .ownPending q → q.window.isSome = true →
    s.loader.params = some p → s.sequencer.conflict = false →
    let hold : Timer := { since := s.time, span := p.tHold * 1024 }
    (q.intent = .start → s.sequencer.train = .ready → s.sequencer.valve = valveOf .ready →
      ∃ t, exec .confirmationWindowExpiry s = .next t ∧
        changesOnly [.slot, .sequencer, .line, .port, .lport, .queue] s t ∧
        (s.demand.overflow = false →
          t.slot = { s.slot with view := .ownHeld .start hold } ∧
          t.sequencer =
            { s.sequencer with
              train := .fill, valve := { feed := true, dump := true, flush := false, run := false },
              phase := some { since := s.time, span := p.tFill * 1024 }, quality := none, staged := false } ∧
          t.line =
            { s.line with
              set := { s.line.set with bid := none, tally := s.line.set.tally.map fun _ => t.ownTally }
              tx := t.line.tx } ∧
          ((∀ b, s.line.tx ≠ .contend (.bid b) ∧ s.line.tx ≠ .send (.bid b)) → s.line.tx ≠ .quiet →
            s.line.tx ≠ .wait → t.line.tx = s.line.tx) ∧
          ((∃ b, s.line.tx = .contend (.bid b) ∨ s.line.tx = .send (.bid b)) →
            t.line.tx = if t.line.set.isEmpty then .quiet else .wait) ∧
          t.queue = s.queueAfter [(.slotWon, s.own, 1), (.stateChange, s.own, 49)]) ∧
        (s.demand.overflow = true →
          givesSlotUp .aborted .start s t ∧ t.line.set.bid = none ∧
          t.sequencer =
            { s.sequencer with
              train := .flush, valve := { feed := false, dump := true, flush := true, run := false },
              phase := some { since := s.time, span := p.tFlush * 1024 }, quality := none, staged := false } ∧
          t.queue = s.queueAfter
            [(.slotWon, s.own, 1), (.stateChange, s.own, 49), (.stateChange, s.own, 85)])) ∧
    (q.intent = .stop → s.sequencer.train = .running → s.sequencer.valve = valveOf .running →
      (s.sequencer.minRunMet = true ∨ s.withheld = true) →
      let stopped :=
        { s.sequencer with
          train := .unload, valve := { feed := true, dump := true, flush := false, run := s.trim.s ≠ p.sStart },
          phase := some { since := s.time, span := p.tUnload * 1024 }, quality := none, staged := true,
          minRun := none, minRunMet := false, intPoint := none }
      ∃ t, exec .confirmationWindowExpiry s = .next t ∧
        changesOnly [.capability, .staging, .slot, .sequencer, .trim, .protection, .line, .port, .lport, .queue] s t ∧
        t.staging = { s.staging with sp := 0 } ∧ t.capability.cap = none ∧ t.line.set.bid = none ∧
        (s.trim.s ≠ p.sStart → t.trim.mode = .rampDown ∧ t.trim.s = s.trim.s) ∧
        (s.trim.s = p.sStart → t.trim.mode = .off ∧ t.trim.s = 0) ∧
        (s.unloadsTo p = .unload →
          t.slot = { s.slot with view := .ownHeld .stop hold } ∧ t.sequencer = stopped ∧
          t.queue = s.queueAfter [(.slotWon, s.own, 2), (.stateChange, s.own, 84)]) ∧
        (s.unloadsTo p = .flush →
          givesSlotUp .completed .stop s t ∧
          t.sequencer =
            { stopped with
              train := .flush, valve := { feed := false, dump := true, flush := true, run := false },
              phase := some { since := s.time, span := p.tFlush * 1024 }, staged := false } ∧
          t.queue = s.queueAfter
            [(.slotWon, s.own, 2), (.stateChange, s.own, 84), (.stateChange, s.own, 85)])) ∧
    (q.intent = .stop → s.sequencer.train = .running → s.sequencer.minRunMet = false → s.withheld = false →
      ∃ t, exec .confirmationWindowExpiry s = .next t ∧ changesOnly [.slot, .line, .port, .lport, .queue] s t ∧
        givesSlotUp .aborted .stop s t ∧ t.line.set.bid = none ∧
        t.queue = s.queueAfter [(.slotWon, s.own, 2)])

/-- OWN_HOLD_EXPIRY (R100, R127): the view is FREE with the settle gap started, SLOT_EXPIRED first and a YIELD OVERRUN; a
start trips HOLD_OVERRUN, out of RUNNING where its quality timer expires at that very moment (R116; the model's inference,
log 36); a staged stop runs on without the slot, with capability, staging, trim and protection as they were. -/
def Obligations.OwnHoldExpiryGivesTheSlotUp : Prop :=
  ∀ (k : Kind) (hold : Timer) (s : State), s.slot.view = .ownHeld k hold → s.sequencer.conflict = false →
    let reaches := s.sequencer.train = .divert ∧
      ∃ m, s.sequencer.quality = some m ∧ m.since + m.span ≤ s.time
    ∃ t, exec .ownHoldExpiry s = .next t ∧
      changesOnly [.capability, .staging, .slot, .sequencer, .trim, .protection, .line, .port, .lport, .queue] s t ∧
      t.slot = { s.slot with view := .free, gap := s.gapStarted } ∧
      t.line.set.yield = some { uid := s.ident.uid, outcome := .overrun, kind := k } ∧
      t.line.set.bid = none ∧ t.line.set.occupied = none ∧
      firstRaised (.slotExpired, s.own, k.code) s t ∧
      (s.sequencer.train.isStarting = true → s.protection.latches.holdOverrun = false →
        t.protection.latches = { s.protection.latches with holdOverrun := true } ∧
          t.sequencer.train = s.afterTrip .holdOverrun ∧ t.runPermit = false ∧
          (¬reaches → t.sequencer.failures = s.sequencer.failures) ∧
          (reaches → t.sequencer.failures = 0 ∧ t.staging.sp = 0 ∧
            (∀ p, s.loader.params = some p → s.demand.overflow = false →
              t.queue = s.queueAfter
                [(.slotExpired, s.own, k.code), (.stateChange, s.own, 64), (.trip, s.own, 9),
                  (.stateChange, s.own, t.ownCode * 16 + t.sequencer.train.phaseCode)]))) ∧
      (s.sequencer.train = .unload →
        t.sequencer = { s.sequencer with staged := false } ∧ t.protection = s.protection ∧
          t.capability = s.capability ∧ t.staging = s.staging ∧ t.trim = s.trim ∧
          t.queue = s.queueAfter [(.slotExpired, s.own, k.code)])

/-- T_fill: the start is counted and the train enters PRESSURIZE with the run command on and S at S_start (R113, R134);
when its test holds at once it passes on to DIVERT, and a good conductivity starts the quality timer (R114, R115). -/
def Obligations.FillExpiryStartsThePump : Prop :=
  ∀ (p : Params) (s : State), s.sequencer.train = .fill → s.sequencer.phase.isSome = true →
    s.loader.params = some p → s.sequencer.conflict = false → s.sequencer.valve = valveOf .fill →
    let test := s.chanValid 1 = true ∧ s.chanValid 5 = true ∧ p.pRunMin ≤ s.chan 5 ∧
      p.qmin ≤ s.chan 1 + p.settleBand
    let on : Valve := { feed := true, dump := true, flush := false, run := true }
    ∃ t, exec .fillExpiry s = .next t ∧ changesOnly [.sequencer, .trim, .protection, .port, .lport, .queue] s t ∧
      t.trim =
        { mode := .trimQmin, s := p.sStart, qEff := s.chan 1, last := some s.time, hold := .clear, settle := none,
          settled := false, sat := none } ∧
      t.protection.latches = s.protection.latches ∧
      (¬test →
        t.sequencer =
            { s.sequencer with
              train := .pressurize, starts := min 65535 (s.sequencer.starts + 1), valve := on,
              phase := some { since := s.time, span := p.tPress * 1024 }, quality := none, staged := false } ∧
          t.queue = s.queueAfter [(.stateChange, s.own, 50)]) ∧
      (test →
        t.sequencer =
            { s.sequencer with
              train := .divert, starts := min 65535 (s.sequencer.starts + 1), valve := on,
              phase := some { since := s.time, span := p.tDivert * 1024 },
              quality :=
                if s.chanValid 2 = true ∧ s.chan 2 ≤ p.kOk then some { since := s.time, span := p.tQual * 1024 }
                else none,
              staged := false } ∧
          t.queue = s.queueAfter [(.stateChange, s.own, 50), (.stateChange, s.own, 51)])

/-- The quality timer takes the train from DIVERT to RUNNING with everything R116 lists, the share among it; an overflow
that holds unloads it at once without the slot (R125). The rest
timer takes it from REST to READY, and in any other state is marked expired (R110). -/
def Obligations.TimersTakeTheTrainToRunningAndReady : Prop :=
  ∀ (p : Params) (s : State), s.loader.params = some p → s.sequencer.conflict = false →
    (s.sequencer.train = .divert → s.sequencer.quality.isSome = true → s.sequencer.valve = valveOf .divert →
      s.demand.overflow = false →
      ∃ t, exec .qualityTimerExpiry s = .next t ∧
        changesOnly [.staging, .slot, .sequencer, .trim, .protection, .line, .port, .lport, .queue] s t ∧
        t.sequencer =
          { s.sequencer with
            train := .running, valve := { feed := true, dump := false, flush := false, run := true }, phase := none,
            quality := none, staged := false,
            minRun := some { since := s.time, span := p.minRunMin * 60 * 1024 }, minRunMet := false, failures := 0,
            intPoint := some s.time } ∧
        t.trim = { s.trim with mode := .trimSp, settle := none, settled := false, sat := none } ∧
        t.staging = { s.staging with sp := t.share p } ∧
        (∀ k hold, s.slot.view = .ownHeld k hold →
          t.slot = { s.slot with view := .free, gap := s.gapStarted } ∧
            t.line.set.yield = some { uid := s.ident.uid, outcome := .completed, kind := k }) ∧
        (s.slot.view.isOwnHeld = false → t.slot = s.slot ∧ t.line = s.line) ∧
        t.queue = s.queueAfter [(.stateChange, s.own, 64)]) ∧
    (s.sequencer.train = .divert → s.sequencer.quality.isSome = true → s.sequencer.valve = valveOf .divert →
      s.demand.overflow = true →
      ∃ t, exec .qualityTimerExpiry s = .next t ∧
        changesOnly
          [.capability, .staging, .slot, .sequencer, .trim, .protection, .line, .port, .lport, .queue] s t ∧
        t.sequencer.train = s.unloadsTo p ∧ t.sequencer.staged = false ∧ t.sequencer.failures = 0 ∧
        t.sequencer.minRun = none ∧ t.sequencer.minRunMet = false ∧ t.sequencer.intPoint = none ∧
        t.staging = { s.staging with sp := 0 } ∧
        (∀ k hold, s.slot.view = .ownHeld k hold → givesSlotUp .completed k s t) ∧
        t.queue = s.queueAfter
          ([(.stateChange, s.own, 64), (.stateChange, s.own, 84)] ++
            if s.unloadsTo p = .flush then [(.stateChange, s.own, 85)] else [])) ∧
    (∀ timer, s.sequencer.rest = .running timer →
      (s.sequencer.train = .rest → s.sequencer.valve = valveOf .rest →
        ∃ t, exec .restTimerExpiry s = .next t ∧ changesOnly [.sequencer, .port, .lport, .queue] s t ∧
          t.sequencer =
            { s.sequencer with train := .ready, phase := none, quality := none, staged := false, rest := .expired } ∧
          t.queue = s.queueAfter [(.stateChange, s.own, 32)]) ∧
      (s.sequencer.train ≠ .rest →
        ∃ t, exec .restTimerExpiry s = .next t ∧ changesOnly [.sequencer, .port] s t ∧
          t.sequencer = { s.sequencer with rest := .expired }))

/-- R124: T_flush ends FLUSH: the rest timer is started for Min rest, and the train enters CONFLICT, TRIPPED, WITHHELD or
REST, the first whose condition holds. -/
def Obligations.FlushEndsInTheFirstStateThatHolds : Prop :=
  ∀ (p : Params) (s : State), s.sequencer.train = .flush → s.sequencer.phase.isSome = true →
    s.loader.params = some p → s.sequencer.valve = valveOf .flush →
    ∃ t, exec .flushExpiry s = .next t ∧ changesOnly [.sequencer, .port, .lport, .queue] s t ∧
      t.sequencer =
        { s.sequencer with
          train :=
            if s.sequencer.conflict then .conflict
            else if s.protection.latches.any then .tripped
            else if s.withheld then .withheld
            else .rest,
          valve := { feed := false, dump := true, flush := false, run := false }, phase := none, quality := none,
          staged := false, rest := .running { since := s.time, span := p.minRestMin * 60 * 1024 } } ∧
      t.queue = s.queueAfter [(.stateChange, s.own, t.ownCode * 16)]

/-! ## The train port -/

/-- A transaction in error below the count of 3 is counted and a write is given again; the third loses the port: every
channel is invalid with its value held, PORT_LOST is raised first, PORT_LOSS is latched and the retry timer starts
(R182). In LOST a retry read is made at each expiry, and its error starts the timer again; its completion restores the
port with the current outputs to be written and the scan pointer advanced, under the mask in force (R183; log 42). -/
def Obligations.ErrorsLoseThePortAndARetryRestoresIt : Prop :=
  ∀ (x : Txn) (s : State),
    let n := min 255 (s.port.errors + 1)
    let second : Option Timer := some { since := s.time, span := 1024 }
    (s.port.state = .inTransaction x →
      ∃ t, exec .transactionError s = .next t ∧ t.port.errors = n ∧ t.port.pendRead = none ∧
        t.port.pointer = s.port.pointer ∧
        (n < 3 → changesOnly [.port] s t ∧ t.port.state.isLost = false ∧ t.port.channels = s.port.channels ∧
          (∀ v, x.kind = .valve v → t.port.pendValve = none ∧ t.port.state =
            .inTransaction { kind := .valve (s.port.pendValve.getD v), settings := s.portSettings }) ∧
          (∀ v, x.kind = .speed v → s.port.pendValve = none → t.port.pendSpeed = none ∧ t.port.state =
            .inTransaction { kind := .speed (s.port.pendSpeed.getD v), settings := s.portSettings }) ∧
          (∀ v w, x.kind = .speed v → s.port.pendValve = some w →
            t.port.pendSpeed = some (s.port.pendSpeed.getD v) ∧ t.port.pendValve = none ∧
            t.port.state = .inTransaction { kind := .valve w, settings := s.portSettings })) ∧
        (3 ≤ n →
          changesOnly
            [.demand, .capability, .staging, .slot, .sequencer, .trim, .protection, .line, .port, .lport, .queue] s t ∧
          t.port.state = .lost none ∧ t.port.retryTimer = second ∧
          (∀ c : Channel, t.chanValid c = false ∧ t.chan c = s.chan c) ∧
          firstRaised (.portLost, s.own,
            match x.kind with
            | .read c => c.val
            | .valve _ => 8
            | .speed _ => 9) s t ∧
          (s.loadEnded = true → s.protection.portFlag = false →
            t.protection.latches.portLoss = true ∧ t.runPermit = false))) ∧
    (s.port.state = .lost (some x) →
      exec .transactionError s = .next
        { s with port :=
          { s.port with state := .lost none, errors := n, pendRead := none, retryTimer := second } } ∧
      ∀ (c : Channel) (w : Word16), x.kind = .read c →
        ∃ t, exec (.retryReadComplete w) s = .next t ∧ changesOnly [.protection, .port, .lport, .queue] s t ∧
          t.port =
            { s.port with
              state := .inTransaction { kind := .valve s.sequencer.valve, settings := s.portSettings },
              retryTimer := none, errors := 0, pendRead := some c, pointer := t.port.pointer, pendValve := none,
              pendSpeed := some s.trim.s } ∧
          (s.portSettings.mask ≠ 0 → nextInScan s.portSettings.mask s.port.pointer t.port.pointer) ∧
          t.protection = { s.protection with portFlag := t.protection.portFlag } ∧
          (s.loadEnded = true → t.protection.portFlag = false) ∧
          t.queue = s.queueAfter [(.portRestored, s.own, c.val)]) ∧
    (s.port.state = .lost none → s.port.retryTimer.isSome = true →
      exec .retryTimerExpiry s = .next
        { s with port :=
          { s.port with
            state := .lost (some { kind := .read s.port.pointer, settings := s.portSettings }), retryTimer := none,
            pace := some { since := s.time, span := s.portSettings.tScan } } })

/-- A completed read stores the word as a sample of the channel the read before it named, scaled within its codes and
held otherwise, or discards it as the priming read, names the next and advances the scan pointer (R178, R179, R184, R185;
under the mask in force, log 42); a mismatched identity word is an error (R187). The sample acts in the blocks that use
its channel (sampleActs). An invalid flow sample in RUNNING keeps the settled flag, as R142 says, where a sentence of R143
clears it: following R142 is the model's choice (log 35). Of the two reasons of a pressure hold the invalid channel 5 is
given first, the model's choice too (log 46). A completed write and the pace timer give the port to the arbiter (R179,
R181). The bytes the part drives in a transaction, and the word of a read, are those of R177 and R108. -/
def Obligations.CompletedTransactionsStoreAndGoOn : Prop :=
  ∀ (x : Txn) (w : Word16) (s : State),
    (∀ low high : Byte, (wordOfBytes low high).toNat = low.toNat + 256 * high.toNat) ∧
    (s.port.state = .inTransaction x →
      s.portBytes =
        (match x.kind with
          | .read n => [BitVec.ofNat 8 (128 + n.val)]
          | .valve v =>
            [0, BitVec.ofNat 8
              ((if v.feed then 1 else 0) + (if v.dump then 2 else 0) + (if v.flush then 4 else 0) +
                (if v.run then 8 else 0))]
          | .speed v => [1, BitVec.ofNat 8 (v % 256), BitVec.ofNat 8 (v / 256)]) ∧
      (∀ n, x.kind = .read n →
        ∃ t, exec (.readComplete w) s = .next t ∧
          changesOnly
            [.demand, .capability, .staging, .slot, .sequencer, .trim, .protection, .line, .port, .lport, .queue] s t ∧
          (s.port.pendRead = none → changesOnly [.port] s t ∧ t.port.errors = 0 ∧ t.port.pendRead = some n ∧
            t.port.channels = s.port.channels) ∧
          (s.port.pendRead ≠ some 7 ∨ x.settings.identity = none ∨ x.settings.identity = some w →
            s.portSettings.mask ≠ 0 → nextInScan s.portSettings.mask s.port.pointer t.port.pointer) ∧
          (∀ c p, s.port.pendRead = some c → s.loader.params = some p → s.loadEnded = true →
            s.sequencer.valve = valveOf s.sequencer.train ∨
              s.sequencer.train = .unload ∧ s.sequencer.valve.run = false → sampleActs p c s t) ∧
          (s.port.pendRead = some 6 → s.loader.params = none → s.loadEnded = true →
            s.sequencer.train.needsParams = false → driveSampleActs s t) ∧
          (∀ c, s.port.pendRead = some c →
            (c ≠ 7 → ∀ d : Channel, d ≠ c → t.port.channels[d] = s.port.channels[d]) ∧
            (c.val < 6 → x.settings.scaling = none → t.chanValid c = false ∧ t.chan c = s.chan c) ∧
            (c = 7 → x.settings.identity = none → t.chanValid 7 = true ∧ t.chan 7 = w.toNat) ∧
            (∀ (v : Vector Scaling 6) (h : c.val < 6), x.settings.scaling = some v →
              t.port.errors = 0 ∧ t.port.pendRead = some n ∧
              ((v[c.val].underCode ≤ w.toNat ∧ w.toNat ≤ v[c.val].overCode) →
                t.chanValid c = true ∧ (t.chan c : Int) =
                  let lo : Int := v[c.val].lo
                  let hi : Int := v[c.val].hi
                  let scaled : Int := lo + (((w.toNat : Int) - v[c.val].codeLo) * (hi - lo)).tdiv
                    ((v[c.val].codeHi : Int) - v[c.val].codeLo)
                  if scaled < lo then lo else if hi < scaled then hi else scaled) ∧
              (¬(v[c.val].underCode ≤ w.toNat ∧ w.toNat ≤ v[c.val].overCode) →
                t.chanValid c = false ∧ t.chan c = s.chan c)) ∧
            (c = 6 → t.chanValid 6 = true ∧ t.chan 6 = w.toNat) ∧
            (∀ id, c = 7 → x.settings.identity = some id →
              (w = id → t.chanValid 7 = true ∧ t.chan 7 = w.toNat ∧ t.port.errors = 0 ∧ t.port.pendRead = some n) ∧
              (w ≠ id → t.chanValid 7 = false ∧ t.chan 7 = s.chan 7 ∧ t.port.pendRead = none ∧
                t.port.pointer = s.port.pointer ∧
                t.port.errors = min 255 (s.port.errors + 1) ∧
                (s.port.errors < 2 → changesOnly [.port] s t))))) ∧
      ((∀ n, x.kind ≠ .read n) →
        ∃ t, exec .writeComplete s = .next t ∧ changesOnly [.port] s t ∧ t.port.errors = 0 ∧
          t.port.channels = s.port.channels ∧ t.port.pendRead = s.port.pendRead ∧
          (s.port.pendValve = none → s.port.pendSpeed = none → s.port.pace.isSome = true → t.port.state = .idle) ∧
          (∀ v, s.port.pendValve = some v →
            t.port.state = .inTransaction { kind := .valve v, settings := s.portSettings })) ∧
      (s.port.pace.isSome = true →
        exec .scanPaceExpiry s = .next { s with port := { s.port with pace := none } })) ∧
    (s.port.state = .idle → s.port.pendValve = none → s.port.pendSpeed = none → s.port.pace.isSome = true →
      exec .scanPaceExpiry s = .next
        { s with port :=
          { s.port with
            state := .inTransaction { kind := .read s.port.pointer, settings := s.portSettings },
            pace := some { since := s.time, span := s.portSettings.tScan } } })
end

