-- ==== Sys2Proof/Laws/State.lean ====
section
/-! SUPPORT. What each named update of State leaves alone, field by field, true by unfolding. -/

namespace Sys2Proof.Machine

open Sys2Proof

variable (s : State)

/-! ## raise -/

@[simp] theorem raise_time (k : EventKind) (station detail : Nat) : (raise k station detail s).time = s.time := rfl
@[simp] theorem raise_ident (k : EventKind) (station detail : Nat) : (raise k station detail s).ident = s.ident := rfl
@[simp] theorem raise_pins (k : EventKind) (station detail : Nat) : (raise k station detail s).pins = s.pins := rfl
@[simp] theorem raise_demand (k : EventKind) (station detail : Nat) : (raise k station detail s).demand = s.demand := rfl
@[simp] theorem raise_capability (k : EventKind) (station detail : Nat) : (raise k station detail s).capability = s.capability := rfl
@[simp] theorem raise_roster (k : EventKind) (station detail : Nat) : (raise k station detail s).roster = s.roster := rfl
@[simp] theorem raise_staging (k : EventKind) (station detail : Nat) : (raise k station detail s).staging = s.staging := rfl
@[simp] theorem raise_slot (k : EventKind) (station detail : Nat) : (raise k station detail s).slot = s.slot := rfl
@[simp] theorem raise_sequencer (k : EventKind) (station detail : Nat) : (raise k station detail s).sequencer = s.sequencer := rfl
@[simp] theorem raise_trim (k : EventKind) (station detail : Nat) : (raise k station detail s).trim = s.trim := rfl
@[simp] theorem raise_protection (k : EventKind) (station detail : Nat) : (raise k station detail s).protection = s.protection := rfl
@[simp] theorem raise_line (k : EventKind) (station detail : Nat) : (raise k station detail s).line = s.line := rfl
@[simp] theorem raise_port (k : EventKind) (station detail : Nat) : (raise k station detail s).port = s.port := rfl
@[simp] theorem raise_loader (k : EventKind) (station detail : Nat) : (raise k station detail s).loader = s.loader := rfl
@[simp] theorem raise_pending (k : EventKind) (station detail : Nat) : (raise k station detail s).pending = s.pending := rfl

/-! ## raiseOwn -/

@[simp] theorem raiseOwn_time (k : EventKind) (detail : Nat) : (raiseOwn k detail s).time = s.time := rfl
@[simp] theorem raiseOwn_ident (k : EventKind) (detail : Nat) : (raiseOwn k detail s).ident = s.ident := rfl
@[simp] theorem raiseOwn_pins (k : EventKind) (detail : Nat) : (raiseOwn k detail s).pins = s.pins := rfl
@[simp] theorem raiseOwn_demand (k : EventKind) (detail : Nat) : (raiseOwn k detail s).demand = s.demand := rfl
@[simp] theorem raiseOwn_capability (k : EventKind) (detail : Nat) : (raiseOwn k detail s).capability = s.capability := rfl
@[simp] theorem raiseOwn_roster (k : EventKind) (detail : Nat) : (raiseOwn k detail s).roster = s.roster := rfl
@[simp] theorem raiseOwn_staging (k : EventKind) (detail : Nat) : (raiseOwn k detail s).staging = s.staging := rfl
@[simp] theorem raiseOwn_slot (k : EventKind) (detail : Nat) : (raiseOwn k detail s).slot = s.slot := rfl
@[simp] theorem raiseOwn_sequencer (k : EventKind) (detail : Nat) : (raiseOwn k detail s).sequencer = s.sequencer := rfl
@[simp] theorem raiseOwn_trim (k : EventKind) (detail : Nat) : (raiseOwn k detail s).trim = s.trim := rfl
@[simp] theorem raiseOwn_protection (k : EventKind) (detail : Nat) : (raiseOwn k detail s).protection = s.protection := rfl
@[simp] theorem raiseOwn_line (k : EventKind) (detail : Nat) : (raiseOwn k detail s).line = s.line := rfl
@[simp] theorem raiseOwn_port (k : EventKind) (detail : Nat) : (raiseOwn k detail s).port = s.port := rfl
@[simp] theorem raiseOwn_loader (k : EventKind) (detail : Nat) : (raiseOwn k detail s).loader = s.loader := rfl
@[simp] theorem raiseOwn_pending (k : EventKind) (detail : Nat) : (raiseOwn k detail s).pending = s.pending := rfl

/-! ## writeValve -/

@[simp] theorem writeValve_time (v : Valve) : (writeValve v s).time = s.time := rfl
@[simp] theorem writeValve_ident (v : Valve) : (writeValve v s).ident = s.ident := rfl
@[simp] theorem writeValve_pins (v : Valve) : (writeValve v s).pins = s.pins := rfl
@[simp] theorem writeValve_demand (v : Valve) : (writeValve v s).demand = s.demand := rfl
@[simp] theorem writeValve_capability (v : Valve) : (writeValve v s).capability = s.capability := rfl
@[simp] theorem writeValve_roster (v : Valve) : (writeValve v s).roster = s.roster := rfl
@[simp] theorem writeValve_staging (v : Valve) : (writeValve v s).staging = s.staging := rfl
@[simp] theorem writeValve_slot (v : Valve) : (writeValve v s).slot = s.slot := rfl
@[simp] theorem writeValve_sequencer (v : Valve) : (writeValve v s).sequencer = s.sequencer := rfl
@[simp] theorem writeValve_trim (v : Valve) : (writeValve v s).trim = s.trim := rfl
@[simp] theorem writeValve_protection (v : Valve) : (writeValve v s).protection = s.protection := rfl
@[simp] theorem writeValve_line (v : Valve) : (writeValve v s).line = s.line := rfl
@[simp] theorem writeValve_loader (v : Valve) : (writeValve v s).loader = s.loader := rfl
@[simp] theorem writeValve_lport (v : Valve) : (writeValve v s).lport = s.lport := rfl
@[simp] theorem writeValve_queue (v : Valve) : (writeValve v s).queue = s.queue := rfl
@[simp] theorem writeValve_pending (v : Valve) : (writeValve v s).pending = s.pending := rfl

/-! ## writeSpeed -/

@[simp] theorem writeSpeed_time (v : Nat) : (writeSpeed v s).time = s.time := rfl
@[simp] theorem writeSpeed_ident (v : Nat) : (writeSpeed v s).ident = s.ident := rfl
@[simp] theorem writeSpeed_pins (v : Nat) : (writeSpeed v s).pins = s.pins := rfl
@[simp] theorem writeSpeed_demand (v : Nat) : (writeSpeed v s).demand = s.demand := rfl
@[simp] theorem writeSpeed_capability (v : Nat) : (writeSpeed v s).capability = s.capability := rfl
@[simp] theorem writeSpeed_roster (v : Nat) : (writeSpeed v s).roster = s.roster := rfl
@[simp] theorem writeSpeed_staging (v : Nat) : (writeSpeed v s).staging = s.staging := rfl
@[simp] theorem writeSpeed_slot (v : Nat) : (writeSpeed v s).slot = s.slot := rfl
@[simp] theorem writeSpeed_sequencer (v : Nat) : (writeSpeed v s).sequencer = s.sequencer := rfl
@[simp] theorem writeSpeed_trim (v : Nat) : (writeSpeed v s).trim = s.trim := rfl
@[simp] theorem writeSpeed_protection (v : Nat) : (writeSpeed v s).protection = s.protection := rfl
@[simp] theorem writeSpeed_line (v : Nat) : (writeSpeed v s).line = s.line := rfl
@[simp] theorem writeSpeed_loader (v : Nat) : (writeSpeed v s).loader = s.loader := rfl
@[simp] theorem writeSpeed_lport (v : Nat) : (writeSpeed v s).lport = s.lport := rfl
@[simp] theorem writeSpeed_queue (v : Nat) : (writeSpeed v s).queue = s.queue := rfl
@[simp] theorem writeSpeed_pending (v : Nat) : (writeSpeed v s).pending = s.pending := rfl

/-! ## setEntry -/

@[simp] theorem setEntry_time (i : Station) (e : Entry) : (setEntry i e s).time = s.time := rfl
@[simp] theorem setEntry_ident (i : Station) (e : Entry) : (setEntry i e s).ident = s.ident := rfl
@[simp] theorem setEntry_pins (i : Station) (e : Entry) : (setEntry i e s).pins = s.pins := rfl
@[simp] theorem setEntry_demand (i : Station) (e : Entry) : (setEntry i e s).demand = s.demand := rfl
@[simp] theorem setEntry_capability (i : Station) (e : Entry) : (setEntry i e s).capability = s.capability := rfl
@[simp] theorem setEntry_staging (i : Station) (e : Entry) : (setEntry i e s).staging = s.staging := rfl
@[simp] theorem setEntry_slot (i : Station) (e : Entry) : (setEntry i e s).slot = s.slot := rfl
@[simp] theorem setEntry_sequencer (i : Station) (e : Entry) : (setEntry i e s).sequencer = s.sequencer := rfl
@[simp] theorem setEntry_trim (i : Station) (e : Entry) : (setEntry i e s).trim = s.trim := rfl
@[simp] theorem setEntry_protection (i : Station) (e : Entry) : (setEntry i e s).protection = s.protection := rfl
@[simp] theorem setEntry_line (i : Station) (e : Entry) : (setEntry i e s).line = s.line := rfl
@[simp] theorem setEntry_port (i : Station) (e : Entry) : (setEntry i e s).port = s.port := rfl
@[simp] theorem setEntry_loader (i : Station) (e : Entry) : (setEntry i e s).loader = s.loader := rfl
@[simp] theorem setEntry_lport (i : Station) (e : Entry) : (setEntry i e s).lport = s.lport := rfl
@[simp] theorem setEntry_queue (i : Station) (e : Entry) : (setEntry i e s).queue = s.queue := rfl
@[simp] theorem setEntry_pending (i : Station) (e : Entry) : (setEntry i e s).pending = s.pending := rfl

/-! ## setChannel -/

@[simp] theorem setChannel_time (c : Channel) (e : ChannelEntry) : (setChannel c e s).time = s.time := rfl
@[simp] theorem setChannel_ident (c : Channel) (e : ChannelEntry) : (setChannel c e s).ident = s.ident := rfl
@[simp] theorem setChannel_pins (c : Channel) (e : ChannelEntry) : (setChannel c e s).pins = s.pins := rfl
@[simp] theorem setChannel_demand (c : Channel) (e : ChannelEntry) : (setChannel c e s).demand = s.demand := rfl
@[simp] theorem setChannel_capability (c : Channel) (e : ChannelEntry) : (setChannel c e s).capability = s.capability := rfl
@[simp] theorem setChannel_roster (c : Channel) (e : ChannelEntry) : (setChannel c e s).roster = s.roster := rfl
@[simp] theorem setChannel_staging (c : Channel) (e : ChannelEntry) : (setChannel c e s).staging = s.staging := rfl
@[simp] theorem setChannel_slot (c : Channel) (e : ChannelEntry) : (setChannel c e s).slot = s.slot := rfl
@[simp] theorem setChannel_sequencer (c : Channel) (e : ChannelEntry) : (setChannel c e s).sequencer = s.sequencer := rfl
@[simp] theorem setChannel_trim (c : Channel) (e : ChannelEntry) : (setChannel c e s).trim = s.trim := rfl
@[simp] theorem setChannel_protection (c : Channel) (e : ChannelEntry) : (setChannel c e s).protection = s.protection := rfl
@[simp] theorem setChannel_line (c : Channel) (e : ChannelEntry) : (setChannel c e s).line = s.line := rfl
@[simp] theorem setChannel_loader (c : Channel) (e : ChannelEntry) : (setChannel c e s).loader = s.loader := rfl
@[simp] theorem setChannel_lport (c : Channel) (e : ChannelEntry) : (setChannel c e s).lport = s.lport := rfl
@[simp] theorem setChannel_queue (c : Channel) (e : ChannelEntry) : (setChannel c e s).queue = s.queue := rfl
@[simp] theorem setChannel_pending (c : Channel) (e : ChannelEntry) : (setChannel c e s).pending = s.pending := rfl

/-! ## answer -/

@[simp] theorem answer_time (reply : List Byte) : (answer reply s).time = s.time := rfl
@[simp] theorem answer_ident (reply : List Byte) : (answer reply s).ident = s.ident := rfl
@[simp] theorem answer_pins (reply : List Byte) : (answer reply s).pins = s.pins := rfl
@[simp] theorem answer_demand (reply : List Byte) : (answer reply s).demand = s.demand := rfl
@[simp] theorem answer_capability (reply : List Byte) : (answer reply s).capability = s.capability := rfl
@[simp] theorem answer_roster (reply : List Byte) : (answer reply s).roster = s.roster := rfl
@[simp] theorem answer_staging (reply : List Byte) : (answer reply s).staging = s.staging := rfl
@[simp] theorem answer_slot (reply : List Byte) : (answer reply s).slot = s.slot := rfl
@[simp] theorem answer_sequencer (reply : List Byte) : (answer reply s).sequencer = s.sequencer := rfl
@[simp] theorem answer_trim (reply : List Byte) : (answer reply s).trim = s.trim := rfl
@[simp] theorem answer_protection (reply : List Byte) : (answer reply s).protection = s.protection := rfl
@[simp] theorem answer_line (reply : List Byte) : (answer reply s).line = s.line := rfl
@[simp] theorem answer_port (reply : List Byte) : (answer reply s).port = s.port := rfl
@[simp] theorem answer_loader (reply : List Byte) : (answer reply s).loader = s.loader := rfl
@[simp] theorem answer_queue (reply : List Byte) : (answer reply s).queue = s.queue := rfl
@[simp] theorem answer_pending (reply : List Byte) : (answer reply s).pending = s.pending := rfl

/-! ## endPendingFall -/

@[simp] theorem endPendingFall_time  : (endPendingFall s).time = s.time := rfl
@[simp] theorem endPendingFall_ident  : (endPendingFall s).ident = s.ident := rfl
@[simp] theorem endPendingFall_pins  : (endPendingFall s).pins = s.pins := rfl
@[simp] theorem endPendingFall_demand  : (endPendingFall s).demand = s.demand := rfl
@[simp] theorem endPendingFall_roster  : (endPendingFall s).roster = s.roster := rfl
@[simp] theorem endPendingFall_staging  : (endPendingFall s).staging = s.staging := rfl
@[simp] theorem endPendingFall_slot  : (endPendingFall s).slot = s.slot := rfl
@[simp] theorem endPendingFall_sequencer  : (endPendingFall s).sequencer = s.sequencer := rfl
@[simp] theorem endPendingFall_trim  : (endPendingFall s).trim = s.trim := rfl
@[simp] theorem endPendingFall_protection  : (endPendingFall s).protection = s.protection := rfl
@[simp] theorem endPendingFall_line  : (endPendingFall s).line = s.line := rfl
@[simp] theorem endPendingFall_port  : (endPendingFall s).port = s.port := rfl
@[simp] theorem endPendingFall_loader  : (endPendingFall s).loader = s.loader := rfl
@[simp] theorem endPendingFall_lport  : (endPendingFall s).lport = s.lport := rfl
@[simp] theorem endPendingFall_queue  : (endPendingFall s).queue = s.queue := rfl
@[simp] theorem endPendingFall_pending  : (endPendingFall s).pending = s.pending := rfl

/-! ## trimStop -/

@[simp] theorem trimStop_time  : (trimStop s).time = s.time := rfl
@[simp] theorem trimStop_ident  : (trimStop s).ident = s.ident := rfl
@[simp] theorem trimStop_pins  : (trimStop s).pins = s.pins := rfl
@[simp] theorem trimStop_demand  : (trimStop s).demand = s.demand := rfl
@[simp] theorem trimStop_capability  : (trimStop s).capability = s.capability := rfl
@[simp] theorem trimStop_roster  : (trimStop s).roster = s.roster := rfl
@[simp] theorem trimStop_staging  : (trimStop s).staging = s.staging := rfl
@[simp] theorem trimStop_slot  : (trimStop s).slot = s.slot := rfl
@[simp] theorem trimStop_sequencer  : (trimStop s).sequencer = s.sequencer := rfl
@[simp] theorem trimStop_protection  : (trimStop s).protection = s.protection := rfl
@[simp] theorem trimStop_line  : (trimStop s).line = s.line := rfl
@[simp] theorem trimStop_loader  : (trimStop s).loader = s.loader := rfl
@[simp] theorem trimStop_lport  : (trimStop s).lport = s.lport := rfl
@[simp] theorem trimStop_queue  : (trimStop s).queue = s.queue := rfl
@[simp] theorem trimStop_pending  : (trimStop s).pending = s.pending := rfl

/-! ## trimToSp -/

@[simp] theorem trimToSp_time  : (trimToSp s).time = s.time := rfl
@[simp] theorem trimToSp_ident  : (trimToSp s).ident = s.ident := rfl
@[simp] theorem trimToSp_pins  : (trimToSp s).pins = s.pins := rfl
@[simp] theorem trimToSp_demand  : (trimToSp s).demand = s.demand := rfl
@[simp] theorem trimToSp_capability  : (trimToSp s).capability = s.capability := rfl
@[simp] theorem trimToSp_roster  : (trimToSp s).roster = s.roster := rfl
@[simp] theorem trimToSp_staging  : (trimToSp s).staging = s.staging := rfl
@[simp] theorem trimToSp_slot  : (trimToSp s).slot = s.slot := rfl
@[simp] theorem trimToSp_sequencer  : (trimToSp s).sequencer = s.sequencer := rfl
@[simp] theorem trimToSp_protection  : (trimToSp s).protection = s.protection := rfl
@[simp] theorem trimToSp_line  : (trimToSp s).line = s.line := rfl
@[simp] theorem trimToSp_port  : (trimToSp s).port = s.port := rfl
@[simp] theorem trimToSp_loader  : (trimToSp s).loader = s.loader := rfl
@[simp] theorem trimToSp_lport  : (trimToSp s).lport = s.lport := rfl
@[simp] theorem trimToSp_queue  : (trimToSp s).queue = s.queue := rfl
@[simp] theorem trimToSp_pending  : (trimToSp s).pending = s.pending := rfl

/-! ## trimToRamp -/

@[simp] theorem trimToRamp_time  : (trimToRamp s).time = s.time := rfl
@[simp] theorem trimToRamp_ident  : (trimToRamp s).ident = s.ident := rfl
@[simp] theorem trimToRamp_pins  : (trimToRamp s).pins = s.pins := rfl
@[simp] theorem trimToRamp_demand  : (trimToRamp s).demand = s.demand := rfl
@[simp] theorem trimToRamp_capability  : (trimToRamp s).capability = s.capability := rfl
@[simp] theorem trimToRamp_roster  : (trimToRamp s).roster = s.roster := rfl
@[simp] theorem trimToRamp_staging  : (trimToRamp s).staging = s.staging := rfl
@[simp] theorem trimToRamp_slot  : (trimToRamp s).slot = s.slot := rfl
@[simp] theorem trimToRamp_sequencer  : (trimToRamp s).sequencer = s.sequencer := rfl
@[simp] theorem trimToRamp_protection  : (trimToRamp s).protection = s.protection := rfl
@[simp] theorem trimToRamp_line  : (trimToRamp s).line = s.line := rfl
@[simp] theorem trimToRamp_port  : (trimToRamp s).port = s.port := rfl
@[simp] theorem trimToRamp_loader  : (trimToRamp s).loader = s.loader := rfl
@[simp] theorem trimToRamp_lport  : (trimToRamp s).lport = s.lport := rfl
@[simp] theorem trimToRamp_queue  : (trimToRamp s).queue = s.queue := rfl
@[simp] theorem trimToRamp_pending  : (trimToRamp s).pending = s.pending := rfl

/-! ## stopQuality -/

@[simp] theorem stopQuality_time  : (stopQuality s).time = s.time := rfl
@[simp] theorem stopQuality_ident  : (stopQuality s).ident = s.ident := rfl
@[simp] theorem stopQuality_pins  : (stopQuality s).pins = s.pins := rfl
@[simp] theorem stopQuality_demand  : (stopQuality s).demand = s.demand := rfl
@[simp] theorem stopQuality_capability  : (stopQuality s).capability = s.capability := rfl
@[simp] theorem stopQuality_roster  : (stopQuality s).roster = s.roster := rfl
@[simp] theorem stopQuality_staging  : (stopQuality s).staging = s.staging := rfl
@[simp] theorem stopQuality_slot  : (stopQuality s).slot = s.slot := rfl
@[simp] theorem stopQuality_trim  : (stopQuality s).trim = s.trim := rfl
@[simp] theorem stopQuality_protection  : (stopQuality s).protection = s.protection := rfl
@[simp] theorem stopQuality_line  : (stopQuality s).line = s.line := rfl
@[simp] theorem stopQuality_port  : (stopQuality s).port = s.port := rfl
@[simp] theorem stopQuality_loader  : (stopQuality s).loader = s.loader := rfl
@[simp] theorem stopQuality_lport  : (stopQuality s).lport = s.lport := rfl
@[simp] theorem stopQuality_queue  : (stopQuality s).queue = s.queue := rfl
@[simp] theorem stopQuality_pending  : (stopQuality s).pending = s.pending := rfl

/-! ## unstage -/

@[simp] theorem unstage_time  : (unstage s).time = s.time := rfl
@[simp] theorem unstage_ident  : (unstage s).ident = s.ident := rfl
@[simp] theorem unstage_pins  : (unstage s).pins = s.pins := rfl
@[simp] theorem unstage_demand  : (unstage s).demand = s.demand := rfl
@[simp] theorem unstage_capability  : (unstage s).capability = s.capability := rfl
@[simp] theorem unstage_roster  : (unstage s).roster = s.roster := rfl
@[simp] theorem unstage_staging  : (unstage s).staging = s.staging := rfl
@[simp] theorem unstage_slot  : (unstage s).slot = s.slot := rfl
@[simp] theorem unstage_trim  : (unstage s).trim = s.trim := rfl
@[simp] theorem unstage_protection  : (unstage s).protection = s.protection := rfl
@[simp] theorem unstage_line  : (unstage s).line = s.line := rfl
@[simp] theorem unstage_port  : (unstage s).port = s.port := rfl
@[simp] theorem unstage_loader  : (unstage s).loader = s.loader := rfl
@[simp] theorem unstage_lport  : (unstage s).lport = s.lport := rfl
@[simp] theorem unstage_queue  : (unstage s).queue = s.queue := rfl
@[simp] theorem unstage_pending  : (unstage s).pending = s.pending := rfl

/-! ## viewFree -/

@[simp] theorem viewFree_time  : (viewFree s).time = s.time := rfl
@[simp] theorem viewFree_ident  : (viewFree s).ident = s.ident := rfl
@[simp] theorem viewFree_pins  : (viewFree s).pins = s.pins := rfl
@[simp] theorem viewFree_demand  : (viewFree s).demand = s.demand := rfl
@[simp] theorem viewFree_capability  : (viewFree s).capability = s.capability := rfl
@[simp] theorem viewFree_roster  : (viewFree s).roster = s.roster := rfl
@[simp] theorem viewFree_staging  : (viewFree s).staging = s.staging := rfl
@[simp] theorem viewFree_sequencer  : (viewFree s).sequencer = s.sequencer := rfl
@[simp] theorem viewFree_trim  : (viewFree s).trim = s.trim := rfl
@[simp] theorem viewFree_protection  : (viewFree s).protection = s.protection := rfl
@[simp] theorem viewFree_port  : (viewFree s).port = s.port := rfl
@[simp] theorem viewFree_loader  : (viewFree s).loader = s.loader := rfl
@[simp] theorem viewFree_lport  : (viewFree s).lport = s.lport := rfl
@[simp] theorem viewFree_queue  : (viewFree s).queue = s.queue := rfl
@[simp] theorem viewFree_pending  : (viewFree s).pending = s.pending := rfl

/-! ## viewHeld -/

@[simp] theorem viewHeld_time (h : HeldView) : (viewHeld h s).time = s.time := rfl
@[simp] theorem viewHeld_ident (h : HeldView) : (viewHeld h s).ident = s.ident := rfl
@[simp] theorem viewHeld_pins (h : HeldView) : (viewHeld h s).pins = s.pins := rfl
@[simp] theorem viewHeld_demand (h : HeldView) : (viewHeld h s).demand = s.demand := rfl
@[simp] theorem viewHeld_capability (h : HeldView) : (viewHeld h s).capability = s.capability := rfl
@[simp] theorem viewHeld_roster (h : HeldView) : (viewHeld h s).roster = s.roster := rfl
@[simp] theorem viewHeld_sequencer (h : HeldView) : (viewHeld h s).sequencer = s.sequencer := rfl
@[simp] theorem viewHeld_trim (h : HeldView) : (viewHeld h s).trim = s.trim := rfl
@[simp] theorem viewHeld_protection (h : HeldView) : (viewHeld h s).protection = s.protection := rfl
@[simp] theorem viewHeld_port (h : HeldView) : (viewHeld h s).port = s.port := rfl
@[simp] theorem viewHeld_loader (h : HeldView) : (viewHeld h s).loader = s.loader := rfl
@[simp] theorem viewHeld_lport (h : HeldView) : (viewHeld h s).lport = s.lport := rfl
@[simp] theorem viewHeld_queue (h : HeldView) : (viewHeld h s).queue = s.queue := rfl
@[simp] theorem viewHeld_pending (h : HeldView) : (viewHeld h s).pending = s.pending := rfl

/-! ## refreshHeld -/

@[simp] theorem refreshHeld_time (h : HeldView) (k : Kind) (r : Nat) : (refreshHeld h k r s).time = s.time := rfl
@[simp] theorem refreshHeld_ident (h : HeldView) (k : Kind) (r : Nat) : (refreshHeld h k r s).ident = s.ident := rfl
@[simp] theorem refreshHeld_pins (h : HeldView) (k : Kind) (r : Nat) : (refreshHeld h k r s).pins = s.pins := rfl
@[simp] theorem refreshHeld_demand (h : HeldView) (k : Kind) (r : Nat) : (refreshHeld h k r s).demand = s.demand := rfl
@[simp] theorem refreshHeld_capability (h : HeldView) (k : Kind) (r : Nat) : (refreshHeld h k r s).capability = s.capability := rfl
@[simp] theorem refreshHeld_roster (h : HeldView) (k : Kind) (r : Nat) : (refreshHeld h k r s).roster = s.roster := rfl
@[simp] theorem refreshHeld_staging (h : HeldView) (k : Kind) (r : Nat) : (refreshHeld h k r s).staging = s.staging := rfl
@[simp] theorem refreshHeld_sequencer (h : HeldView) (k : Kind) (r : Nat) : (refreshHeld h k r s).sequencer = s.sequencer := rfl
@[simp] theorem refreshHeld_trim (h : HeldView) (k : Kind) (r : Nat) : (refreshHeld h k r s).trim = s.trim := rfl
@[simp] theorem refreshHeld_protection (h : HeldView) (k : Kind) (r : Nat) : (refreshHeld h k r s).protection = s.protection := rfl
@[simp] theorem refreshHeld_line (h : HeldView) (k : Kind) (r : Nat) : (refreshHeld h k r s).line = s.line := rfl
@[simp] theorem refreshHeld_port (h : HeldView) (k : Kind) (r : Nat) : (refreshHeld h k r s).port = s.port := rfl
@[simp] theorem refreshHeld_loader (h : HeldView) (k : Kind) (r : Nat) : (refreshHeld h k r s).loader = s.loader := rfl
@[simp] theorem refreshHeld_lport (h : HeldView) (k : Kind) (r : Nat) : (refreshHeld h k r s).lport = s.lport := rfl
@[simp] theorem refreshHeld_queue (h : HeldView) (k : Kind) (r : Nat) : (refreshHeld h k r s).queue = s.queue := rfl
@[simp] theorem refreshHeld_pending (h : HeldView) (k : Kind) (r : Nat) : (refreshHeld h k r s).pending = s.pending := rfl

/-! ## silenceLine -/

@[simp] theorem silenceLine_time  : (silenceLine s).time = s.time := rfl
@[simp] theorem silenceLine_ident  : (silenceLine s).ident = s.ident := rfl
@[simp] theorem silenceLine_pins  : (silenceLine s).pins = s.pins := rfl
@[simp] theorem silenceLine_demand  : (silenceLine s).demand = s.demand := rfl
@[simp] theorem silenceLine_capability  : (silenceLine s).capability = s.capability := rfl
@[simp] theorem silenceLine_roster  : (silenceLine s).roster = s.roster := rfl
@[simp] theorem silenceLine_staging  : (silenceLine s).staging = s.staging := rfl
@[simp] theorem silenceLine_slot  : (silenceLine s).slot = s.slot := rfl
@[simp] theorem silenceLine_sequencer  : (silenceLine s).sequencer = s.sequencer := rfl
@[simp] theorem silenceLine_trim  : (silenceLine s).trim = s.trim := rfl
@[simp] theorem silenceLine_protection  : (silenceLine s).protection = s.protection := rfl
@[simp] theorem silenceLine_port  : (silenceLine s).port = s.port := rfl
@[simp] theorem silenceLine_loader  : (silenceLine s).loader = s.loader := rfl
@[simp] theorem silenceLine_lport  : (silenceLine s).lport = s.lport := rfl
@[simp] theorem silenceLine_queue  : (silenceLine s).queue = s.queue := rfl
@[simp] theorem silenceLine_pending  : (silenceLine s).pending = s.pending := rfl

/-! ## countRxError -/

@[simp] theorem countRxError_time  : (countRxError s).time = s.time := rfl
@[simp] theorem countRxError_ident  : (countRxError s).ident = s.ident := rfl
@[simp] theorem countRxError_pins  : (countRxError s).pins = s.pins := rfl
@[simp] theorem countRxError_demand  : (countRxError s).demand = s.demand := rfl
@[simp] theorem countRxError_capability  : (countRxError s).capability = s.capability := rfl
@[simp] theorem countRxError_roster  : (countRxError s).roster = s.roster := rfl
@[simp] theorem countRxError_staging  : (countRxError s).staging = s.staging := rfl
@[simp] theorem countRxError_slot  : (countRxError s).slot = s.slot := rfl
@[simp] theorem countRxError_sequencer  : (countRxError s).sequencer = s.sequencer := rfl
@[simp] theorem countRxError_trim  : (countRxError s).trim = s.trim := rfl
@[simp] theorem countRxError_protection  : (countRxError s).protection = s.protection := rfl
@[simp] theorem countRxError_port  : (countRxError s).port = s.port := rfl
@[simp] theorem countRxError_loader  : (countRxError s).loader = s.loader := rfl
@[simp] theorem countRxError_lport  : (countRxError s).lport = s.lport := rfl
@[simp] theorem countRxError_queue  : (countRxError s).queue = s.queue := rfl
@[simp] theorem countRxError_pending  : (countRxError s).pending = s.pending := rfl

/-! ## damagedAttempt -/

@[simp] theorem damagedAttempt_time (set : PendingSet) : (damagedAttempt set s).time = s.time := rfl
@[simp] theorem damagedAttempt_ident (set : PendingSet) : (damagedAttempt set s).ident = s.ident := rfl
@[simp] theorem damagedAttempt_pins (set : PendingSet) : (damagedAttempt set s).pins = s.pins := rfl
@[simp] theorem damagedAttempt_demand (set : PendingSet) : (damagedAttempt set s).demand = s.demand := rfl
@[simp] theorem damagedAttempt_capability (set : PendingSet) : (damagedAttempt set s).capability = s.capability := rfl
@[simp] theorem damagedAttempt_roster (set : PendingSet) : (damagedAttempt set s).roster = s.roster := rfl
@[simp] theorem damagedAttempt_staging (set : PendingSet) : (damagedAttempt set s).staging = s.staging := rfl
@[simp] theorem damagedAttempt_slot (set : PendingSet) : (damagedAttempt set s).slot = s.slot := rfl
@[simp] theorem damagedAttempt_sequencer (set : PendingSet) : (damagedAttempt set s).sequencer = s.sequencer := rfl
@[simp] theorem damagedAttempt_trim (set : PendingSet) : (damagedAttempt set s).trim = s.trim := rfl
@[simp] theorem damagedAttempt_protection (set : PendingSet) : (damagedAttempt set s).protection = s.protection := rfl
@[simp] theorem damagedAttempt_port (set : PendingSet) : (damagedAttempt set s).port = s.port := rfl
@[simp] theorem damagedAttempt_loader (set : PendingSet) : (damagedAttempt set s).loader = s.loader := rfl
@[simp] theorem damagedAttempt_lport (set : PendingSet) : (damagedAttempt set s).lport = s.lport := rfl
@[simp] theorem damagedAttempt_queue (set : PendingSet) : (damagedAttempt set s).queue = s.queue := rfl
@[simp] theorem damagedAttempt_pending (set : PendingSet) : (damagedAttempt set s).pending = s.pending := rfl

/-! ## readDone -/

@[simp] theorem readDone_time (n : Channel) : (readDone n s).time = s.time := rfl
@[simp] theorem readDone_ident (n : Channel) : (readDone n s).ident = s.ident := rfl
@[simp] theorem readDone_pins (n : Channel) : (readDone n s).pins = s.pins := rfl
@[simp] theorem readDone_demand (n : Channel) : (readDone n s).demand = s.demand := rfl
@[simp] theorem readDone_capability (n : Channel) : (readDone n s).capability = s.capability := rfl
@[simp] theorem readDone_roster (n : Channel) : (readDone n s).roster = s.roster := rfl
@[simp] theorem readDone_staging (n : Channel) : (readDone n s).staging = s.staging := rfl
@[simp] theorem readDone_slot (n : Channel) : (readDone n s).slot = s.slot := rfl
@[simp] theorem readDone_sequencer (n : Channel) : (readDone n s).sequencer = s.sequencer := rfl
@[simp] theorem readDone_trim (n : Channel) : (readDone n s).trim = s.trim := rfl
@[simp] theorem readDone_protection (n : Channel) : (readDone n s).protection = s.protection := rfl
@[simp] theorem readDone_line (n : Channel) : (readDone n s).line = s.line := rfl
@[simp] theorem readDone_loader (n : Channel) : (readDone n s).loader = s.loader := rfl
@[simp] theorem readDone_lport (n : Channel) : (readDone n s).lport = s.lport := rfl
@[simp] theorem readDone_queue (n : Channel) : (readDone n s).queue = s.queue := rfl
@[simp] theorem readDone_pending (n : Channel) : (readDone n s).pending = s.pending := rfl

/-! ## retryFailed -/

@[simp] theorem retryFailed_time  : (retryFailed s).time = s.time := rfl
@[simp] theorem retryFailed_ident  : (retryFailed s).ident = s.ident := rfl
@[simp] theorem retryFailed_pins  : (retryFailed s).pins = s.pins := rfl
@[simp] theorem retryFailed_demand  : (retryFailed s).demand = s.demand := rfl
@[simp] theorem retryFailed_capability  : (retryFailed s).capability = s.capability := rfl
@[simp] theorem retryFailed_roster  : (retryFailed s).roster = s.roster := rfl
@[simp] theorem retryFailed_staging  : (retryFailed s).staging = s.staging := rfl
@[simp] theorem retryFailed_slot  : (retryFailed s).slot = s.slot := rfl
@[simp] theorem retryFailed_sequencer  : (retryFailed s).sequencer = s.sequencer := rfl
@[simp] theorem retryFailed_trim  : (retryFailed s).trim = s.trim := rfl
@[simp] theorem retryFailed_protection  : (retryFailed s).protection = s.protection := rfl
@[simp] theorem retryFailed_line  : (retryFailed s).line = s.line := rfl
@[simp] theorem retryFailed_loader  : (retryFailed s).loader = s.loader := rfl
@[simp] theorem retryFailed_lport  : (retryFailed s).lport = s.lport := rfl
@[simp] theorem retryFailed_queue  : (retryFailed s).queue = s.queue := rfl
@[simp] theorem retryFailed_pending  : (retryFailed s).pending = s.pending := rfl

/-! ## install -/

@[simp] theorem install_time (i : Image) : (install i s).time = s.time := rfl
@[simp] theorem install_ident (i : Image) : (install i s).ident = s.ident := rfl
@[simp] theorem install_pins (i : Image) : (install i s).pins = s.pins := rfl
@[simp] theorem install_demand (i : Image) : (install i s).demand = s.demand := rfl
@[simp] theorem install_roster (i : Image) : (install i s).roster = s.roster := rfl
@[simp] theorem install_staging (i : Image) : (install i s).staging = s.staging := rfl
@[simp] theorem install_slot (i : Image) : (install i s).slot = s.slot := rfl
@[simp] theorem install_sequencer (i : Image) : (install i s).sequencer = s.sequencer := rfl
@[simp] theorem install_trim (i : Image) : (install i s).trim = s.trim := rfl
@[simp] theorem install_protection (i : Image) : (install i s).protection = s.protection := rfl
@[simp] theorem install_line (i : Image) : (install i s).line = s.line := rfl
@[simp] theorem install_port (i : Image) : (install i s).port = s.port := rfl
@[simp] theorem install_lport (i : Image) : (install i s).lport = s.lport := rfl
@[simp] theorem install_queue (i : Image) : (install i s).queue = s.queue := rfl
@[simp] theorem install_pending (i : Image) : (install i s).pending = s.pending := rfl

/-! ## applyPreload -/

@[simp] theorem applyPreload_time (c : Preload) : (applyPreload c s).time = s.time := rfl
@[simp] theorem applyPreload_ident (c : Preload) : (applyPreload c s).ident = s.ident := rfl
@[simp] theorem applyPreload_pins (c : Preload) : (applyPreload c s).pins = s.pins := rfl
@[simp] theorem applyPreload_demand (c : Preload) : (applyPreload c s).demand = s.demand := rfl
@[simp] theorem applyPreload_capability (c : Preload) : (applyPreload c s).capability = s.capability := rfl
@[simp] theorem applyPreload_roster (c : Preload) : (applyPreload c s).roster = s.roster := rfl
@[simp] theorem applyPreload_staging (c : Preload) : (applyPreload c s).staging = s.staging := rfl
@[simp] theorem applyPreload_slot (c : Preload) : (applyPreload c s).slot = s.slot := rfl
@[simp] theorem applyPreload_trim (c : Preload) : (applyPreload c s).trim = s.trim := rfl
@[simp] theorem applyPreload_protection (c : Preload) : (applyPreload c s).protection = s.protection := rfl
@[simp] theorem applyPreload_line (c : Preload) : (applyPreload c s).line = s.line := rfl
@[simp] theorem applyPreload_port (c : Preload) : (applyPreload c s).port = s.port := rfl
@[simp] theorem applyPreload_loader (c : Preload) : (applyPreload c s).loader = s.loader := rfl
@[simp] theorem applyPreload_lport (c : Preload) : (applyPreload c s).lport = s.lport := rfl
@[simp] theorem applyPreload_queue (c : Preload) : (applyPreload c s).queue = s.queue := rfl
@[simp] theorem applyPreload_pending (c : Preload) : (applyPreload c s).pending = s.pending := rfl

/-! ## startJoinWait -/

@[simp] theorem startJoinWait_time  : (startJoinWait s).time = s.time := rfl
@[simp] theorem startJoinWait_ident  : (startJoinWait s).ident = s.ident := rfl
@[simp] theorem startJoinWait_pins  : (startJoinWait s).pins = s.pins := rfl
@[simp] theorem startJoinWait_demand  : (startJoinWait s).demand = s.demand := rfl
@[simp] theorem startJoinWait_capability  : (startJoinWait s).capability = s.capability := rfl
@[simp] theorem startJoinWait_roster  : (startJoinWait s).roster = s.roster := rfl
@[simp] theorem startJoinWait_staging  : (startJoinWait s).staging = s.staging := rfl
@[simp] theorem startJoinWait_sequencer  : (startJoinWait s).sequencer = s.sequencer := rfl
@[simp] theorem startJoinWait_trim  : (startJoinWait s).trim = s.trim := rfl
@[simp] theorem startJoinWait_protection  : (startJoinWait s).protection = s.protection := rfl
@[simp] theorem startJoinWait_line  : (startJoinWait s).line = s.line := rfl
@[simp] theorem startJoinWait_port  : (startJoinWait s).port = s.port := rfl
@[simp] theorem startJoinWait_loader  : (startJoinWait s).loader = s.loader := rfl
@[simp] theorem startJoinWait_lport  : (startJoinWait s).lport = s.lport := rfl
@[simp] theorem startJoinWait_queue  : (startJoinWait s).queue = s.queue := rfl
@[simp] theorem startJoinWait_pending  : (startJoinWait s).pending = s.pending := rfl

/-! ## dropJoinWait -/

@[simp] theorem dropJoinWait_time  : (dropJoinWait s).time = s.time := rfl
@[simp] theorem dropJoinWait_ident  : (dropJoinWait s).ident = s.ident := rfl
@[simp] theorem dropJoinWait_pins  : (dropJoinWait s).pins = s.pins := rfl
@[simp] theorem dropJoinWait_demand  : (dropJoinWait s).demand = s.demand := rfl
@[simp] theorem dropJoinWait_capability  : (dropJoinWait s).capability = s.capability := rfl
@[simp] theorem dropJoinWait_roster  : (dropJoinWait s).roster = s.roster := rfl
@[simp] theorem dropJoinWait_staging  : (dropJoinWait s).staging = s.staging := rfl
@[simp] theorem dropJoinWait_sequencer  : (dropJoinWait s).sequencer = s.sequencer := rfl
@[simp] theorem dropJoinWait_trim  : (dropJoinWait s).trim = s.trim := rfl
@[simp] theorem dropJoinWait_protection  : (dropJoinWait s).protection = s.protection := rfl
@[simp] theorem dropJoinWait_line  : (dropJoinWait s).line = s.line := rfl
@[simp] theorem dropJoinWait_port  : (dropJoinWait s).port = s.port := rfl
@[simp] theorem dropJoinWait_loader  : (dropJoinWait s).loader = s.loader := rfl
@[simp] theorem dropJoinWait_lport  : (dropJoinWait s).lport = s.lport := rfl
@[simp] theorem dropJoinWait_queue  : (dropJoinWait s).queue = s.queue := rfl
@[simp] theorem dropJoinWait_pending  : (dropJoinWait s).pending = s.pending := rfl

/-! ## resetCounters -/

@[simp] theorem resetCounters_time  : (resetCounters s).time = s.time := rfl
@[simp] theorem resetCounters_ident  : (resetCounters s).ident = s.ident := rfl
@[simp] theorem resetCounters_pins  : (resetCounters s).pins = s.pins := rfl
@[simp] theorem resetCounters_demand  : (resetCounters s).demand = s.demand := rfl
@[simp] theorem resetCounters_capability  : (resetCounters s).capability = s.capability := rfl
@[simp] theorem resetCounters_roster  : (resetCounters s).roster = s.roster := rfl
@[simp] theorem resetCounters_slot  : (resetCounters s).slot = s.slot := rfl
@[simp] theorem resetCounters_sequencer  : (resetCounters s).sequencer = s.sequencer := rfl
@[simp] theorem resetCounters_trim  : (resetCounters s).trim = s.trim := rfl
@[simp] theorem resetCounters_protection  : (resetCounters s).protection = s.protection := rfl
@[simp] theorem resetCounters_line  : (resetCounters s).line = s.line := rfl
@[simp] theorem resetCounters_port  : (resetCounters s).port = s.port := rfl
@[simp] theorem resetCounters_loader  : (resetCounters s).loader = s.loader := rfl
@[simp] theorem resetCounters_lport  : (resetCounters s).lport = s.lport := rfl
@[simp] theorem resetCounters_queue  : (resetCounters s).queue = s.queue := rfl
@[simp] theorem resetCounters_pending  : (resetCounters s).pending = s.pending := rfl

/-! ## stopCapability -/

@[simp] theorem stopCapability_time  : (stopCapability s).time = s.time := rfl
@[simp] theorem stopCapability_ident  : (stopCapability s).ident = s.ident := rfl
@[simp] theorem stopCapability_pins  : (stopCapability s).pins = s.pins := rfl
@[simp] theorem stopCapability_demand  : (stopCapability s).demand = s.demand := rfl
@[simp] theorem stopCapability_roster  : (stopCapability s).roster = s.roster := rfl
@[simp] theorem stopCapability_staging  : (stopCapability s).staging = s.staging := rfl
@[simp] theorem stopCapability_slot  : (stopCapability s).slot = s.slot := rfl
@[simp] theorem stopCapability_sequencer  : (stopCapability s).sequencer = s.sequencer := rfl
@[simp] theorem stopCapability_trim  : (stopCapability s).trim = s.trim := rfl
@[simp] theorem stopCapability_protection  : (stopCapability s).protection = s.protection := rfl
@[simp] theorem stopCapability_line  : (stopCapability s).line = s.line := rfl
@[simp] theorem stopCapability_port  : (stopCapability s).port = s.port := rfl
@[simp] theorem stopCapability_loader  : (stopCapability s).loader = s.loader := rfl
@[simp] theorem stopCapability_lport  : (stopCapability s).lport = s.lport := rfl
@[simp] theorem stopCapability_queue  : (stopCapability s).queue = s.queue := rfl
@[simp] theorem stopCapability_pending  : (stopCapability s).pending = s.pending := rfl

/-! ## stopProtection -/

@[simp] theorem stopProtection_time  : (stopProtection s).time = s.time := rfl
@[simp] theorem stopProtection_ident  : (stopProtection s).ident = s.ident := rfl
@[simp] theorem stopProtection_pins  : (stopProtection s).pins = s.pins := rfl
@[simp] theorem stopProtection_demand  : (stopProtection s).demand = s.demand := rfl
@[simp] theorem stopProtection_capability  : (stopProtection s).capability = s.capability := rfl
@[simp] theorem stopProtection_roster  : (stopProtection s).roster = s.roster := rfl
@[simp] theorem stopProtection_staging  : (stopProtection s).staging = s.staging := rfl
@[simp] theorem stopProtection_slot  : (stopProtection s).slot = s.slot := rfl
@[simp] theorem stopProtection_sequencer  : (stopProtection s).sequencer = s.sequencer := rfl
@[simp] theorem stopProtection_trim  : (stopProtection s).trim = s.trim := rfl
@[simp] theorem stopProtection_line  : (stopProtection s).line = s.line := rfl
@[simp] theorem stopProtection_port  : (stopProtection s).port = s.port := rfl
@[simp] theorem stopProtection_loader  : (stopProtection s).loader = s.loader := rfl
@[simp] theorem stopProtection_lport  : (stopProtection s).lport = s.lport := rfl
@[simp] theorem stopProtection_queue  : (stopProtection s).queue = s.queue := rfl
@[simp] theorem stopProtection_pending  : (stopProtection s).pending = s.pending := rfl

/-! ## startEstimator -/

@[simp] theorem startEstimator_time (p : Params) : (startEstimator p s).time = s.time := rfl
@[simp] theorem startEstimator_ident (p : Params) : (startEstimator p s).ident = s.ident := rfl
@[simp] theorem startEstimator_pins (p : Params) : (startEstimator p s).pins = s.pins := rfl
@[simp] theorem startEstimator_capability (p : Params) : (startEstimator p s).capability = s.capability := rfl
@[simp] theorem startEstimator_roster (p : Params) : (startEstimator p s).roster = s.roster := rfl
@[simp] theorem startEstimator_staging (p : Params) : (startEstimator p s).staging = s.staging := rfl
@[simp] theorem startEstimator_slot (p : Params) : (startEstimator p s).slot = s.slot := rfl
@[simp] theorem startEstimator_sequencer (p : Params) : (startEstimator p s).sequencer = s.sequencer := rfl
@[simp] theorem startEstimator_trim (p : Params) : (startEstimator p s).trim = s.trim := rfl
@[simp] theorem startEstimator_protection (p : Params) : (startEstimator p s).protection = s.protection := rfl
@[simp] theorem startEstimator_line (p : Params) : (startEstimator p s).line = s.line := rfl
@[simp] theorem startEstimator_port (p : Params) : (startEstimator p s).port = s.port := rfl
@[simp] theorem startEstimator_loader (p : Params) : (startEstimator p s).loader = s.loader := rfl
@[simp] theorem startEstimator_lport (p : Params) : (startEstimator p s).lport = s.lport := rfl
@[simp] theorem startEstimator_queue (p : Params) : (startEstimator p s).queue = s.queue := rfl
@[simp] theorem startEstimator_pending (p : Params) : (startEstimator p s).pending = s.pending := rfl

/-! ## refreshSnapshots -/

@[simp] theorem refreshSnapshots_time  : (refreshSnapshots s).time = s.time := by simp only [refreshSnapshots]
@[simp] theorem refreshSnapshots_ident  : (refreshSnapshots s).ident = s.ident := by simp only [refreshSnapshots]
@[simp] theorem refreshSnapshots_pins  : (refreshSnapshots s).pins = s.pins := by simp only [refreshSnapshots]
@[simp] theorem refreshSnapshots_demand  : (refreshSnapshots s).demand = s.demand := by simp only [refreshSnapshots]
@[simp] theorem refreshSnapshots_capability  : (refreshSnapshots s).capability = s.capability := by simp only [refreshSnapshots]
@[simp] theorem refreshSnapshots_staging  : (refreshSnapshots s).staging = s.staging := by simp only [refreshSnapshots]
@[simp] theorem refreshSnapshots_slot  : (refreshSnapshots s).slot = s.slot := by simp only [refreshSnapshots]
@[simp] theorem refreshSnapshots_sequencer  : (refreshSnapshots s).sequencer = s.sequencer := by simp only [refreshSnapshots]
@[simp] theorem refreshSnapshots_trim  : (refreshSnapshots s).trim = s.trim := by simp only [refreshSnapshots]
@[simp] theorem refreshSnapshots_protection  : (refreshSnapshots s).protection = s.protection := by simp only [refreshSnapshots]
@[simp] theorem refreshSnapshots_line  : (refreshSnapshots s).line = s.line := by simp only [refreshSnapshots]
@[simp] theorem refreshSnapshots_port  : (refreshSnapshots s).port = s.port := by simp only [refreshSnapshots]
@[simp] theorem refreshSnapshots_loader  : (refreshSnapshots s).loader = s.loader := by simp only [refreshSnapshots]
@[simp] theorem refreshSnapshots_lport  : (refreshSnapshots s).lport = s.lport := by simp only [refreshSnapshots]
@[simp] theorem refreshSnapshots_queue  : (refreshSnapshots s).queue = s.queue := by simp only [refreshSnapshots]
@[simp] theorem refreshSnapshots_pending  : (refreshSnapshots s).pending = s.pending := by simp only [refreshSnapshots]

/-! ## setSnapshots -/

@[simp] theorem setSnapshots_time  : (setSnapshots s).time = s.time := by simp only [setSnapshots]
@[simp] theorem setSnapshots_ident  : (setSnapshots s).ident = s.ident := by simp only [setSnapshots]
@[simp] theorem setSnapshots_pins  : (setSnapshots s).pins = s.pins := by simp only [setSnapshots]
@[simp] theorem setSnapshots_demand  : (setSnapshots s).demand = s.demand := by simp only [setSnapshots]
@[simp] theorem setSnapshots_capability  : (setSnapshots s).capability = s.capability := by simp only [setSnapshots]
@[simp] theorem setSnapshots_staging  : (setSnapshots s).staging = s.staging := by simp only [setSnapshots]
@[simp] theorem setSnapshots_slot  : (setSnapshots s).slot = s.slot := by simp only [setSnapshots]
@[simp] theorem setSnapshots_sequencer  : (setSnapshots s).sequencer = s.sequencer := by simp only [setSnapshots]
@[simp] theorem setSnapshots_trim  : (setSnapshots s).trim = s.trim := by simp only [setSnapshots]
@[simp] theorem setSnapshots_protection  : (setSnapshots s).protection = s.protection := by simp only [setSnapshots]
@[simp] theorem setSnapshots_line  : (setSnapshots s).line = s.line := by simp only [setSnapshots]
@[simp] theorem setSnapshots_port  : (setSnapshots s).port = s.port := by simp only [setSnapshots]
@[simp] theorem setSnapshots_loader  : (setSnapshots s).loader = s.loader := by simp only [setSnapshots]
@[simp] theorem setSnapshots_lport  : (setSnapshots s).lport = s.lport := by simp only [setSnapshots]
@[simp] theorem setSnapshots_queue  : (setSnapshots s).queue = s.queue := by simp only [setSnapshots]
@[simp] theorem setSnapshots_pending  : (setSnapshots s).pending = s.pending := by simp only [setSnapshots]

/-! ## stopEstimator -/

@[simp] theorem stopEstimator_time  : (stopEstimator s).time = s.time := rfl
@[simp] theorem stopEstimator_ident  : (stopEstimator s).ident = s.ident := rfl
@[simp] theorem stopEstimator_pins  : (stopEstimator s).pins = s.pins := rfl
@[simp] theorem stopEstimator_capability  : (stopEstimator s).capability = s.capability := rfl
@[simp] theorem stopEstimator_staging  : (stopEstimator s).staging = s.staging := rfl
@[simp] theorem stopEstimator_slot  : (stopEstimator s).slot = s.slot := rfl
@[simp] theorem stopEstimator_sequencer  : (stopEstimator s).sequencer = s.sequencer := rfl
@[simp] theorem stopEstimator_trim  : (stopEstimator s).trim = s.trim := rfl
@[simp] theorem stopEstimator_protection  : (stopEstimator s).protection = s.protection := rfl
@[simp] theorem stopEstimator_line  : (stopEstimator s).line = s.line := rfl
@[simp] theorem stopEstimator_port  : (stopEstimator s).port = s.port := rfl
@[simp] theorem stopEstimator_loader  : (stopEstimator s).loader = s.loader := rfl
@[simp] theorem stopEstimator_lport  : (stopEstimator s).lport = s.lport := rfl
@[simp] theorem stopEstimator_queue  : (stopEstimator s).queue = s.queue := rfl
@[simp] theorem stopEstimator_pending  : (stopEstimator s).pending = s.pending := rfl

/-! ## startTallyTimer -/

@[simp] theorem startTallyTimer_time  : (startTallyTimer s).time = s.time := rfl
@[simp] theorem startTallyTimer_ident  : (startTallyTimer s).ident = s.ident := rfl
@[simp] theorem startTallyTimer_pins  : (startTallyTimer s).pins = s.pins := rfl
@[simp] theorem startTallyTimer_demand  : (startTallyTimer s).demand = s.demand := rfl
@[simp] theorem startTallyTimer_capability  : (startTallyTimer s).capability = s.capability := rfl
@[simp] theorem startTallyTimer_roster  : (startTallyTimer s).roster = s.roster := rfl
@[simp] theorem startTallyTimer_staging  : (startTallyTimer s).staging = s.staging := rfl
@[simp] theorem startTallyTimer_slot  : (startTallyTimer s).slot = s.slot := rfl
@[simp] theorem startTallyTimer_sequencer  : (startTallyTimer s).sequencer = s.sequencer := rfl
@[simp] theorem startTallyTimer_trim  : (startTallyTimer s).trim = s.trim := rfl
@[simp] theorem startTallyTimer_protection  : (startTallyTimer s).protection = s.protection := rfl
@[simp] theorem startTallyTimer_port  : (startTallyTimer s).port = s.port := rfl
@[simp] theorem startTallyTimer_loader  : (startTallyTimer s).loader = s.loader := rfl
@[simp] theorem startTallyTimer_lport  : (startTallyTimer s).lport = s.lport := rfl
@[simp] theorem startTallyTimer_queue  : (startTallyTimer s).queue = s.queue := rfl
@[simp] theorem startTallyTimer_pending  : (startTallyTimer s).pending = s.pending := rfl

/-! ## adoptPortSettings -/

@[simp] theorem adoptPortSettings_time  : (adoptPortSettings s).time = s.time := rfl
@[simp] theorem adoptPortSettings_ident  : (adoptPortSettings s).ident = s.ident := rfl
@[simp] theorem adoptPortSettings_pins  : (adoptPortSettings s).pins = s.pins := rfl
@[simp] theorem adoptPortSettings_demand  : (adoptPortSettings s).demand = s.demand := rfl
@[simp] theorem adoptPortSettings_capability  : (adoptPortSettings s).capability = s.capability := rfl
@[simp] theorem adoptPortSettings_roster  : (adoptPortSettings s).roster = s.roster := rfl
@[simp] theorem adoptPortSettings_staging  : (adoptPortSettings s).staging = s.staging := rfl
@[simp] theorem adoptPortSettings_slot  : (adoptPortSettings s).slot = s.slot := rfl
@[simp] theorem adoptPortSettings_sequencer  : (adoptPortSettings s).sequencer = s.sequencer := rfl
@[simp] theorem adoptPortSettings_trim  : (adoptPortSettings s).trim = s.trim := rfl
@[simp] theorem adoptPortSettings_protection  : (adoptPortSettings s).protection = s.protection := rfl
@[simp] theorem adoptPortSettings_line  : (adoptPortSettings s).line = s.line := rfl
@[simp] theorem adoptPortSettings_loader  : (adoptPortSettings s).loader = s.loader := rfl
@[simp] theorem adoptPortSettings_lport  : (adoptPortSettings s).lport = s.lport := rfl
@[simp] theorem adoptPortSettings_queue  : (adoptPortSettings s).queue = s.queue := rfl
@[simp] theorem adoptPortSettings_pending  : (adoptPortSettings s).pending = s.pending := rfl

/-! ## lineIdle -/

@[simp] theorem lineIdle_time  : (lineIdle s).time = s.time := rfl
@[simp] theorem lineIdle_ident  : (lineIdle s).ident = s.ident := rfl
@[simp] theorem lineIdle_pins  : (lineIdle s).pins = s.pins := rfl
@[simp] theorem lineIdle_demand  : (lineIdle s).demand = s.demand := rfl
@[simp] theorem lineIdle_capability  : (lineIdle s).capability = s.capability := rfl
@[simp] theorem lineIdle_roster  : (lineIdle s).roster = s.roster := rfl
@[simp] theorem lineIdle_staging  : (lineIdle s).staging = s.staging := rfl
@[simp] theorem lineIdle_slot  : (lineIdle s).slot = s.slot := rfl
@[simp] theorem lineIdle_sequencer  : (lineIdle s).sequencer = s.sequencer := rfl
@[simp] theorem lineIdle_trim  : (lineIdle s).trim = s.trim := rfl
@[simp] theorem lineIdle_protection  : (lineIdle s).protection = s.protection := rfl
@[simp] theorem lineIdle_port  : (lineIdle s).port = s.port := rfl
@[simp] theorem lineIdle_loader  : (lineIdle s).loader = s.loader := rfl
@[simp] theorem lineIdle_lport  : (lineIdle s).lport = s.lport := rfl
@[simp] theorem lineIdle_queue  : (lineIdle s).queue = s.queue := rfl
@[simp] theorem lineIdle_pending  : (lineIdle s).pending = s.pending := rfl

/-! ## tick -/

@[simp] theorem tick_ident  : (tick s).ident = s.ident := rfl
@[simp] theorem tick_pins  : (tick s).pins = s.pins := rfl
@[simp] theorem tick_demand  : (tick s).demand = s.demand := rfl
@[simp] theorem tick_capability  : (tick s).capability = s.capability := rfl
@[simp] theorem tick_roster  : (tick s).roster = s.roster := rfl
@[simp] theorem tick_staging  : (tick s).staging = s.staging := rfl
@[simp] theorem tick_slot  : (tick s).slot = s.slot := rfl
@[simp] theorem tick_trim  : (tick s).trim = s.trim := rfl
@[simp] theorem tick_protection  : (tick s).protection = s.protection := rfl
@[simp] theorem tick_line  : (tick s).line = s.line := rfl
@[simp] theorem tick_port  : (tick s).port = s.port := rfl
@[simp] theorem tick_loader  : (tick s).loader = s.loader := rfl
@[simp] theorem tick_lport  : (tick s).lport = s.lport := rfl
@[simp] theorem tick_queue  : (tick s).queue = s.queue := rfl
@[simp] theorem tick_pending  : (tick s).pending = s.pending := rfl

/-! ## What the updates write -/

@[simp] theorem raise_queue_seq (k : EventKind) (station detail : Nat) :
    (raise k station detail s).queue.seq = s.queue.seq + 1 := rfl

@[simp] theorem raise_withholdCmd (k : EventKind) (station detail : Nat) :
    (raise k station detail s).lport.withholdCmd = s.lport.withholdCmd := rfl

@[simp] theorem raise_item (k : EventKind) (station detail : Nat) :
    (raise k station detail s).lport.item = s.lport.item := rfl

@[simp] theorem raise_second (k : EventKind) (station detail : Nat) :
    (raise k station detail s).lport.second = s.lport.second := rfl

@[simp] theorem raise_reply (k : EventKind) (station detail : Nat) :
    (raise k station detail s).lport.reply = s.lport.reply := rfl

@[simp] theorem writeValve_pendValve (v : Valve) : (writeValve v s).port.pendValve = some v := rfl

@[simp] theorem writeSpeed_pendSpeed (v : Nat) : (writeSpeed v s).port.pendSpeed = some v := rfl

@[simp] theorem writeValve_channels (v : Valve) : (writeValve v s).port.channels = s.port.channels := rfl

@[simp] theorem writeSpeed_channels (v : Nat) : (writeSpeed v s).port.channels = s.port.channels := rfl

@[simp] theorem writeValve_state (v : Valve) : (writeValve v s).port.state = s.port.state := rfl

@[simp] theorem writeSpeed_state (v : Nat) : (writeSpeed v s).port.state = s.port.state := rfl

@[simp] theorem viewFree_view : (viewFree s).slot.view = .free := rfl

@[simp] theorem viewFree_gap : (viewFree s).slot.gap = s.gapStarted := rfl

@[simp] theorem viewHeld_view (h : HeldView) : (viewHeld h s).slot.view = .held h := rfl

@[simp] theorem trimStop_s : (trimStop s).trim.s = 0 := rfl

@[simp] theorem trimStop_mode : (trimStop s).trim.mode = .off := rfl

@[simp] theorem silenceLine_set : (silenceLine s).line.set.isEmpty = true := rfl

@[simp] theorem silenceLine_tx : (silenceLine s).line.tx = .quiet := rfl

/-! ## Derived views that depend on few fields -/

@[simp] theorem raise_withheld (k : EventKind) (station detail : Nat) :
    (raise k station detail s).withheld = s.withheld := rfl

@[simp] theorem raise_loadEnded (k : EventKind) (station detail : Nat) :
    (raise k station detail s).loadEnded = s.loadEnded := rfl

@[simp] theorem raise_chan (k : EventKind) (station detail : Nat) (c : Channel) :
    (raise k station detail s).chan c = s.chan c := rfl

@[simp] theorem raise_chanValid (k : EventKind) (station detail : Nat) (c : Channel) :
    (raise k station detail s).chanValid c = s.chanValid c := rfl

@[simp] theorem raise_ownCode (k : EventKind) (station detail : Nat) :
    (raise k station detail s).ownCode = s.ownCode := rfl

@[simp] theorem raise_ownTally (k : EventKind) (station detail : Nat) :
    (raise k station detail s).ownTally = s.ownTally := rfl

@[simp] theorem raise_entry (k : EventKind) (station detail : Nat) (i : Station) :
    (raise k station detail s).entry i = s.entry i := rfl

/-! ## One value for each cause -/

@[simp] theorem PerCause.get_put_self {α : Type} (p : PerCause α) (c : Cause) (a : α) : (p.put c a).get c = a := by
  cases c <;> rfl

@[simp] theorem PerCause.get_put_of_ne {α : Type} (p : PerCause α) {c d : Cause} (a : α) (h : d ≠ c) :
    (p.put c a).get d = p.get d := by
  cases c <;> cases d <;> first | rfl | exact absurd rfl h

theorem PerCause.any_eq_true_iff (p : PerCause Bool) : p.any = true ↔ ∃ c, p.get c = true := by
  constructor
  · intro h
    simp only [PerCause.any, Bool.or_eq_true] at h
    rcases h with (((((((h | h) | h) | h) | h) | h) | h) | h) | h
    exacts [⟨.external, h⟩, ⟨.driveFault, h⟩, ⟨.lowSuction, h⟩, ⟨.highPressure, h⟩, ⟨.quality, h⟩,
      ⟨.startFail, h⟩, ⟨.portLoss, h⟩, ⟨.instrument, h⟩, ⟨.holdOverrun, h⟩]
  · rintro ⟨c, h⟩
    cases c <;> simp_all [PerCause.any, PerCause.get]

@[simp] theorem PerCause.any_put_true (p : PerCause Bool) (c : Cause) : (p.put c true).any = true :=
  (p.put c true).any_eq_true_iff.mpr ⟨c, by simp⟩

end Sys2Proof.Machine
end

