-- ==== Sys2Proof/Laws/Frames.lean ====
section
/-! SUPPORT. Which blocks each shared operation can change, from the small updates up to the moves of the train, the arrival of a cause and the samples of the port. -/

namespace Sys2Proof.Machine

open Sys2Proof

variable {s t u : State}

/-! ## Frames compose -/

theorem Block.same_refl (b : Block) (s : State) : b.same s s := by cases b <;> rfl

theorem Block.same_trans {b : Block} (h : b.same s t) (k : b.same t u) : b.same s u := by
  cases b <;> exact Eq.trans k h

theorem changesOnly_refl (bs : List Block) (s : State) : changesOnly bs s s := fun b _ => b.same_refl s

theorem changesOnly.trans {bs : List Block} (h : changesOnly bs s t) (k : changesOnly bs t u) : changesOnly bs s u :=
  fun b hb => Block.same_trans (h b hb) (k b hb)

theorem changesOnly.mono {as bs : List Block} (h : changesOnly as s t) (sub : as ⊆ bs) : changesOnly bs s t :=
  fun b hb => h b fun ha => hb (sub ha)

theorem changesOnly_ite {bs : List Block} {c : Prop} [Decidable c] (h : changesOnly bs s t) (k : changesOnly bs s u) :
    changesOnly bs s (if c then t else u) := by
  split
  · exact h
  · exact k

/-! ## Updates of one or two blocks -/

theorem raise_frame (k : EventKind) (station detail : Nat) : changesOnly [.lport, .queue] s (raise k station detail s) := by
  intro b hb
  cases b <;> first | rfl | simp at hb

theorem raiseOwn_frame (k : EventKind) (detail : Nat) : changesOnly [.lport, .queue] s (raiseOwn k detail s) :=
  raise_frame _ _ _

theorem sequencer_frame (q : Sequencer) : changesOnly [.sequencer] s { s with sequencer := q } := by
  intro b hb
  cases b <;> first | rfl | simp at hb

theorem protection_frame (q : Protection) : changesOnly [.protection] s { s with protection := q } := by
  intro b hb
  cases b <;> first | rfl | simp at hb

theorem capability_frame (q : Capability) : changesOnly [.capability] s { s with capability := q } := by
  intro b hb
  cases b <;> first | rfl | simp at hb

theorem demand_frame (q : Demand) : changesOnly [.demand] s { s with demand := q } := by
  intro b hb
  cases b <;> first | rfl | simp at hb

theorem roster_frame (q : Roster) : changesOnly [.roster] s { s with roster := q } := by
  intro b hb
  cases b <;> first | rfl | simp at hb

theorem slot_frame (q : Slot) : changesOnly [.slot] s { s with slot := q } := by
  intro b hb
  cases b <;> first | rfl | simp at hb

theorem trim_frame (q : Trim) : changesOnly [.trim] s { s with trim := q } := by
  intro b hb
  cases b <;> first | rfl | simp at hb

theorem line_frame (q : Line) : changesOnly [.line] s { s with line := q } := by
  intro b hb
  cases b <;> first | rfl | simp at hb

theorem port_frame (q : Port) : changesOnly [.port] s { s with port := q } := by
  intro b hb
  cases b <;> first | rfl | simp at hb

theorem viewFree_frame : changesOnly [.slot, .line] s (viewFree s) := by
  intro b hb
  cases b <;> first | rfl | simp at hb

theorem viewHeld_frame (h : HeldView) : changesOnly [.staging, .slot, .line] s (viewHeld h s) := by
  intro b hb
  cases b <;> first | rfl | simp at hb

theorem arbitrate_frame : changesOnly [.port] s (arbitrate s) := by
  unfold arbitrate
  split
  · split
    iterate 3 exact port_frame _
    exact changesOnly_refl _ _
  · exact changesOnly_refl _ _

theorem queueFrame_frame (f : TxFrame) : changesOnly [.line] s (queueFrame f s) := by
  unfold queueFrame
  split
  · exact changesOnly_refl _ _
  · exact line_frame _

theorem queueYield_frame (o : YieldOutcome) (k : Kind) : changesOnly [.line] s (queueYield o k s) := queueFrame_frame _

theorem queueOccupied_frame : changesOnly [.line] s (queueOccupied s) := by
  unfold queueOccupied
  split
  · exact queueFrame_frame _
  · exact queueFrame_frame _
  · exact changesOnly_refl _ _

theorem recomposeTally_frame : changesOnly [.line] s (recomposeTally s) := by
  unfold recomposeTally
  split
  · exact line_frame _
  · exact changesOnly_refl _ _

theorem finish_frame (before : State) : changesOnly [.line, .port] s (finish before s) := by
  unfold finish
  split
  · exact arbitrate_frame.mono (by simp)
  · exact (recomposeTally_frame.mono (by simp)).trans (arbitrate_frame.mono (by simp))

/-! ## Capability, trim and Protection's timers -/

theorem setSp_frame (v : Nat) : changesOnly [.staging, .trim] s (setSp v s) := by
  intro b hb
  cases b <;> first | rfl | simp at hb

theorem recompute_frame : changesOnly [.capability, .staging, .trim] s (recompute s) := by
  unfold recompute
  split
  · exact changesOnly_refl _ _
  · exact changesOnly_ite (((capability_frame _).mono (by simp)).trans ((setSp_frame _).mono (by simp)))
      ((capability_frame _).mono (by simp))

theorem clearCap_frame : changesOnly [.capability, .staging, .trim] s (clearCap s) := by
  unfold clearCap
  split
  · exact ((capability_frame _).mono (by simp)).trans recompute_frame
  · exact changesOnly_refl _ _

theorem compareRaw_frame : changesOnly [.capability, .staging, .trim] s (compareRaw s) := by
  unfold compareRaw
  split
  · exact changesOnly_refl _ _
  · dsimp only
    split
    · exact ((capability_frame _).mono (by simp)).trans recompute_frame
    · split
      · exact (capability_frame _).mono (by simp)
      · split <;> exact (capability_frame _).mono (by simp)

theorem qualitySample_frame : changesOnly [.capability, .staging, .trim] s (qualitySample s) := by
  unfold qualitySample
  split
  · exact changesOnly_refl _ _
  · split
    · exact ((capability_frame _).mono (by simp)).trans compareRaw_frame
    · exact changesOnly_refl _ _

theorem pressureSample_frame : changesOnly [.capability, .staging, .trim] s (pressureSample s) := by
  unfold pressureSample
  split
  · exact changesOnly_refl _ _
  · split
    · exact ((capability_frame _).mono (by simp)).trans compareRaw_frame
    · exact changesOnly_refl _ _

theorem temperatureSample_frame : changesOnly [.capability, .staging, .trim] s (temperatureSample s) :=
  ((capability_frame _).mono (by simp)).trans recompute_frame

theorem setSpeed_frame (v : Nat) : changesOnly [.trim, .port] s (setSpeed v s) := by
  unfold setSpeed
  split
  · exact changesOnly_refl _ _
  · exact ((trim_frame _).mono (by simp)).trans ((port_frame _).mono (by simp))

theorem judgeLowSuction_frame : changesOnly [.protection] s (judgeLowSuction s) := by
  unfold judgeLowSuction
  split
  · exact changesOnly_refl _ _
  · exact protection_frame _

theorem judgeQualityTrip_frame : changesOnly [.protection] s (judgeQualityTrip s) := by
  unfold judgeQualityTrip
  split
  · exact changesOnly_refl _ _
  · exact protection_frame _

theorem judgeInstrument_frame : changesOnly [.protection] s (judgeInstrument s) := by
  unfold judgeInstrument
  split
  · exact changesOnly_refl _ _
  · exact protection_frame _

theorem trimStart_frame : changesOnly [.trim, .port] s (trimStart s) := by
  unfold trimStart
  split
  · exact changesOnly_refl _ _
  · exact ((trim_frame _).mono (by simp)).trans ((port_frame _).mono (by simp))

theorem trimStop_frame : changesOnly [.trim, .port] s (trimStop s) :=
  ((trim_frame _).mono (by simp)).trans ((port_frame _).mono (by simp))

theorem afterRunOn_frame : changesOnly [.trim, .protection, .port] s (afterRunOn s) :=
  ((trimStart_frame.mono (by simp)).trans (judgeLowSuction_frame.mono (by simp))).trans
    (judgeInstrument_frame.mono (by simp))

theorem afterRunOff_frame : changesOnly [.capability, .trim, .protection, .port] s (afterRunOff s) :=
  (((trimStop_frame.mono (by simp)).trans ((capability_frame _).mono (by simp))).trans
    (judgeLowSuction_frame.mono (by simp))).trans (judgeInstrument_frame.mono (by simp))

theorem setValve_frame (v : Valve) :
    changesOnly [.capability, .sequencer, .trim, .protection, .port] s (setValve v s) := by
  unfold setValve
  split
  · exact changesOnly_refl _ _
  · have h : changesOnly [.capability, .sequencer, .trim, .protection, .port] s
        (writeValve v { s with sequencer := { s.sequencer with valve := v } }) :=
      ((sequencer_frame _).mono (by simp)).trans ((port_frame _).mono (by simp))
    dsimp only
    split
    · exact h.trans (afterRunOn_frame.mono (by simp))
    · split
      · exact h.trans (afterRunOff_frame.mono (by simp))
      · exact h

/-! ## The slot's own moves -/

theorem request_frame (k : Kind) : changesOnly [.staging, .slot, .line] s (request k s) := by
  unfold request
  split
  · refine changesOnly.trans ?_ ((queueFrame_frame _).mono (by simp))
    intro b hb
    cases b <;> first | rfl | simp at hb
  · exact changesOnly_refl _ _

theorem cancelRequest_frame (o : Option YieldOutcome) : changesOnly [.slot, .line] s (cancelRequest o s) := by
  unfold cancelRequest
  split
  · split
    · exact viewFree_frame.trans ((queueYield_frame _ _).mono (by simp))
    · exact viewFree_frame
  · exact changesOnly_refl _ _

theorem release_frame (o : YieldOutcome) : changesOnly [.slot, .line] s (release o s) := by
  unfold release
  split
  · exact viewFree_frame.trans ((queueYield_frame _ _).mono (by simp))
  · exact changesOnly_refl _ _

theorem cancelOnLeaving_frame (o : YieldOutcome) : changesOnly [.slot, .line] s (cancelOnLeaving o s) := by
  unfold cancelOnLeaving
  split
  · exact cancelRequest_frame _
  · exact cancelRequest_frame _
  · exact changesOnly_refl _ _

/-! ## The train -/

/-- What a move of the train can change. -/
def trainBlocks : List Block :=
  [.capability, .staging, .slot, .sequencer, .trim, .protection, .line, .port, .lport, .queue]

theorem noteChange_frame (before : State) : changesOnly [.lport, .queue] s (noteChange before s) := by
  unfold noteChange
  split
  · exact changesOnly_refl _ _
  · exact raiseOwn_frame _ _

theorem leaveRunning_frame :
    changesOnly [.capability, .staging, .sequencer, .trim, .protection] s (leaveRunning s) := by
  refine changesOnly.trans (changesOnly.trans ?_ (clearCap_frame.mono (by simp)))
    (judgeQualityTrip_frame.mono (by simp))
  intro b hb
  cases b <;> first | rfl | simp at hb

theorem trimFor_frame (x : Train) : changesOnly [.trim] s (trimFor x s) := by
  unfold trimFor
  split
  · exact trim_frame _
  · exact trim_frame _
  · exact changesOnly_refl _ _

theorem moveTo_frame (o : YieldOutcome) (x : Train) : changesOnly trainBlocks s (moveTo o x s) := by
  unfold moveTo
  dsimp only
  refine changesOnly.trans ?_ ((noteChange_frame _).mono (by simp [trainBlocks]))
  have h : changesOnly trainBlocks s (if x = s.sequencer.train then s else cancelOnLeaving o s) :=
    changesOnly_ite (changesOnly_refl _ _) ((cancelOnLeaving_frame _).mono (by simp [trainBlocks]))
  have k : ∀ q : Sequencer, changesOnly trainBlocks s (trimFor x (setValve (valveOf x)
      { (if x = s.sequencer.train then s else cancelOnLeaving o s) with sequencer := q })) := fun q =>
    ((h.trans ((sequencer_frame q).mono (by simp [trainBlocks]))).trans
      ((setValve_frame (valveOf x)).mono (by simp [trainBlocks]))).trans ((trimFor_frame x).mono (by simp [trainBlocks]))
  exact changesOnly_ite ((k _).trans (leaveRunning_frame.mono (by simp [trainBlocks]))) (k _)

theorem startRest_frame : changesOnly [.sequencer] s (startRest s) := by
  unfold startRest
  split
  · exact sequencer_frame _
  · exact changesOnly_refl _ _

theorem enterRest_frame : changesOnly trainBlocks s (enterRest s) := by
  unfold enterRest
  dsimp only
  split
  · exact (moveTo_frame _ _).trans (moveTo_frame _ _)
  · exact moveTo_frame _ _

theorem unloadTest_frame : changesOnly trainBlocks s (unloadTest s) := by
  unfold unloadTest
  split
  · exact (changesOnly_ite ((release_frame _).mono (by simp [trainBlocks])) (changesOnly_refl _ _)).trans
      (moveTo_frame _ _)
  · exact changesOnly_refl _ _

theorem rampArrived_frame : changesOnly trainBlocks s (rampArrived s) := by
  unfold rampArrived
  split
  · exact changesOnly_refl _ _
  · exact changesOnly_ite (((setValve_frame _).mono (by simp [trainBlocks])).trans unloadTest_frame)
      (changesOnly_refl _ _)

theorem enterUnload_frame (staged : Bool) : changesOnly trainBlocks s (enterUnload staged s) :=
  ((moveTo_frame _ _).trans ((sequencer_frame _).mono (by simp [trainBlocks]))).trans rampArrived_frame

theorem endFlush_frame : changesOnly trainBlocks s (endFlush s) := by
  have h : changesOnly trainBlocks s (startRest s) := startRest_frame.mono (by simp [trainBlocks])
  exact changesOnly_ite (h.trans (moveTo_frame _ _)) (changesOnly_ite (h.trans (moveTo_frame _ _))
    (changesOnly_ite (h.trans (moveTo_frame _ _)) (h.trans enterRest_frame)))

theorem leaveStart_frame : changesOnly trainBlocks s (leaveStart s) := by
  unfold leaveStart
  split
  · exact moveTo_frame _ _
  · exact enterUnload_frame _
  · exact enterUnload_frame _
  · exact changesOnly_refl _ _

theorem abortStart_frame : changesOnly trainBlocks s (abortStart s) :=
  changesOnly_ite (((release_frame _).mono (by simp [trainBlocks])).trans leaveStart_frame) (changesOnly_refl _ _)

theorem overflowCheck_frame : changesOnly trainBlocks s (overflowCheck s) :=
  changesOnly_ite (changesOnly_ite (enterUnload_frame _) abortStart_frame) (changesOnly_refl _ _)

theorem sequencerTrip_frame : changesOnly trainBlocks s (sequencerTrip s) := by
  unfold sequencerTrip
  split
  iterate 5 exact ((release_frame _).mono (by simp [trainBlocks])).trans (moveTo_frame _ _)
  · exact changesOnly_ite (changesOnly_refl _ _)
      ((startRest_frame.mono (by simp [trainBlocks])).trans (moveTo_frame _ _))
  iterate 3 exact moveTo_frame _ _
  iterate 3 exact changesOnly_refl _ _

theorem leaveTripped_frame : changesOnly trainBlocks s (leaveTripped s) := by
  have h : changesOnly trainBlocks s (startRest s) := startRest_frame.mono (by simp [trainBlocks])
  exact changesOnly_ite (changesOnly_ite (h.trans (moveTo_frame _ _)) (changesOnly_ite (h.trans (moveTo_frame _ _))
    (h.trans (moveTo_frame _ _)))) (changesOnly_refl _ _)

theorem divertQuality_frame : changesOnly [.sequencer] s (divertQuality s) := by
  unfold divertQuality
  split
  · exact changesOnly_refl _ _
  · exact changesOnly_ite (sequencer_frame _) (changesOnly_refl _ _)

theorem pressurizeTest_frame : changesOnly trainBlocks s (pressurizeTest s) := by
  unfold pressurizeTest
  split
  · exact changesOnly_refl _ _
  · exact changesOnly_ite (changesOnly_ite
      ((moveTo_frame _ _).trans (divertQuality_frame.mono (by simp [trainBlocks]))) (moveTo_frame _ _))
      (changesOnly_refl _ _)

theorem takeGrant_frame (k : Kind) : changesOnly trainBlocks s (takeGrant k s) := by
  unfold takeGrant
  split
  · exact (moveTo_frame _ _).trans overflowCheck_frame
  · exact changesOnly_ite (enterUnload_frame _) ((release_frame _).mono (by simp [trainBlocks]))
  · exact changesOnly_refl _ _

theorem integrate_frame : changesOnly [.sequencer] s (integrate s) := by
  unfold integrate
  split
  · exact sequencer_frame _
  · exact changesOnly_refl _ _

/-! ## Protection and withhold -/

theorem arrive_frame (c : Cause) : changesOnly trainBlocks s (arrive c s) := by
  unfold arrive
  dsimp only
  split
  · exact (protection_frame _).mono (by simp [trainBlocks])
  · exact (((protection_frame _).mono (by simp [trainBlocks])).trans
      ((raiseOwn_frame _ _).mono (by simp [trainBlocks]))).trans sequencerTrip_frame

theorem arriveIf_frame (now before : Bool) (c : Cause) : changesOnly trainBlocks s (arriveIf now before c s) :=
  changesOnly_ite (arrive_frame _) (changesOnly_refl _ _)

theorem judgeExternal_frame : changesOnly trainBlocks s (judgeExternal s) :=
  ((protection_frame _).mono (by simp [trainBlocks])).trans (arriveIf_frame _ _ _)

theorem judgeDriveFault_frame : changesOnly trainBlocks s (judgeDriveFault s) :=
  ((protection_frame _).mono (by simp [trainBlocks])).trans (arriveIf_frame _ _ _)

theorem judgeHighPressure_frame : changesOnly trainBlocks s (judgeHighPressure s) := by
  unfold judgeHighPressure
  split
  · exact changesOnly_refl _ _
  · exact ((protection_frame _).mono (by simp [trainBlocks])).trans (arriveIf_frame _ _ _)

theorem judgePortLoss_frame : changesOnly trainBlocks s (judgePortLoss s) :=
  ((protection_frame _).mono (by simp [trainBlocks])).trans (arriveIf_frame _ _ _)

theorem judgeAfresh_frame : changesOnly trainBlocks s (judgeAfresh s) :=
  ((((protection_frame _).mono (by simp [trainBlocks])).trans judgeExternal_frame).trans judgeDriveFault_frame).trans
    (judgeHighPressure_frame.trans judgePortLoss_frame)

theorem clearLatch_frame (c : Cause) : changesOnly [.protection, .lport, .queue] s (clearLatch s c) :=
  changesOnly_ite (((protection_frame _).mono (by simp)).trans ((raiseOwn_frame _ _).mono (by simp)))
    (changesOnly_refl _ _)

theorem clearLatches_frame : changesOnly [.protection, .lport, .queue] s (clearLatches s) := by
  unfold clearLatches causes
  simp only [List.foldl]
  iterate 8 refine changesOnly.trans ?_ (clearLatch_frame _)
  exact clearLatch_frame _

theorem withholdRises_frame : changesOnly trainBlocks s (withholdRises s) := by
  unfold withholdRises
  split
  · exact moveTo_frame _ _
  · exact moveTo_frame _ _
  · exact abortStart_frame
  · exact abortStart_frame
  · exact abortStart_frame
  · exact changesOnly_refl _ _

theorem withholdFalls_frame : changesOnly trainBlocks s (withholdFalls s) := by
  unfold withholdFalls
  split
  · exact enterRest_frame
  · exact changesOnly_refl _ _

theorem withheldStopRequest_frame : changesOnly trainBlocks s (withheldStopRequest s) :=
  changesOnly_ite ((request_frame _).mono (by simp [trainBlocks])) (changesOnly_refl _ _)

theorem withholdChanged_frame (was arose : Bool) : changesOnly trainBlocks s (withholdChanged was arose s) := by
  have h : changesOnly trainBlocks s
      (if !was && s.withheld then withholdRises s else if was && !s.withheld then withholdFalls s else s) :=
    changesOnly_ite withholdRises_frame (changesOnly_ite withholdFalls_frame (changesOnly_refl _ _))
  exact changesOnly_ite (changesOnly_ite (h.trans withheldStopRequest_frame) h) (changesOnly_refl _ _)

theorem setMinority_frame (v : Bool) : changesOnly (.roster :: trainBlocks) s (setMinority v s) :=
  changesOnly_ite (changesOnly_refl _ _)
    ((((roster_frame _).mono (by simp)).trans ((raiseOwn_frame _ _).mono (by simp [trainBlocks]))).trans
      ((withholdChanged_frame _ _).mono (by simp)))

theorem minorityTest_frame : changesOnly (.roster :: trainBlocks) s (minorityTest s) :=
  changesOnly_ite (setMinority_frame _) (changesOnly_refl _ _)

/-! ## Level, demand and staging -/

theorem judgeLevel_frame : changesOnly [.demand, .lport, .queue] s (judgeLevel s) := by
  unfold judgeLevel
  split
  · exact changesOnly_refl _ _
  · split
    · exact changesOnly_ite (((demand_frame _).mono (by simp)).trans ((raiseOwn_frame _ _).mono (by simp)))
        ((demand_frame _).mono (by simp))
    · exact changesOnly_ite (changesOnly_refl _ _) ((demand_frame _).mono (by simp))

theorem loseLevel_frame : changesOnly [.demand, .lport, .queue] s (loseLevel s) :=
  ((demand_frame _).mono (by simp)).trans ((raiseOwn_frame _ _).mono (by simp))

theorem limitQreq_frame : changesOnly [.demand] s (limitQreq s) := by
  unfold limitQreq
  split
  · exact demand_frame _
  · exact changesOnly_refl _ _

theorem sampleProfile_frame : changesOnly [.demand, .lport, .queue] s (sampleProfile s) :=
  changesOnly_ite (changesOnly_refl _ _)
    ((((demand_frame _).mono (by simp)).trans ((raiseOwn_frame _ _).mono (by simp))).trans
      (limitQreq_frame.mono (by simp)))

theorem computeShare_frame : changesOnly [.staging, .trim] s (computeShare s) := by
  unfold computeShare
  split
  · exact changesOnly_ite (setSp_frame _) (changesOnly_refl _ _)
  · exact changesOnly_refl _ _

theorem enterRunning_frame : changesOnly trainBlocks s (enterRunning s) :=
  (((((moveTo_frame _ _).trans ((sequencer_frame _).mono (by simp [trainBlocks]))).trans
    ((release_frame _).mono (by simp [trainBlocks]))).trans (judgeQualityTrip_frame.mono (by simp [trainBlocks]))).trans
      (computeShare_frame.mono (by simp [trainBlocks]))).trans overflowCheck_frame

/-! ## The slot's grant and overrun -/

theorem reachRunning_frame : changesOnly trainBlocks s (reachRunning s) :=
  changesOnly_ite enterRunning_frame (changesOnly_refl _ _)

theorem unstage_frame : changesOnly [.sequencer] s (unstage s) := sequencer_frame _

theorem overrunSlot_frame : changesOnly trainBlocks s (overrunSlot s) :=
  changesOnly_ite (reachRunning_frame.trans (arrive_frame _))
    (changesOnly_ite (unstage_frame.mono (by simp [trainBlocks])) (changesOnly_refl _ _))

theorem overrunHold_frame (k : Kind) : changesOnly trainBlocks s (overrunHold k s) :=
  (((viewFree_frame.mono (by simp [trainBlocks])).trans ((queueYield_frame _ _).mono (by simp [trainBlocks]))).trans
    ((raiseOwn_frame _ _).mono (by simp [trainBlocks]))).trans overrunSlot_frame

theorem lineSlot_frame (l : Line) (q : Slot) : changesOnly [.slot, .line] s { s with line := l, slot := q } := by
  intro b hb
  cases b <;> simp_all [Block.same]

theorem winSlot_frame (p : PendingView) : changesOnly trainBlocks s (winSlot p s) := by
  unfold winSlot
  refine changesOnly.trans ?_ (takeGrant_frame _)
  refine changesOnly.trans ?_ ((raiseOwn_frame _ _).mono (by simp [trainBlocks]))
  exact (lineSlot_frame _ _).mono (by simp [trainBlocks])

/-! ## The port -/

theorem channelsLost_frame : changesOnly (.demand :: trainBlocks) s (channelsLost s) :=
  (((sequencer_frame _).mono (by simp [trainBlocks])).trans (judgeLevel_frame.mono (by simp [trainBlocks]))).trans
    (judgeInstrument_frame.mono (by simp [trainBlocks]))

theorem enterLost_frame (k : TxnKind) : changesOnly (.demand :: trainBlocks) s (enterLost k s) := by
  have h : changesOnly (.demand :: trainBlocks) s (raiseOwn .portLost k.number
      { s with port :=
        { s.port with
          state := .lost none
          channels := s.port.channels.map fun e => e.after s.time none
          retryTimer := startTimer s.time (seconds 1) } }) :=
    ((port_frame _).mono (by simp [trainBlocks])).trans ((raiseOwn_frame _ _).mono (by simp [trainBlocks]))
  exact (changesOnly_ite (h.trans (judgePortLoss_frame.mono (by simp))) h).trans channelsLost_frame

theorem giveBackWrite_frame (k : TxnKind) : changesOnly [.port] s (giveBackWrite k s) := by
  unfold giveBackWrite
  split
  · exact changesOnly_refl _ _
  · exact port_frame _
  · exact port_frame _

theorem portError_frame (k : TxnKind) : changesOnly (.demand :: trainBlocks) s (portError k s) := by
  have h : changesOnly (.demand :: trainBlocks) s (giveBackWrite k
      { s with port := { s.port with state := .idle, errors := satInc 255 s.port.errors, pendRead := none } }) :=
    ((port_frame _).mono (by simp [trainBlocks])).trans ((giveBackWrite_frame k).mono (by simp [trainBlocks]))
  exact changesOnly_ite (h.trans (enterLost_frame k)) h

theorem restorePort_frame (n : Channel) : changesOnly trainBlocks s (restorePort n s) := by
  unfold restorePort
  dsimp only
  split
  · exact (((port_frame _).mono (by simp [trainBlocks])).trans
      ((raiseOwn_frame _ _).mono (by simp [trainBlocks]))).trans judgePortLoss_frame
  · exact ((port_frame _).mono (by simp [trainBlocks])).trans ((raiseOwn_frame _ _).mono (by simp [trainBlocks]))

end Sys2Proof.Machine
end

