-- ==== Sys2Proof/Laws/Ops.lean ====
section
/-! SUPPORT. What each shared operation does, said once: records, the valve word, the move of the train, the arrival of a cause, the port's arbiter, frames queued and requests. -/

namespace Sys2Proof.Machine

open Sys2Proof

variable {s t u : State}

/-! ## Reading one block out of a frame -/

theorem changesOnly.sequencer_eq {bs : List Block} (h : changesOnly bs s t) (n : Block.sequencer ∉ bs) :
    t.sequencer = s.sequencer := h .sequencer n

theorem changesOnly.protection_eq {bs : List Block} (h : changesOnly bs s t) (n : Block.protection ∉ bs) :
    t.protection = s.protection := h .protection n

theorem changesOnly.queue_eq {bs : List Block} (h : changesOnly bs s t) (n : Block.queue ∉ bs) :
    t.queue = s.queue := h .queue n

theorem changesOnly.time_eq {bs : List Block} (h : changesOnly bs s t) (n : Block.time ∉ bs) :
    t.time = s.time := h .time n

theorem changesOnly.loader_eq {bs : List Block} (h : changesOnly bs s t) (n : Block.loader ∉ bs) :
    t.loader = s.loader := h .loader n

/-! ## Records (R199, R201) -/

/-- A record into a full queue removes the oldest and carries the loss flag. -/
theorem raise_full (k : EventKind) (station detail : Nat) (h : 32 ≤ s.queue.records.length) :
    (raise k station detail s).queue =
      { records := s.queue.records.tail ++
          [{ seq := s.queue.seq, time := s.time, loss := true, kind := k, station := station, detail := detail }]
        seq := s.queue.seq + 1, pendingLoss := true } := by
  simp [raise, h]

/-- A record into a queue with room is appended without the loss flag. -/
theorem raise_room (k : EventKind) (station detail : Nat) (h : s.queue.records.length < 32) :
    (raise k station detail s).queue =
      { records := s.queue.records ++
          [{ seq := s.queue.seq, time := s.time, loss := false, kind := k, station := station, detail := detail }]
        seq := s.queue.seq + 1, pendingLoss := false } := by
  have h' : ¬32 ≤ s.queue.records.length := by omega
  simp [raise, h']

/-- The queue after records depends on the queue and the moment alone. -/
theorem raiseAll_queue_congr (l : List (EventKind × Nat × Nat)) (hq : t.queue = s.queue) (ht : t.time = s.time) :
    (raiseAll l t).queue = (raiseAll l s).queue := by
  induction l generalizing s t with
  | nil => exact hq
  | cons r l ih =>
    refine ih ?_ ?_
    · simp only [raise, hq, ht]
    · simp [ht]

/-- A taking that only adds records: the moment is the same and the queue is the old one with records raised. -/
def Raised (s t : State) : Prop := t.time = s.time ∧ ∃ l, t.queue = s.queueAfter l

theorem Raised.refl (s : State) : Raised s s := ⟨rfl, [], rfl⟩

theorem Raised.of_frame {bs : List Block} (h : changesOnly bs s t) (n : Block.queue ∉ bs) (m : Block.time ∉ bs) :
    Raised s t := ⟨h.time_eq m, [], h.queue_eq n⟩

theorem Raised.raise (k : EventKind) (station detail : Nat) : Raised s (raise k station detail s) :=
  ⟨rfl, [(k, station, detail)], rfl⟩

theorem Raised.trans (h : Raised s t) (k : Raised t u) : Raised s u := by
  obtain ⟨ht, l, hq⟩ := h
  obtain ⟨ku, m, kq⟩ := k
  refine ⟨ku.trans ht, l ++ m, ?_⟩
  have h1 : u.queue = (raiseAll m (raiseAll l s)).queue :=
    kq.trans (raiseAll_queue_congr m hq (by
      have : ∀ (l : List (EventKind × Nat × Nat)) (s : State), (raiseAll l s).time = s.time := by
        intro l
        induction l with
        | nil => intro s; rfl
        | cons r l ih => intro s; exact ih _
      rw [this, ht]))
  rw [h1]
  simp [State.queueAfter, raiseAll, List.foldl_append]

/-- The first record of a taking is the one raised first. -/
theorem firstRaised_of_raise {k : EventKind} {station detail : Nat} (hs : Raised (raise k station detail s) t) :
    firstRaised (k, station, detail) s t := by
  obtain ⟨_, l, h⟩ := hs
  exact ⟨l, h⟩

theorem noteChange_raised (before : State) : Raised s (noteChange before s) := by
  unfold noteChange
  split
  · exact Raised.refl s
  · exact Raised.raise _ _ _

/-! ## Valve word and run command (R108) -/

theorem setValve_sequencer (v : Valve) : (setValve v s).sequencer = { s.sequencer with valve := v } := by
  unfold setValve
  split
  · next h => subst h; rfl
  · dsimp only
    split
    · exact afterRunOn_frame.sequencer_eq (by simp)
    · split
      · exact afterRunOff_frame.sequencer_eq (by simp)
      · rfl

theorem judgeLowSuction_latches : (judgeLowSuction s).protection.latches = s.protection.latches := by
  unfold judgeLowSuction
  split <;> rfl

theorem judgeQualityTrip_latches : (judgeQualityTrip s).protection.latches = s.protection.latches := by
  unfold judgeQualityTrip
  split <;> rfl

theorem judgeInstrument_latches : (judgeInstrument s).protection.latches = s.protection.latches := by
  unfold judgeInstrument
  split <;> rfl

theorem setValve_latches (v : Valve) : (setValve v s).protection.latches = s.protection.latches := by
  unfold setValve
  split
  · rfl
  · dsimp only
    split
    · refine (judgeInstrument_latches.trans judgeLowSuction_latches).trans ?_
      rw [trimStart_frame.protection_eq (by simp)]
      rfl
    · split
      · exact judgeInstrument_latches.trans judgeLowSuction_latches
      · rfl

/-! ## The move of the train -/

/-- On every path out of RUNNING min-run stops and the integration point is gone (R118). -/
theorem leaveRunning_sequencer :
    (leaveRunning s).sequencer = { s.sequencer with minRun := none, minRunMet := false, intPoint := none } := by
  unfold leaveRunning
  rw [judgeQualityTrip_frame.sequencer_eq (by simp), clearCap_frame.sequencer_eq (by simp)]

theorem leaveRunning_latches : (leaveRunning s).protection.latches = s.protection.latches := by
  unfold leaveRunning
  rw [judgeQualityTrip_latches, clearCap_frame.protection_eq (by simp)]

/-- The train state, valve word, phase timer and marks after a move; min-run and the integration point go on the way
out of RUNNING. -/
theorem moveTo_sequencer (o : YieldOutcome) (x : Train) :
    (moveTo o x s).sequencer =
      if s.sequencer.train = .running ∧ x ≠ .running then
        { s.sequencer with
          train := x, valve := valveOf x, phase := phaseTimerOf x s, quality := none, staged := false,
          minRun := none, minRunMet := false, intPoint := none }
      else
        { s.sequencer with
          train := x, valve := valveOf x, phase := phaseTimerOf x s, quality := none, staged := false } := by
  have h : (if x = s.sequencer.train then s else cancelOnLeaving o s).sequencer = s.sequencer := by
    split
    · rfl
    · exact (cancelOnLeaving_frame o).sequencer_eq (by simp)
  unfold moveTo
  dsimp only
  rw [(noteChange_frame _).sequencer_eq (by simp)]
  split
  · rw [leaveRunning_sequencer, (trimFor_frame _).sequencer_eq (by simp), setValve_sequencer]
    simp only [h]
  · rw [(trimFor_frame _).sequencer_eq (by simp), setValve_sequencer]
    simp only [h]

@[simp] theorem moveTo_train (o : YieldOutcome) (x : Train) : (moveTo o x s).sequencer.train = x := by
  rw [moveTo_sequencer]
  split <;> rfl

@[simp] theorem moveTo_conflict (o : YieldOutcome) (x : Train) :
    (moveTo o x s).sequencer.conflict = s.sequencer.conflict := by
  rw [moveTo_sequencer]
  split <;> rfl

@[simp] theorem moveTo_valve (o : YieldOutcome) (x : Train) : (moveTo o x s).sequencer.valve = valveOf x := by
  rw [moveTo_sequencer]
  split <;> rfl

@[simp] theorem moveTo_latches (o : YieldOutcome) (x : Train) :
    (moveTo o x s).protection.latches = s.protection.latches := by
  have h : (if x = s.sequencer.train then s else cancelOnLeaving o s).protection = s.protection := by
    split
    · rfl
    · exact (cancelOnLeaving_frame o).protection_eq (by simp)
  unfold moveTo
  dsimp only
  rw [(noteChange_frame _).protection_eq (by simp)]
  split
  · rw [leaveRunning_latches, (trimFor_frame _).protection_eq (by simp), setValve_latches]
    simp only [h]
  · rw [(trimFor_frame _).protection_eq (by simp), setValve_latches]
    simp only [h]

/-- A move raises at most one record. -/
theorem moveTo_raised (o : YieldOutcome) (x : Train) : Raised s (moveTo o x s) := by
  unfold moveTo
  dsimp only
  refine Raised.trans ?_ (noteChange_raised _)
  have h : Raised s (if x = s.sequencer.train then s else cancelOnLeaving o s) := by
    split
    · exact Raised.refl s
    · exact Raised.of_frame (cancelOnLeaving_frame o) (by simp) (by simp)
  have k : ∀ q : Sequencer, Raised s (trimFor x (setValve (valveOf x)
      { (if x = s.sequencer.train then s else cancelOnLeaving o s) with sequencer := q })) := fun q =>
    ((h.trans (Raised.of_frame (sequencer_frame q) (by simp) (by simp))).trans
      (Raised.of_frame (setValve_frame _) (by simp) (by simp))).trans
        (Raised.of_frame (trimFor_frame _) (by simp) (by simp))
  split
  · exact (k _).trans (Raised.of_frame leaveRunning_frame (by simp) (by simp))
  · exact k _

/-! ## Trips (R128, R148, R149) -/

theorem release_latches (o : YieldOutcome) : (release o s).protection = s.protection :=
  (release_frame o).protection_eq (by simp)

theorem startRest_latches : (startRest s).protection = s.protection := startRest_frame.protection_eq (by simp)

theorem sequencerTrip_latches : (sequencerTrip s).protection.latches = s.protection.latches := by
  unfold sequencerTrip
  split <;> first
    | (rw [moveTo_latches, release_latches])
    | rw [moveTo_latches]
    | rfl
    | (split
       · rfl
       · rw [moveTo_latches, startRest_latches])

/-- The arrival of a cause with its latch set only raises the count. -/
theorem arrive_latched (c : Cause) (h : s.protection.latches.get c = true) :
    arrive c s = { s with protection :=
      { s.protection with counts := s.protection.counts.put c (satInc 63 (s.protection.counts.get c)) } } := by
  unfold arrive
  simp only [h, if_true]

/-- The arrival of a cause with its latch clear sets that latch and no other. -/
theorem arrive_latches (c : Cause) : (arrive c s).protection.latches = s.protection.latches.put c true := by
  unfold arrive
  dsimp only
  split
  · next h =>
    cases c <;> simp_all [PerCause.put, PerCause.get] <;> rw [← h]
  · rw [sequencerTrip_latches]
    rfl

/-! ## The port's arbiter (R181) -/

@[simp] theorem arbitrate_channels : (arbitrate s).port.channels = s.port.channels := by
  unfold arbitrate
  split
  · split <;> rfl
  · rfl

@[simp] theorem arbitrate_errors : (arbitrate s).port.errors = s.port.errors := by
  unfold arbitrate
  split
  · split <;> rfl
  · rfl

@[simp] theorem arbitrate_pendRead : (arbitrate s).port.pendRead = s.port.pendRead := by
  unfold arbitrate
  split
  · split <;> rfl
  · rfl

@[simp] theorem arbitrate_pointer : (arbitrate s).port.pointer = s.port.pointer := by
  unfold arbitrate
  split
  · split <;> rfl
  · rfl

@[simp] theorem arbitrate_retryTimer : (arbitrate s).port.retryTimer = s.port.retryTimer := by
  unfold arbitrate
  split
  · split <;> rfl
  · rfl

/-- With the port not IDLE the arbiter starts nothing. -/
theorem arbitrate_of_busy (h : s.port.state ≠ .idle) : arbitrate s = s := by
  unfold arbitrate
  split
  · next k => exact absurd k h
  · rfl

/-! ## The end of a taking -/

theorem finish_of_same_holding {before : State} (h : s.slot.view.isOwnHeld = before.slot.view.isOwnHeld) :
    finish before s = arbitrate s := by
  unfold finish
  rw [if_pos h]

@[simp] theorem finish_sequencer (before : State) : (finish before s).sequencer = s.sequencer :=
  (finish_frame before).sequencer_eq (by simp)

@[simp] theorem finish_protection (before : State) : (finish before s).protection = s.protection :=
  (finish_frame before).protection_eq (by simp)

@[simp] theorem finish_queue (before : State) : (finish before s).queue = s.queue :=
  (finish_frame before).queue_eq (by simp)

@[simp] theorem finish_loader (before : State) : (finish before s).loader = s.loader :=
  (finish_frame before).loader_eq (by simp)

/-! ## Requests and views -/

/-- A request that the Arbiter refuses does nothing (R88). -/
theorem request_refused (k : Kind) (h : s.takesRequest = false) : request k s = s := by
  unfold request
  simp [h]

/-- No frame joins the set in CONFLICT (R166). -/
theorem queueFrame_conflict (f : TxFrame) (h : s.sequencer.conflict = true) : queueFrame f s = s := by
  unfold queueFrame
  rw [if_pos h]

/-- A release acts in OWN_HELD alone (R99). -/
theorem release_of_not_held (o : YieldOutcome) (h : s.slot.view.isOwnHeld = false) : release o s = s := by
  unfold release
  split
  · next k => rw [k] at h; cases h
  · rfl

/-! ## Withdrawing and beginning a transmission (R88, R166, R167) -/

/-- Following the set changes the transmitter's state alone. -/
theorem Line.follow_eq (l : Line) : l.follow = { l with tx := l.follow.tx } := by
  unfold Line.follow
  split <;> rfl

/-- A withdrawal changes the set, as told, and the transmitter's state. -/
theorem Line.withdraw_eq (set : PendingSet) (withdrawn : TxFrame → Bool) (l : Line) :
    l.withdraw set withdrawn = { l with set := set, tx := (l.withdraw set withdrawn).tx } := by
  unfold Line.withdraw
  split
  · split <;> rfl
  · split <;> rfl
  · rw [Line.follow_eq]

@[simp] theorem Line.withdrawBid_set (l : Line) : l.withdrawBid.set = { l.set with bid := none } := by
  rw [Line.withdrawBid, Line.withdraw_eq]

@[simp] theorem Line.withdrawClaims_set (l : Line) :
    l.withdrawClaims.set = { l.set with bid := none, occupied := none } := by
  rw [Line.withdrawClaims, Line.withdraw_eq]

/-- A frame in ECHO is complete: no withdrawal reaches it. -/
theorem Line.withdraw_of_echo (set : PendingSet) (withdrawn : TxFrame → Bool) {l : Line} {f : TxFrame}
    (h : l.tx = .echo f) : (l.withdraw set withdrawn).tx = .echo f := by
  simp [Line.withdraw, Line.follow, h]

/-- The frame taken first gives the set back. -/
theorem PendingSet.giveBack_of_takeFirst {p rest : PendingSet} {f : TxFrame} (h : p.takeFirst = some (f, rest)) :
    rest.giveBack f = p := by
  obtain ⟨_ | _, _ | _, _ | _, _ | _⟩ := p <;> simp [PendingSet.takeFirst] at h <;> obtain ⟨rfl, rfl⟩ := h <;> rfl

theorem PendingSet.takeFirst_eq_none {p : PendingSet} : p.takeFirst = none ↔ p.isEmpty = true := by
  obtain ⟨_ | _, _ | _, _ | _, _ | _⟩ := p <;> simp [PendingSet.takeFirst, PendingSet.isEmpty]

/-- What a sight of the line leaves the receiver: idle, exactly with 11 bit times of recessive line and no reception
open. -/
theorem Receiver.see_eq_idle {r : Receiver} {b : Bool} : r.see b = .idle ↔ b = true ∧ r ≠ .receiving := by
  cases r <;> cases b <;> decide

/-- A sight of the line changes the receiver alone. -/
theorem seeLine_line (n : Nat) :
    (seeLine n s).line = { s.line with rx := s.line.rx.see (holdsBitTimes s.ident.rate 11 n) } := rfl

/-- TRANSMIT_BEGIN in WAIT, with the line idle and any deferral run. -/
theorem execTransmitBegin_of_ready {f : TxFrame} {rest : PendingSet} {n : Nat} (h : s.line.tx = .wait)
    (k : s.line.set.takeFirst = some (f, rest)) (i : (seeLine n s).line.rx = .idle) (m : s.deferralRun n = true) :
    execTransmitBegin s n = .next
      { s with line := { s.line with set := rest, tx := .contend f, rx := .receiving, deferral := none } } := by
  simp only [execTransmitBegin, h, k, i, m, and_self, if_true]
  rfl

/-- TRANSMIT_BEGIN before that is a sight of the line and nothing else. -/
theorem execTransmitBegin_of_not_ready {f : TxFrame} {rest : PendingSet} {n : Nat} (h : s.line.tx = .wait)
    (k : s.line.set.takeFirst = some (f, rest))
    (m : ¬((seeLine n s).line.rx = .idle ∧ s.deferralRun n = true)) :
    execTransmitBegin s n = .next (seeLine n s) := by
  simp [execTransmitBegin, h, k, m]

end Sys2Proof.Machine
end

