-- ==== Sys2Proof/WellFormed.lean ====
section
/-! DEFINITION. Which commands can come from the world as the spec describes it: the operands that a row's event can carry. The meanings do not ask for it; an operand outside it has the meaning of what it physically is (logs 7, 8). -/

namespace Sys2Proof

/-- The image is read whole: 271 bytes (R190). -/
def imageWf (image : List Byte) : Bool := decide (image.length = 271)

/-- The second index byte comes after the first (R196). -/
def setIndexWf (item second : Option Byte) : Bool := item.isSome || second.isNone

/-- An operation byte without an operation (R196). -/
def unknownWf (op : Byte) : Bool := decide (operation op none none false = .unknownCommand op)

/-- The characters make an accepted frame of one of the classes (R164, R175). -/
def acceptedWf (classes : List Nat) (rx : List RxChar) : Bool :=
  match Machine.receive rx with
  | .accepted f => classes.contains f.cls
  | .nothing | .discarded => false

/-- The characters make a frame that R164 discards, or are glitches alone (R162), whose idle no other row brings (log
23). -/
def discardedWf (rx : List RxChar) : Bool :=
  match Machine.receive rx with
  | .discarded => true
  | .nothing => !rx.isEmpty
  | .accepted _ => false

/-- The characters make a frame, accepted or not: what a transmitter in ECHO judges (R169). -/
def heardWf (rx : List RxChar) : Bool := rx.any (·.startDominant)

/-- The operands of a command are ones its event can carry. -/
def Instr.wellFormed : Instr → Bool
  | .configLoadEnd image _ | .reloadEnd image _ => imageWf image
  | .setIndex item second => setIndexWf item second
  | .unknownCommand op => unknownWf op
  | .tallyReceived rx => acceptedWf [8] rx
  | .bidReceived rx => acceptedWf [3, 4] rx
  | .occupiedReceived rx => acceptedWf [1] rx
  | .yieldReceived rx => acceptedWf [2] rx
  | .frameDiscarded rx => discardedWf rx
  | .duplicateStation rx => acceptedWf [1, 2, 3, 4, 8] rx
  | .ownEcho rx => heardWf rx
  | .deviceReset _ _ | .readItem _ | .popEvent | .popEventEnd | .withhold | .returnCmd | .clearTrips
  | .clearCounters | .reloadConfig | .withholdLineChange _ | .tripInChange _ | .transmitBegin _ | .contentionLost
  | .lineFault | .demandPeriodEnd _ | .levelLost | .classHoldExpiry | .peerStale _ | .peerDropped _
  | .confirmationWindowExpiry | .ownHoldExpiry | .heldViewExpiry | .settleGapExpiry | .joinWaitExpiry
  | .claimGraceExpiry | .restTimerExpiry | .fillExpiry | .pressurizeTimeout | .qualityTimerExpiry | .divertTimeout
  | .minRunExpiry | .unloadTimeout | .flushExpiry | .settleTimerExpiry | .saturationTimerExpiry
  | .lowSuctionExpiry | .qualityTripExpiry | .instrumentExpiry | .tallyTimerExpiry | .scanPaceExpiry
  | .retryTimerExpiry | .readComplete _ | .writeComplete | .transactionError | .retryReadComplete _ | .headerWon
  | .lastCrcBitSent => true

end Sys2Proof
end

