-- ==== Sys2Proof/Tests/Slice0.lean ====
section
/-! SUPPORT. Tests of the model against the manual's worked cases, an ill-formed operand for each check of well-formedness, and for each statement with hypotheses a concrete state and operands that meet them all. -/

namespace Sys2Proof.Tests

set_option Elab.async false

open Sys2Proof Sys2Proof.Machine

/-! ## Well-formedness refuses what no event can carry -/

theorem test_short_image_is_ill_formed : (Instr.configLoadEnd [] true).wellFormed = false := by decide

theorem test_short_reload_is_ill_formed : (Instr.reloadEnd (List.replicate 270 0) true).wellFormed = false := by
  decide +kernel

theorem test_second_index_alone_is_ill_formed : (Instr.setIndex none (some 3)).wellFormed = false := by decide

theorem test_known_operation_is_ill_formed : (Instr.unknownCommand 0x14).wellFormed = false := by decide

theorem test_unknown_operation_is_well_formed : (Instr.unknownCommand 0x15).wellFormed = true := by decide

theorem test_empty_tally_is_ill_formed : (Instr.tallyReceived []).wellFormed = false := by decide

theorem test_bad_bid_is_ill_formed : (Instr.bidReceived [cleanChar 0x30]).wellFormed = false := by decide

theorem test_bad_occupied_is_ill_formed : (Instr.occupiedReceived [cleanChar 0x10]).wellFormed = false := by decide

theorem test_bad_yield_is_ill_formed : (Instr.yieldReceived [cleanChar 0x20]).wellFormed = false := by decide

theorem test_nothing_discarded_is_ill_formed : (Instr.frameDiscarded []).wellFormed = false := by decide

theorem test_accepted_frame_is_not_discarded :
    (Instr.frameDiscarded ((frameChars 2 0 6 (YieldBody.chars ⟨7, .overrun, .stop⟩)).map cleanChar)).wellFormed = false := by
  decide +kernel

theorem test_bad_duplicate_is_ill_formed : (Instr.duplicateStation [cleanChar 0x80]).wellFormed = false := by decide

theorem test_silent_echo_is_ill_formed : (Instr.ownEcho []).wellFormed = false := by decide

/-- The operation bytes of R196, and the first one that no command has. -/
theorem test_operation_bytes :
    (operation 0x01 (some 9) (some 3) true, operation 0x14 none none true, operation 0x15 none none true) =
      (.setIndex (some 9) (some 3), .reloadConfig, .unknownCommand 0x15) := by decide

/-- No row of the table gives bits, so no word spells a command. -/
theorem test_no_word_spells_a_command : decodeTableWord 8 0 = none := by decide

/-! ## CRC and headers (R163, section 9.8) -/

theorem test_crc_check_value :
    crc [0x31, 0x32, 0x33, 0x34, 0x35, 0x36, 0x37, 0x38, 0x39] = 0x29B1#16 := by decide +kernel

theorem test_header_station_5 : headerChars 4 0x10315E 4 = [0x41, 0x03, 0x15, 0xE4] := by decide

theorem test_header_station_9 : headerChars 4 0x0F9200 8 = [0x40, 0xF9, 0x20, 0x08] := by decide

theorem test_header_station_2 : headerChars 8 0 1 = [0x80, 0x00, 0x00, 0x01] := by decide

/-! ## A plant to test in: the parameters of the worked cases of chapters 1, 2, 4, 6 and 7 -/

def testScaling : Scaling :=
  { codeLo := 3277, codeHi := 16384, lo := 0, hi := 10000, underCode := 2000, overCode := 17000 }

def testParams : Params :=
  { tsCode := 4, filterShift := 2, mMin := 1, levelLostDelay := 10, tGap := 5, tD := 60, tRec := 7200, band := 50,
    tankC := 5000, highHigh := 9800, lowLowLevel := 1000, tHold := 600,
    offPeak := { lTarget := 6500, qPlantMax := 12000, stageUpPct := 95, stageDownPct := 80, mMax := 3 },
    peak := { lTarget := 4500, qPlantMax := 9000, stageUpPct := 95, stageDownPct := 80, mMax := 2 },
    qmaxNom := 4800, qmin := 2000, k1 := 4000, k2 := 5000, k3 := 6000, pDisLimit := 7000, m1 := 1500, m2 := 1000,
    m3 := 500, classHold := 600, nUp := 3, nDn := 5, tFill := 60, tPress := 120, tDivert := 300, tQual := 30,
    tUnload := 60, tFlush := 300, minRunMin := 30, minRestMin := 15, pRunMin := 5400, kOk := 4000, ki := 160,
    rQ := 100, rS := 50, sStart := 3000, sMin := 3500, sMax := 9500, pHold := 6800, settleBand := 50,
    settleTime := 30, satTime := 60, lowSuctionLimit := 150, tLs := 5, pTrip := 7200, kTrip := 7000, tQt := 60,
    port :=
      { setupWait := 1, strobeWait := 1, holdWait := 1, timeoutMs := 10, tScan := 32, mask := 0xFF#8,
        identity := some 0x6214#16, scaling := some (Vector.replicate 6 testScaling) } }

/-- A configured part at station 3 in REST. -/
def base : State :=
  { State.reset with
    time := 100000
    ident := { uid := 0x62140003#32, station := 2, rate := 0 }
    loader := { phase := .idle, params := some testParams, signature := 0x1234#16, succeeded := true }
    capability := { State.reset.capability with temp := 1873, qmaxAvail := 4500 }
    demand :=
      { State.reset.demand with
        source := .own, level := 5990, profile := some .offPeak, periodTimer := some { since := 40000, span := 61440 } }
    port :=
      { State.reset.port with
        channels := Vector.replicate 8 { value := 0, invalidSince := none }
        pace := some { since := 99990, span := 32 }, pendValve := none, pendSpeed := none } }

/-- The same part with the train in a state, its valve word and a running phase timer. -/
def train (x : Train) : State :=
  { base with sequencer :=
    { base.sequencer with train := x, valve := valveOf x, phase := some { since := 90000, span := 61440 } } }

/-- The same part RUNNING, as chapter 6 leaves it, with S and SP. -/
def running : State :=
  { train .running with
    sequencer :=
      { (train .running).sequencer with
        phase := none, minRun := some { since := 90000, span := 1843200 }, intPoint := some 99000 }
    staging := { up := 0, down := 0, sp := 3114 }
    trim :=
      { mode := .trimSp, s := 5200, qEff := 3114, last := some 99744, hold := .clear, settle := none, settled := true,
        sat := none } }

def inView (v : View) (s : State) : State := { s with slot := { s.slot with view := v } }

def holder : HeldView :=
  { station := 6, uid := 7, kind := .start, expiry := { since := 99000, span := 618496 }, grace := none, cause := .none }

def claim (k : Kind) (sent : Bool) : PendingView :=
  { intent := k, key := 1057791, cause := .none, sent := sent,
    window := if sent then some { since := 99900, span := 154 } else none }

def timer : Timer := { since := 90000, span := 61440 }

/-- The next state of a command, or the state itself. -/
def after (c : Instr) (s : State) : State :=
  match exec c s with
  | .next t => t
  | .fault _ => s
  | .refused _ => s

/-! ## The worked cases -/

/-- An entry of a peer as the worked period of chapter 1 gives it. -/
def peer (state cls hours qmax tot snap : Nat) (met : Bool) : Entry :=
  { validity := .live, silence := some 99900, snapshot := some snap,
    tally :=
      { TallyBody.zero with
        stateCode := state, health := cls, runHours := hours, qmaxAvail := qmax, totalizer := tot, qmin := 2000,
        settled := true, minRunMet := met, signature := 0x1234#16 } }

/-- Station 3 just before the period end of section 1.7. -/
def beforePeriod : State :=
  { running with
    demand :=
      { running.demand with lPrev := some 6000, d := 7800, primed := true }
    sequencer := { running.sequencer with totalizer := 1204158, runSeconds := 44661600, minRunMet := true }
    port := { running.port with channels := running.port.channels.set 4 { value := 5990, invalidSince := none } }
    roster :=
      { running.roster with
        entries :=
          ((running.roster.entries.set 6 (peer 4 0 11980 4500 889572 889530 true)).set 10
            (peer 2 1 9215 4000 317004 317004 false)).set 2 { Entry.none with snapshot := some 1204117 } } }

/-- Section 1.7: D 7,845 and Q_req 9,120; section 4.7: up 1 and the share 4,500. -/
theorem test_worked_period :
    let t := after (.demandPeriodEnd false) beforePeriod
    (t.demand.d, t.demand.qReq, t.demand.lPrev, t.staging) =
      (7845, 9120, some 5990, { up := 1, down := 0, sp := 4500 }) := by decide +kernel

/-- Section 4.7: the keys of trains A and C. -/
theorem test_worked_keys :
    (startKey (peer 4 0 12406 4500 0 0 true).tally, stopKey (peer 4 0 12406 4500 0 0 true).tally,
      startKey (peer 2 1 9215 4000 0 0 false).tally, stopKey (peer 2 1 9215 4000 0 0 false).tally) =
      (12406, 16764809, 1057791, 14670848) := by decide

/-- Section 2.7: the temperature sample of 18.73 °C, and the factor of a falling table. -/
theorem test_worked_capacity :
    (capacityChain testParams (((Vector.replicate 33 0).set 14 980).set 15 1010) 1873 1 none,
      tcfFactor (((Vector.replicate 33 0).set 14 980).set 15 950) 1873) = ((4256, false), 951) := by decide +kernel

/-- Section 7.9, sample 1: q_eff 3,139 and S 5,204. -/
theorem test_worked_trim_sample :
    let s : State :=
      { running with
        staging := { running.staging with sp := 3400 }
        trim := { running.trim with settled := false }
        port := { running.port with channels := running.port.channels.set 1 { value := 3110, invalidSince := none } } }
    let t := trimSample true s
    (t.trim.qEff, t.trim.s, t.port.pendSpeed) = (3139, 5204, some 5204) := by decide +kernel

/-- Section 10.8: an error keeps the pointer and breaks the pipeline. -/
theorem test_worked_port_error :
    let s : State :=
      { base with port :=
        { base.port with
          state := .inTransaction { kind := .read 4, settings := testParams.port }, pendRead := some 3, pointer := 4 } }
    let t := after .transactionError s
    (t.port.pendRead, t.port.pointer, t.port.errors, t.port.state) = (none, 4, 1, .idle) := by decide +kernel

/-- R108: the valve words of DIVERT, RUNNING and FLUSH. -/
theorem test_valve_words :
    [(valveOf .divert).word, (valveOf .running).word, (valveOf .flush).word, Valve.atRest.word] =
      [0x0B, 0x09, 0x06, 0x02] := by decide

/-- R177: a scan read of channel 5 and a speed of 5,204 hundredths, low byte first; the word of a read. -/
theorem test_port_bytes :
    ((TxnKind.read 5).address, (TxnKind.speed 5204).address :: (TxnKind.speed 5204).written, wordOfBytes 0x14 0x62) =
      (0x85, [0x01, 0x54, 0x14], 0x6214) := by decide +kernel

/-- R188: the valve word's write is under way right after DEVICE_RESET, so that its end is heard. -/
theorem test_reset_writes_the_valve_word :
    let t := after (.deviceReset 2 0) base
    (t.portBytes, (after .writeComplete t).portBytes) = ([0x00, 0x02], [0x01, 0x00, 0x00]) := by decide +kernel

/-- R100, R116: a start whose quality timer is due trips out of RUNNING, with the start's failures at 0. -/
theorem test_overrun_out_of_running :
    let s : State :=
      { inView (.ownHeld .start timer) (train .divert) with
        sequencer := { (train .divert).sequencer with quality := some { since := 0, span := 1 }, failures := 5 } }
    let t := after .ownHoldExpiry s
    (t.sequencer.train, t.sequencer.failures, t.queue.records.map fun r => (r.kind, r.detail)) =
      (.flush, 0, [(.slotExpired, 1), (.stateChange, 64), (.trip, 9), (.stateChange, 85)]) := by decide +kernel

/-- R184: a code is scaled and clamped. -/
theorem test_scale_code :
    (scaleCode testScaling 3277, scaleCode testScaling 2500, scaleCode testScaling 16999, scaleCode testScaling 9830) =
      (0, 0, 10000, 4999) := by decide +kernel

/-- R128: DRIVE_FAULT out of RUNNING flushes, EXTERNAL does not. -/
theorem test_trip_paths :
    ((arrive .driveFault running).sequencer.train, (arrive .external running).sequencer.train) =
      (.flush, .tripped) := by decide +kernel

/-- R192: a part without an image is UNCONFIGURED with two records. -/
theorem test_failed_load :
    let t := after (.configLoadEnd [] false) State.reset
    (t.sequencer.train, t.queue.records.map fun r => (r.kind, r.detail)) =
      (.unconfigured, [(.configFailed, 1), (.stateChange, 0)]) := by decide +kernel

/-! ## A valid image (section 11.7) -/

def withCrc (data : List Byte) : List Byte := data ++ beBytes 2 (crc data).toNat

/-- The bytes of fields given as width and value. -/
def fields (l : List (Nat × Nat)) : List Byte := l.flatMap fun f => beBytes f.1 f.2

def plantBytes : List Byte :=
  fields
    [(1, 4), (1, 2), (1, 1), (1, 10), (1, 5), (2, 60), (4, 7200), (2, 50), (2, 5000), (2, 9800), (2, 1000), (2, 600),
      (2, 6500), (2, 12000), (1, 95), (1, 80), (1, 3), (2, 4500), (2, 9000), (1, 95), (1, 80), (1, 2)]

def scalingBytes : List Byte := fields [(2, 3277), (2, 16384), (2, 0), (2, 10000), (2, 2000), (2, 17000)]

def trainBytes : List Byte :=
  fields
      [(2, 4800), (2, 2000), (2, 4000), (2, 5000), (2, 6000), (2, 7000), (2, 1500), (2, 1000), (2, 500), (2, 600),
        (1, 3), (1, 5), (2, 60), (2, 120), (2, 300), (2, 30), (2, 60), (2, 300), (1, 30), (1, 15), (2, 5400),
        (2, 4000), (1, 160), (2, 100), (2, 50), (2, 3000), (2, 3500), (2, 9500), (2, 6800), (2, 50), (2, 30), (2, 60),
        (2, 150), (1, 5), (2, 7200), (2, 7000), (2, 60), (1, 0x11), (1, 1), (1, 10), (2, 32), (1, 0xFF), (2, 0x6214)] ++
    (List.replicate 6 scalingBytes).flatten

def tcfBytes : List Byte := (List.replicate 33 (beBytes 2 1024)).flatten

def testImage : List Byte :=
  beBytes 2 0x5E14 ++ beBytes 2 271 ++ withCrc plantBytes ++ withCrc trainBytes ++ withCrc tcfBytes ++
    withCrc (fields [(4, 12406), (2, 77), (4, 1204158)])

theorem test_image_length : testImage.length = 271 := by decide +kernel

set_option maxRecDepth 20000 in
/-- The fields of the layout stand where section 11.7 puts them. -/
theorem test_image_is_valid : checkImage testImage = .valid
    { params := testParams, tcf := Vector.replicate 33 1024,
      preload := { runHours := 12406, starts := 77, totalizer := 1204158 }, signature := crc plantBytes } := by
  decide +kernel

theorem test_empty_image_fails_the_mark : checkImage [] = .failed 1 := by decide +kernel

def testLoaded : Image :=
  { params := testParams, tcf := Vector.replicate 33 1024,
    preload := { runHours := 12406, starts := 77, totalizer := 1204158 }, signature := crc plantBytes }

/-! ## Witnesses: the machine -/

theorem witness_StepTakesFrontCommand : { base with pending := [.popEvent, .withhold] }.pending = [.popEvent, .withhold] :=
  rfl

/-- A due settle gap; a part with nothing due; run time at the end of a second and at its very end. -/
theorem witness_EmptyQueueLetsTimePass :
    (let s : State := { base with slot := { base.slot with gap := some { since := 0, span := 1 } } };
      s.pending = [] ∧ s.due = [.settleGapExpiry]) ∧
    (base.pending = [] ∧ base.due = [] ∧ base.sequencer.valve.run = false) ∧
    (let s : State :=
      { running with sequencer := { running.sequencer with runTicks := 1023, runSeconds := maxRunSeconds } };
      s.pending = [] ∧ s.due = [] ∧ s.sequencer.valve.run = true ∧ s.sequencer.runTicks < 1024 ∧
        s.sequencer.runSeconds ≤ maxRunSeconds) := by decide +kernel

theorem witness_CommandsKeepQueueClockAndIdentity :
    exec .settleGapExpiry running = .next (after .settleGapExpiry running) ∧
      ∀ stn rate, Instr.settleGapExpiry ≠ .deviceReset stn rate := ⟨rfl, nofun⟩

theorem witness_OnlyLoadsChangeParameters :
    exec .clearCounters running = .next (after .clearCounters running) ∧
      (∀ stn rate, Instr.clearCounters ≠ .deviceReset stn rate) ∧
      (∀ image tariff, Instr.clearCounters ≠ .configLoadEnd image tariff) ∧
      (∀ image tariff, Instr.clearCounters ≠ .reloadEnd image tariff) ∧ Instr.clearCounters ≠ .reloadConfig :=
  ⟨rfl, nofun, nofun, nofun, nofun⟩

def inConflict (x : Train) : State :=
  { train x with sequencer := { (train x).sequencer with conflict := true, rest := .running timer } }

theorem witness_ConflictLastsUntilReset :
    exec .clearTrips (inConflict .rest) = .next (after .clearTrips (inConflict .rest)) ∧
      (inConflict .rest).sequencer.conflict = true ∧ ∀ stn rate, Instr.clearTrips ≠ .deviceReset stn rate :=
  ⟨rfl, rfl, nofun⟩

/-- A part with a latch set and its count at its end. -/
def latched (c : Cause) (x : Train) : State :=
  { train x with protection :=
    { (train x).protection with latches := (PerCause.all false).put c true, counts := PerCause.all 63 } }

/-- CLEAR TRIPS with the cause present: TRIP-IN still asserted. -/
theorem witness_LatchesAndCountsOutlastEverythingElse :
    let s : State := { latched .external .tripped with pins := { withhold := false, tripIn := true, tariff := false } }
    exec .clearTrips s = .next (after .clearTrips s) ∧ s.protection.latches.get .external = true ∧
      s.present .external = true ∧ s.protection.counts.get .external ≤ 63 ∧
      ∀ stn rate, Instr.clearTrips ≠ .deviceReset stn rate :=
  ⟨rfl, rfl, rfl, by decide, nofun⟩

theorem witness_InputsChangeOnlyByTheirOwnCommands :
    (exec (.withholdLineChange true) base = .next (after (.withholdLineChange true) base) ∧
      (after (.withholdLineChange true) base).pins.withhold ≠ base.pins.withhold) ∧
    (exec (.tripInChange true) base = .next (after (.tripInChange true) base) ∧
      (after (.tripInChange true) base).pins.tripIn ≠ base.pins.tripIn) ∧
    (exec .withhold base = .next (after .withhold base) ∧
      (after .withhold base).lport.withholdCmd ≠ base.lport.withholdCmd) ∧
    (exec (.setIndex (some 9) none) base = .next (after (.setIndex (some 9) none) base) ∧
      (after (.setIndex (some 9) none) base).lport.item ≠ base.lport.item) :=
  ⟨⟨rfl, by decide +kernel⟩, ⟨rfl, by decide +kernel⟩, ⟨rfl, by decide +kernel⟩, ⟨rfl, by decide +kernel⟩⟩

/-! ## Witnesses: the laws, each of a state that it says something about -/

theorem witness_EveryStepKeepsSpeedLaw :
    SpeedLaw { running with pending := [.fillExpiry] } ∧
      step { running with pending := [.fillExpiry] } = .next (after .fillExpiry running) :=
  ⟨{ valve := .inl rfl
     off := fun h => by cases h
     on := fun _ => ⟨testParams, rfl, by decide, by decide⟩
     limits := fun p h => by cases h; decide
     unset := fun h => by cases h
     loading := fun h => by cases h }, rfl⟩

theorem witness_EveryStepKeepsCapacityLaw :
    SpeedLaw { running with pending := [.settleGapExpiry] } ∧ CapacityLaw { running with pending := [.settleGapExpiry] } ∧
      step { running with pending := [.settleGapExpiry] } = .next (after .settleGapExpiry running) :=
  ⟨{ valve := .inl rfl
     off := fun h => by cases h
     on := fun _ => ⟨testParams, rfl, by decide, by decide⟩
     limits := fun p h => by cases h; decide
     unset := fun h => by cases h
     loading := fun h => by cases h },
   { set := fun p h => by cases h; exact ⟨by decide, by decide, by decide, fun h => nomatch h⟩
     unset := fun h => by cases h
     running := fun _ => ⟨testParams, rfl, by decide, by decide⟩
     stopped := fun h => absurd rfl h }, rfl⟩

/-- Q_req at the end of its range. -/
theorem witness_EveryStepKeepsDemandLaw :
    let s : State := { base with demand := { base.demand with qReq := 12000 }, pending := [.popEvent] }
    DemandLaw s ∧ step s = .next (after .popEvent { s with pending := [] }) :=
  ⟨{ active := fun f h => by cases h; decide
     none := fun h => by cases h
     loading := fun h => by cases h }, rfl⟩

theorem witness_EveryStepKeepsLatchLaw :
    LatchLaw { latched .quality .flush with pending := [.flushExpiry] } ∧
      (latched .quality .flush).protection.latches.any = true ∧
      step { latched .quality .flush with pending := [.flushExpiry] } = .next (after .flushExpiry (latched .quality .flush)) :=
  ⟨fun _ => .inr (.inl rfl), rfl, rfl⟩

/-- A start in DIVERT whose hold runs out, and a staged stop in UNLOAD. -/
theorem witness_EveryStepKeepsSlotLaw :
    (let s : State := { inView (.ownHeld .start timer) (train .divert) with pending := [.ownHoldExpiry] };
      LatchLaw s ∧ SlotLaw s ∧ step s = .next (after .ownHoldExpiry { s with pending := [] })) ∧
    (let s : State :=
      { inView (.ownHeld .stop timer) (train .unload) with
        sequencer := { (train .unload).sequencer with staged := true }, pending := [.unloadTimeout] };
      LatchLaw s ∧ SlotLaw s ∧ step s = .next (after .unloadTimeout { s with pending := [] })) :=
  ⟨⟨fun h => (nomatch h),
    { pending := fun q h => by cases h
      held := fun k t h => by cases h; rfl
      starting := fun _ => ⟨timer, rfl⟩
      stopping := fun h => by cases h
      loading := fun h => by cases h }, rfl⟩,
   fun h => (nomatch h),
    { pending := fun q h => by cases h
      held := fun k t h => by cases h; exact ⟨rfl, rfl⟩
      starting := fun h => by cases h
      stopping := fun _ _ => ⟨timer, rfl⟩
      loading := fun h => by cases h }, rfl⟩

theorem witness_EveryStepKeepsConflictLaw :
    let s : State := { inConflict .flush with pending := [.flushExpiry] }
    ConflictLaw s ∧ s.sequencer.conflict = true ∧ step s = .next (after .flushExpiry (inConflict .flush)) :=
  ⟨fun _ => ⟨rfl, rfl, rfl, rfl, rfl⟩, rfl, rfl⟩

/-- One LIVE peer and one that does not match. -/
def peers : State :=
  { base with roster :=
    { base.roster with
      entries :=
        (base.roster.entries.set 6 (peer 4 0 11980 4500 889572 889530 true)).set 10
          { peer 2 1 9215 4000 317004 0 false with
            validity := .excluded, snapshot := none
            tally := { (peer 2 1 9215 4000 317004 0 false).tally with signature := 7 } } } }

theorem witness_EveryStepKeepsRosterLaw :
    RosterLaw { peers with pending := [.peerStale 6] } ∧
      step { peers with pending := [.peerStale 6] } = .next (after (.peerStale 6) peers) :=
  ⟨{ live := by decide +kernel
     excluded := by decide +kernel
     empty := by decide +kernel
     own := by decide +kernel
     loading := fun h => by cases h }, rfl⟩

/-- A lost port that waits for its retry. -/
def lost (retry : Option Txn) : State :=
  { base with port :=
    { base.port with
      state := .lost retry, errors := 255, retryTimer := if retry.isSome then none else some timer
      channels := Vector.replicate 8 { value := 17, invalidSince := some 5 } } }

theorem witness_EveryStepKeepsPortLaw :
    PortLaw { lost none with pending := [.retryTimerExpiry] } ∧
      step { lost none with pending := [.retryTimerExpiry] } = .next (after .retryTimerExpiry (lost none)) :=
  ⟨{ channels := by decide +kernel
     retry := by decide +kernel
     errors := by decide +kernel }, rfl⟩

def oldRecord : Record := { seq := 255, time := 5, loss := false, kind := .trip, station := 3, detail := 1 }

theorem witness_EveryStepKeepsQueueLaw :
    let s : State :=
      { base with
        queue := { records := [oldRecord], seq := 0, pendingLoss := false }
        lport := { base.lport with pop := some (.copy oldRecord true) }, pending := [.popEventEnd] }
    QueueLaw s ∧ step s = .next (after .popEventEnd { s with pending := [] }) :=
  ⟨{ length := by decide
     numbered := fun i h => by
       have : i = 0 := by simpa using h
       subst this
       rfl
     newest := fun r h => by cases h; rfl
     copy := fun r h => by cases h; rfl }, rfl⟩

/-- Counters at the ends of their ranges. -/
theorem witness_EveryStepKeepsCounterLaw :
    let s : State :=
      { latched .quality .tripped with
        staging := { up := 255, down := 255, sp := 0 }
        line := { base.line with rxErr := 255, txLoss := 255, damage := 255 }, pending := [.transactionError] }
    CounterLaw s ∧ step s = .next (after .transactionError { s with pending := [] }) :=
  ⟨{ stages := by decide
     failures := by decide
     starts := by decide
     runTime := by decide
     totalizer := by decide
     counts := fun c => by cases c <;> decide
     line := by decide
     errors := by decide }, rfl⟩

/-! ## Witnesses: load and reload -/

/-- With nothing holding, with a withhold cause, and with each condition of a cause. -/
theorem witness_LoadInstallsImageAndStartsBlocks :
    checkImage testImage = .valid testLoaded ∧
    (∀ s ∈ [State.reset, { State.reset with pins := { State.reset.pins with withhold := true } },
        { State.reset with pins := { State.reset.pins with tripIn := true } },
        { State.reset with port := { State.reset.port with state := .lost none } },
        { State.reset with
          port :=
            { State.reset.port with
              channels :=
                (State.reset.port.channels.set 5 { value := 7200, invalidSince := none }).set 6
                  { value := 2, invalidSince := none } } }],
      s.loader.phase = .loading ∧ s.sequencer.train = .rest ∧ s.sequencer.conflict = false ∧
        s.sequencer.valve = valveOf .rest ∧ s.protection.latches.any = false ∧ s.roster.minority = false ∧
        (∀ j : Station, s.roster.entries[j].validity = .empty)) ∧
    (State.reset.pins.tripIn = false ∧ State.reset.withheld = false ∧ State.reset.driveFault = false ∧
      State.reset.port.state.isLost = false ∧ ¬testLoaded.params.pTrip ≤ State.reset.chan 5) :=
  ⟨test_image_is_valid, by decide +kernel, by decide +kernel⟩

theorem witness_FailedLoadLeavesPartUnconfigured :
    State.reset.loader.phase = .loading ∧ checkImage [] = .failed 1 ∧ State.reset.sequencer.train = .rest ∧
      State.reset.sequencer.conflict = false ∧ State.reset.sequencer.valve = valveOf .rest ∧
      State.reset.pins.tripIn = false ∧ State.reset.port.state.isLost = false :=
  ⟨rfl, test_empty_image_fails_the_mark, rfl, rfl, rfl, rfl, rfl⟩

def reloading (s : State) : State := { s with loader := { s.loader with phase := .reloading } }

def unconfigured (x : Train) : State :=
  { train x with
    loader := { phase := .reloading, params := none, signature := 0, succeeded := false }
    sequencer := { (train x).sequencer with rest := .stopped, phase := none } }

/-- A train that has started meanwhile, the conflict mark, and a failed image in an unconfigured part. -/
theorem witness_ReloadDroppedKeepsParameters :
    ((reloading (train .fill)).loader.phase = .reloading ∧ (reloading (train .fill)).sequencer.train.mayReload = false) ∧
    ((reloading (inConflict .rest)).loader.phase = .reloading ∧ (reloading (inConflict .rest)).sequencer.conflict = true) ∧
    ((unconfigured .unconfigured).loader.phase = .reloading ∧ checkImage [] = .failed 1 ∧
      (unconfigured .unconfigured).configured = false ∧ (unconfigured .unconfigured).sequencer.train.mayReload = true ∧
      (unconfigured .unconfigured).sequencer.conflict = false) :=
  ⟨⟨rfl, rfl⟩, ⟨rfl, rfl⟩, rfl, test_empty_image_fails_the_mark, rfl, rfl, rfl⟩

theorem witness_FailedReloadEntersUnconfigured :
    (reloading (train .ready)).loader.phase = .reloading ∧ (reloading (train .ready)).sequencer.train.mayReload = true ∧
      (reloading (train .ready)).sequencer.conflict = false ∧ (reloading (train .ready)).configured = true ∧
      checkImage [] = .failed 1 := ⟨rfl, rfl, rfl, rfl, test_empty_image_fails_the_mark⟩

theorem witness_ReloadReplacesParametersInPlace :
    (reloading (train .tripped)).loader.phase = .reloading ∧
      (reloading (train .tripped)).sequencer.train.mayReload = true ∧
      (reloading (train .tripped)).sequencer.conflict = false ∧ (reloading (train .tripped)).configured = true ∧
      checkImage testImage = .valid testLoaded := ⟨rfl, rfl, rfl, rfl, test_image_is_valid⟩

/-- With a latch set, withheld, and neither. -/
theorem witness_ReloadLeavesUnconfigured :
    checkImage testImage = .valid testLoaded ∧
    ∀ s ∈ [unconfigured .unconfigured,
        { unconfigured .unconfigured with lport := { base.lport with withholdCmd := true } },
        { unconfigured .unconfigured with protection := (latched .quality .tripped).protection }],
      s.loader.phase = .reloading ∧ s.sequencer.train = .unconfigured ∧ s.sequencer.conflict = false ∧
        s.configured = false ∧ s.pins.tripIn = false ∧ s.driveFault = false ∧ s.port.state.isLost = false ∧
        s.chan 5 < testLoaded.params.pTrip :=
  ⟨test_image_is_valid, by decide +kernel⟩

/-! ## Witnesses: the local port and the event queue -/

/-- Every item, the roster item with its first and last station, and the nearest refused indices. -/
theorem witness_ReadItemAnswersWholeItem :
    (∀ i ∈ [(0, 1), (1, 1), (2, 1), (3, 1), (4, 1), (5, 1), (6, 1), (7, 1), (8, 1), (10, 0), (9, 1), (9, 16)],
      let s : State := { base with lport := { base.lport with item := BitVec.ofNat 8 i.1, second := BitVec.ofNat 8 i.2 } }
      s.lport.item.toNat = i.1 ∧ s.lport.item.toNat ≤ 10 ∧
        (s.lport.item.toNat = 9 → 1 ≤ s.lport.second.toNat ∧ s.lport.second.toNat ≤ 16)) ∧
    (∀ i ∈ [(11, 1), (255, 1), (9, 0), (9, 17)],
      let s : State := { base with lport := { base.lport with item := BitVec.ofNat 8 i.1, second := BitVec.ofNat 8 i.2 } }
      10 < s.lport.item.toNat ∨
        s.lport.item.toNat = 9 ∧ (s.lport.second.toNat = 0 ∨ 16 < s.lport.second.toNat)) := by decide

def holding (n : Nat) : State :=
  { base with queue := { records := List.replicate n oldRecord, seq := 0, pendingLoss := false } }

theorem witness_PopTransferRemovesItsRecordAtItsEnd :
    (holding 2).queue.records = oldRecord :: [oldRecord] ∧ (holding 0).queue.records = [] ∧
    (let s : State := { holding 32 with lport := { base.lport with pop := some (.copy oldRecord true) } };
      s.lport.pop = some (.copy oldRecord true) ∧ 32 ≤ s.queue.records.length) := by decide

theorem witness_RecordIntoFullQueueCarriesLossFlag :
    (holding 32).queue.records.length ≤ 32 ∧ (holding 32).queue.records.length = 32 ∧
      (holding 31).queue.records.length < 32 ∧
      (let s : State := { holding 32 with lport := { base.lport with item := 10 } };
        (raise .trip 3 1 s).lport.item = 10) := by decide

/-- Where the Arbiter takes requests. -/
def joined (s : State) : State := { s with slot := { s.slot with joinPassed := true } }

/-- The condition rises in REST, READY and RUNNING, in READY with a claim pending, in each start with the slot held, and
in RUNNING where a STOP bid is taken and where it is not; it falls in WITHHELD with the rest timer running and expired; it
stays. -/
theorem witness_WithholdCausesMoveTheWaitingTrain :
    (∀ x ∈ [Train.rest, Train.ready, Train.running],
      (train x).loadEnded = true ∧ (train x).sequencer.conflict = false ∧ (train x).withheld = false ∧
        (after .withhold (train x)).withheld = true ∧ (after (.withholdLineChange true) (train x)).withheld = true) ∧
    (∀ sent ∈ [true, false],
      let s := inView (.ownPending (claim .start sent)) (train .ready)
      s.loadEnded = true ∧ s.sequencer.conflict = false ∧ s.withheld = false ∧ (after .withhold s).withheld = true ∧
        s.sequencer.train = .ready ∧ s.slot.view = .ownPending (claim .start sent)) ∧
    (∀ x ∈ [Train.fill, Train.pressurize, Train.divert],
      let s := inView (.ownHeld .start timer) (train x)
      s.loadEnded = true ∧ s.sequencer.conflict = false ∧ s.withheld = false ∧ (after .withhold s).withheld = true ∧
        s.sequencer.train.isStarting = true ∧ s.loader.params = some testParams ∧
        s.sequencer.valve = valveOf s.sequencer.train ∧ s.slot.view = .ownHeld .start timer) ∧
    (∀ passed ∈ [true, false],
      let s : State := { running with slot := { running.slot with joinPassed := passed } }
      s.loadEnded = true ∧ s.sequencer.conflict = false ∧ s.sequencer.train = .running ∧ s.lport.withholdCmd = false ∧
        s.pins.withhold = false ∧ s.slot.view = .free ∧ s.slot.gap = none ∧ s.slot.joinPassed = passed) ∧
    (∀ r ∈ [RestTimer.running timer, RestTimer.expired],
      let s : State :=
        { train .withheld with
          sequencer := { (train .withheld).sequencer with rest := r }
          lport := { base.lport with withholdCmd := true } }
      s.loadEnded = true ∧ s.sequencer.conflict = false ∧ s.withheld = true ∧ s.sequencer.train = .withheld ∧
        (after .returnCmd s).withheld = false) ∧
    (let s : State := { train .withheld with pins := { withhold := true, tripIn := false, tariff := false } };
      s.loadEnded = true ∧ s.sequencer.conflict = false ∧ s.withheld = true ∧
        (after .withhold s).withheld = true ∧ (after .returnCmd s).withheld = true) := by decide +kernel

/-- One latch whose cause is absent in a TRIPPED train, one whose cause is present, and one of a part without a parameter
set; then what an operation byte that no command has is. -/
theorem witness_ClearTripsClearsAbsentCauses :
    (latched .quality .tripped).loader.params = some testParams ∧
    (after .clearTrips (latched .quality .tripped)).protection.latches.any = false ∧
    (latched .quality .tripped).sequencer.train = .tripped ∧
    (let s : State := { latched .external .tripped with pins := { withhold := false, tripIn := true, tariff := false } };
      s.loader.params = some testParams ∧ (after .clearTrips s).protection.latches.any = true) ∧
    (let s : State :=
      { latched .lowSuction .unconfigured with loader := { base.loader with params := none, signature := 0 } };
      s.loader.params = none ∧ (after .clearTrips s).protection.latches.any = false ∧ s.sequencer.train ≠ .tripped) := by
  decide +kernel

theorem witness_ClearCountersAndUnknownCommand :
    ∀ op ∈ [(0x00 : Byte), 0x04, 0x0F, 0x15, 0xFF],
      op ∉ ([0x01, 0x02, 0x03, 0x10, 0x11, 0x12, 0x13, 0x14] : List Byte) := by decide

/-- Each state that waits, the refusal in RUNNING, under the conflict mark and while RELOADING. -/
theorem witness_ReloadConfigTakenOnlyAtRest :
    (∀ x ∈ [Train.rest, Train.ready, Train.withheld, Train.tripped, Train.unconfigured],
      (train x).loader.phase = .idle ∧ (x = .rest ∨ x = .ready ∨ x = .withheld ∨ x = .tripped ∨ x = .unconfigured) ∧
        (train x).sequencer.train = x ∧ (train x).sequencer.conflict = false) ∧
    (∀ s ∈ [running, inConflict .rest, reloading (train .rest), State.reset],
      ¬(s.loader.phase = .idle ∧
        (s.sequencer.train = .rest ∨ s.sequencer.train = .ready ∨ s.sequencer.train = .withheld ∨
          s.sequencer.train = .tripped ∨ s.sequencer.train = .unconfigured) ∧
        s.sequencer.conflict = false)) := by decide +kernel

/-! ## Witnesses: trips -/

/-- A part in which every one of the seven commands makes its cause arrive. -/
def armed (x : Train) : State :=
  { train x with protection :=
    { (train x).protection with lowSuction := some timer, qualityTrip := some timer, instrument := some timer } }

def arrivals : List (Instr × Cause × Train) :=
  [(.lowSuctionExpiry, .lowSuction, .running), (.qualityTripExpiry, .quality, .running),
    (.instrumentExpiry, .instrument, .divert), (.pressurizeTimeout, .startFail, .pressurize),
    (.divertTimeout, .startFail, .divert), (.unloadTimeout, .driveFault, .unload), (.tripInChange true, .external, .rest)]

theorem witness_ArrivingCauseLatchesAndTripsTheTrain :
    ∀ a ∈ arrivals, (armed a.2.2).arrivalOf a.1 = some a.2.1 ∧ (armed a.2.2).protection.latches.get a.2.1 = false := by
  decide +kernel

/-- The same commands with their latches set and the count at its end. -/
theorem witness_LatchedCauseOnlyCounts :
    ∀ a ∈ arrivals,
      let s : State :=
        { armed a.2.2 with protection :=
          { (armed a.2.2).protection with
            latches := (PerCause.all false).put a.2.1 true, counts := PerCause.all 63 } }
      s.arrivalOf a.1 = some a.2.1 ∧ s.protection.latches.get a.2.1 = true := by decide +kernel

theorem witness_TripInReleaseOnlyFollowsTheLine :
    State.reset.loadEnded = false ∧
      (let s : State := { base with protection := { base.protection with extFlag := true } };
        s.loadEnded = true ∧ s.protection.extFlag = true) := by decide

/-! ## Witnesses: frames -/

def tallyFrame : TallyBody :=
  { TallyBody.zero with uid := 7, stateCode := 4, level := 10000, signature := 0x1234#16, holdsSlot := true, slotKind := 2,
                        slotRemaining := 65535 }

def rxOf (f : TxFrame) (x : Station) : List RxChar := (f.chars x).map cleanChar

/-- What the receiver makes of an own frame. -/
def taken (f : TxFrame) (x : Station) : RxFrame := { cls := f.cls, key := f.key, station := x, body := f.body }

theorem rx_tally : receive (rxOf (.tally tallyFrame) 6) = .accepted (taken (.tally tallyFrame) 6) := by decide +kernel

def badTally : TallyBody := { tallyFrame with stateCode := 8 }

theorem rx_badTally : receive (rxOf (.tally badTally) 6) = .accepted (taken (.tally badTally) 6) := by decide +kernel

def strangeTally : TallyBody := { tallyFrame with signature := 9, holdsSlot := false, slotKind := 0 }

theorem rx_strangeTally : receive (rxOf (.tally strangeTally) 6) = .accepted (taken (.tally strangeTally) 6) := by
  decide +kernel

theorem rx_lowerTally : receive (rxOf (.tally tallyFrame) 0) = .accepted (taken (.tally tallyFrame) 0) := by
  decide +kernel

/-- A frame out of range; one that matches and one that does not; the entry EMPTY, LIVE, STALE and of another unit; a
minority that arises; each view, the sender the holder, of a lower and of a higher number; a report of no holding with and
without the claim grace. -/
theorem witness_TallyIsTakenIntoItsEntry :
    (receive (rxOf (.tally badTally) 6) = .accepted (taken (.tally badTally) 6) ∧
      (tallyOf (taken (.tally badTally) 6).body).inRange = false) ∧
    (receive (rxOf (.tally tallyFrame) 6) = .accepted (taken (.tally tallyFrame) 6) ∧
      (taken (.tally tallyFrame) 6).cls = 8 ∧ base.loadEnded = true ∧
      (taken (.tally tallyFrame) 6).station ≠ base.ident.station ∧
      tallyOf (taken (.tally tallyFrame) 6).body = tallyFrame ∧ tallyFrame.inRange = true ∧
      tallyFrame.signature = base.loader.signature ∧ base.roster.entries[(6 : Station)].validity = .empty ∧
      kindOf tallyFrame.slotKind = some .stop) ∧
    (receive (rxOf (.tally strangeTally) 6) = .accepted (taken (.tally strangeTally) 6) ∧
      tallyOf (taken (.tally strangeTally) 6).body = strangeTally ∧ strangeTally.inRange = true ∧
      ¬(strangeTally.signature = base.loader.signature ∨ strangeTally.stateCode = 0) ∧
      (inView (.held holder) base).slot.view = .held holder ∧ holder.station = 6 ∧ holder.grace = none ∧
      strangeTally.holdsSlot = false ∧ peers.configured = true ∧ peers.roster.minority = false ∧
      (after (.tallyReceived (rxOf (.tally strangeTally) 6)) peers).roster.minority = true) ∧
    (∀ v ∈ [Validity.live, Validity.stale],
      let s : State :=
        { base with roster :=
          { base.roster with
            entries := base.roster.entries.set 6
              { validity := v, tally := { tallyFrame with level := 0 }, silence := some 5, snapshot := some 9 } } }
      s.roster.entries[(6 : Station)].validity = v ∧ s.roster.entries[(6 : Station)].tally.uid = tallyFrame.uid) ∧
    (peers.roster.entries[(6 : Station)].validity ≠ .empty ∧
      peers.roster.entries[(6 : Station)].tally.uid ≠ tallyFrame.uid) ∧
    (receive (rxOf (.tally tallyFrame) 0) = .accepted (taken (.tally tallyFrame) 0) ∧
      tallyFrame.holdsSlot = true ∧
      ∀ s ∈ [inView .free base, inView (.held holder) base, inView (.held { holder with station := 0, grace := some timer }) base,
          inView (.held { holder with station := 15 }) base, inView (.ownPending (claim .start true)) (train .ready),
          inView (.ownHeld .start timer) (train .fill)],
        s.loadEnded = true ∧ s.sequencer.conflict = false ∧ (0 : Station) < s.ident.station ∧ s.ident.station < 6 ∧
          ∀ x ∈ [(0 : Station), 6],
            (after (.tallyReceived (rxOf (.tally tallyFrame) x)) s).roster.minority = s.roster.minority) :=
  ⟨⟨rx_badTally, by decide +kernel⟩, ⟨rx_tally, by decide +kernel⟩, ⟨rx_strangeTally, by decide +kernel⟩,
    by decide +kernel, by decide +kernel, rx_lowerTally, by decide +kernel⟩

def bidFrame : BidBody := { uid := 7, intent := .start, key := 16777215, cause := .none }

theorem rx_bid : receive (rxOf (.bid bidFrame) 6) = .accepted (taken (.bid bidFrame) 6) := by decide +kernel

def views : List View :=
  [.free, .held holder, .ownPending (claim .start false), .ownPending (claim .start true), .ownHeld .stop timer]

theorem witness_BidActsByTheView :
    receive (rxOf (.bid bidFrame) 6) = .accepted (taken (.bid bidFrame) 6) ∧ (taken (.bid bidFrame) 6).cls = 4 ∧
      bidOf (taken (.bid bidFrame) 6) = some bidFrame ∧
      ∀ v ∈ views, (inView v base).slot.view = v ∧ (inView v base).loadEnded = true ∧
        (taken (.bid bidFrame) 6).station ≠ (inView v base).ident.station ∧ (inView v base).sequencer.conflict = false :=
  ⟨rx_bid, by decide +kernel⟩

def occupiedFrame (x : Nat) : OccupiedBody := { uid := 7, station := x, kind := .start, remaining := 65535 }

theorem rx_occupied :
    receive (rxOf (.occupied (occupiedFrame 7)) 6) = .accepted (taken (.occupied (occupiedFrame 7)) 6) := by decide +kernel

theorem rx_occupied_lower :
    receive (rxOf (.occupied (occupiedFrame 1)) 0) = .accepted (taken (.occupied (occupiedFrame 1)) 0) := by
  decide +kernel

/-- Each view, for a report of the holder and of another station, and two holders either way round, in each start and in
UNLOAD. -/
theorem witness_OccupiedActsByTheView :
    (receive (rxOf (.occupied (occupiedFrame 7)) 6) = .accepted (taken (.occupied (occupiedFrame 7)) 6) ∧
      occupiedOf (taken (.occupied (occupiedFrame 7)) 6) = some (occupiedFrame 7) ∧
      ∀ v ∈ views, (inView v base).slot.view = v ∧ (inView v base).loadEnded = true ∧
        (inView v base).ident.station < 6 ∧ (inView v base).sequencer.conflict = false) ∧
    (receive (rxOf (.occupied (occupiedFrame 1)) 0) = .accepted (taken (.occupied (occupiedFrame 1)) 0) ∧
      occupiedOf (taken (.occupied (occupiedFrame 1)) 0) = some (occupiedFrame 1) ∧
      holder.station ≠ (taken (.occupied (occupiedFrame 1)) 0).station ∧
      (∀ x ∈ [Train.fill, Train.pressurize, Train.divert, Train.unload],
        let s := inView (.ownHeld .stop timer) (train x)
        s.slot.view = .ownHeld .stop timer ∧ s.loadEnded = true ∧ (0 : Station) < s.ident.station ∧
          s.sequencer.conflict = false ∧ (s.sequencer.train.isStarting = true ∨ s.sequencer.train = .unload) ∧
          s.loader.params = some testParams ∧ s.sequencer.valve = valveOf s.sequencer.train)) :=
  ⟨⟨rx_occupied, by decide +kernel⟩, rx_occupied_lower, by decide +kernel⟩

def yieldFrame (u : UnitId) : YieldBody := { uid := u, outcome := .overrun, kind := .stop }

theorem rx_yield (u : UnitId) (h : u = 7 ∨ u = 8) :
    receive (rxOf (.yield (yieldFrame u)) 6) = .accepted (taken (.yield (yieldFrame u)) 6) := by
  rcases h with h | h <;> subst h <;> decide +kernel

/-- The holder's YIELD, and that of another unit under its station number. -/
theorem witness_YieldFreesTheViewOfItsHolder :
    (receive (rxOf (.yield (yieldFrame 7)) 6) = .accepted (taken (.yield (yieldFrame 7)) 6) ∧
      yieldOf (taken (.yield (yieldFrame 7)) 6) = some (yieldFrame 7) ∧ (taken (.yield (yieldFrame 7)) 6).cls = 2 ∧
      base.loadEnded = true ∧ (6 : Station) ≠ base.ident.station ∧ holder.station = 6 ∧ holder.uid = 7) ∧
    (receive (rxOf (.yield (yieldFrame 8)) 6) = .accepted (taken (.yield (yieldFrame 8)) 6) ∧
      yieldOf (taken (.yield (yieldFrame 8)) 6) = some (yieldFrame 8) ∧
      ¬(holder.station = 6 ∧ holder.uid = (yieldFrame 8).uid)) :=
  ⟨⟨rx_yield 7 (.inl rfl), by decide +kernel⟩, rx_yield 8 (.inr rfl), by decide +kernel⟩

def glitch : RxChar := { startDominant := false, data := 0, stopRecessive := true }

theorem witness_DiscardedFrameIsCounted :
    receive [cleanChar 1, cleanChar 2] = .discarded ∧ receive [glitch] = .nothing ∧ base.line.tx = .quiet := by decide

theorem rx_duplicate : receive (rxOf (.tally tallyFrame) 2) = .accepted (taken (.tally tallyFrame) 2) := by decide +kernel

/-- In every train state, with the mark clear and set. -/
theorem witness_DuplicateStationEntersConflict :
    receive (rxOf (.tally tallyFrame) 2) = .accepted (taken (.tally tallyFrame) 2) ∧
      ∀ x ∈ [Train.rest, Train.tripped, Train.fill, Train.running], ∀ s ∈ [train x, inConflict x],
        s.sequencer.train = x ∧ s.loadEnded = true ∧ (taken (.tally tallyFrame) 2).station = s.ident.station ∧
          (taken (.tally tallyFrame) 2).uid ≠ s.ident.uid :=
  ⟨rx_duplicate, by decide +kernel⟩

def ownBid : BidBody := { uid := 0x62140003#32, intent := .start, key := 1057791, cause := .none }

def echoing (f : TxFrame) : State :=
  { inView (.ownPending (claim .start false)) (train .ready) with line := { base.line with tx := .echo f } }

theorem rx_ownBid : receive (rxOf (.bid ownBid) 2) = .accepted (taken (.bid ownBid) 2) := by decide +kernel

def ownOccupied : OccupiedBody := { uid := 0x62140003#32, station := 3, kind := .start, remaining := 600 }

def ownYield : YieldBody := { uid := 0x62140003#32, outcome := .completed, kind := .stop }

/-- The own BID heard back with the claim pending and withdrawn; the echo of each kind of frame that fails, with the claim
pending, the view FREE and under the conflict mark; a frame of another part heard in ECHO, before and after the end of the
load. -/
theorem witness_EchoJudgesTheOwnFrame :
    ((echoing (.bid ownBid)).line.tx = .echo (.bid ownBid) ∧
      receive (rxOf (.bid ownBid) 2) = .accepted (taken (.bid ownBid) 2) ∧
      (taken (.bid ownBid) 2).station = (echoing (.bid ownBid)).ident.station ∧
      (taken (.bid ownBid) 2).uid = (echoing (.bid ownBid)).ident.uid ∧
      (echoing (.bid ownBid)).slot.view = .ownPending (claim .start false)) ∧
    ((inView .free (echoing (.bid ownBid))).slot.view = .free) ∧
    (receive [cleanChar 1, cleanChar 2] = .discarded ∧
      ∀ f ∈ [TxFrame.bid ownBid, .occupied ownOccupied, .yield ownYield, .tally tallyFrame],
        ∀ s ∈ [echoing f, inView .free (echoing f),
            { echoing f with sequencer := { (echoing f).sequencer with conflict := true } }],
          s.line.tx = .echo f) ∧
    (receive (rxOf (.tally tallyFrame) 6) = .accepted (taken (.tally tallyFrame) 6) ∧
      ∀ s ∈ [echoing (.bid ownBid),
          { echoing (.bid ownBid) with loader := { base.loader with phase := .loading, params := none } }],
        s.line.tx = .echo (.bid ownBid) ∧
          ¬((taken (.tally tallyFrame) 6).station = s.ident.station ∧ (taken (.tally tallyFrame) 6).uid = s.ident.uid)) :=
  ⟨⟨rfl, rx_ownBid, by decide +kernel⟩, rfl, by decide +kernel, rx_tally, by decide +kernel⟩

def waiting (set : PendingSet) : State := { base with line := { base.line with set := set, tx := .wait } }

def onLine (r : Receiver) (d : Option Nat) (set : PendingSet) : State :=
  { waiting set with line := { (waiting set).line with rx := r, deferral := d } }

def fullSet : PendingSet :=
  { tally := some tallyFrame, bid := some ownBid, occupied := some ownOccupied, yield := some ownYield }

/-- Each kind of frame the lowest of the set, on a line that has just been recessive for 11 bit times at 19,200 bit/s,
without a deferral, and for 75 with the longest; one nanosecond less; a reception open; and, of the same span, each way
the receiver can see it. -/
theorem witness_TransmitBeginTakesLowestClass :
    (∀ set ∈ [fullSet, { fullSet with occupied := none }, { fullSet with occupied := none, yield := none },
        { fullSet with occupied := none, yield := none, bid := none }],
      ∀ c ∈ [(Receiver.unsettled, none, 572917), (.idle, none, 572917), (.idle, some 64, 3906250)],
        let s := onLine c.1 c.2.1 set
        s.line.tx = .wait ∧ s.ident.rate = 0 ∧ s.line.set.isEmpty = false ∧ s.line.rx ≠ .receiving ∧
          (11 + c.2.1.getD 0) * 1000000000 ≤ c.2.2 * 19200) ∧
    (∀ c ∈ [(Receiver.unsettled, none, 572916), (.idle, none, 572916), (.idle, some 64, 3906249)],
      let s := onLine c.1 c.2.1 fullSet
      s.line.tx = .wait ∧ s.ident.rate = 0 ∧ s.line.set.isEmpty = false ∧
        ¬(11 + c.2.1.getD 0) * 1000000000 ≤ c.2.2 * 19200) ∧
    (onLine .receiving none fullSet).line.rx = .receiving := by decide +kernel

/-- R167: the falling edge of another station in WAIT ends the idle and leaves the part waiting; after the frame's own idle
the deferral counts afresh. -/
theorem test_foreign_edge_leaves_the_part_waiting :
    let s := after (.transmitBegin 100000) (onLine .idle (some 3) fullSet)
    let t := after (.frameDiscarded [cleanChar 1]) s
    (s.line.rx, s.line.tx, t.line.rx, t.line.deferral, (after (.transmitBegin 600000) t).line.tx,
      (after (.transmitBegin 729167) t).line.tx) =
      (.receiving, .wait, .idle, some 3, .wait, .contend (.occupied ownOccupied)) := by decide +kernel

theorem witness_SendingEndsMoveTheTransmitter :
    ({ base with line := { base.line with tx := .contend (.bid ownBid), txLoss := 255 } } : State).line.tx =
        .contend (.bid ownBid) ∧
      ({ base with line := { base.line with tx := .send (.bid ownBid) } } : State).line.tx = .send (.bid ownBid) := by
  decide

theorem witness_TallyTimerQueuesTheOwnEntry :
    let s : State := { base with line := { base.line with tally := some timer } }
    s.line.tally.isSome = true ∧ s.sequencer.conflict = false := by decide

/-- Fields at the ends of their widths. -/
theorem witness_SentFramesAreReceivedAsTheyAre :
    bidFrame.key < 2 ^ 24 ∧ ((occupiedFrame 16).station = (15 : Station).val + 1 ∧ (occupiedFrame 16).remaining < 2 ^ 16) ∧
    (let b : TallyBody :=
      { TallyBody.zero with
        stateCode := 255, phaseCode := 255, health := 255, failures := 255, flow := 65535, qmin := 65535,
        qmaxAvail := 65535, totalizer := 4294967295, runHours := 4294967295, starts := 65535, level := 65535,
        slotKind := 255, slotRemaining := 65535 };
      b.stateCode < 2 ^ 8 ∧ b.phaseCode < 2 ^ 8 ∧ b.health < 2 ^ 8 ∧ b.failures < 2 ^ 8 ∧ b.flow < 2 ^ 16 ∧
        b.qmin < 2 ^ 16 ∧ b.qmaxAvail < 2 ^ 16 ∧ b.totalizer < 2 ^ 32 ∧ b.runHours < 2 ^ 32 ∧ b.starts < 2 ^ 16 ∧
        b.level < 2 ^ 16 ∧ b.slotKind < 2 ^ 8 ∧ b.slotRemaining < 2 ^ 16) := by decide

/-! ## Witnesses: demand, staging, level, peers, capacity -/

/-- The three paths; a profile that changes; a level at the high-high, inside its band and at the low-low; an overflow that
the period sets, in RUNNING with a STOP claim pending and in each start with the slot held. -/
theorem witness_DemandPeriodComputesDemand :
    (beforePeriod.loader.params = some testParams ∧ beforePeriod.demand.periodTimer.isSome = true ∧
      beforePeriod.demand.source ≠ .lost ∧ beforePeriod.demand.lPrev = some 6000) ∧
    (base.loader.params = some testParams ∧ base.demand.periodTimer.isSome = true ∧ base.demand.source ≠ .lost ∧
      base.demand.lPrev = none ∧ base.demand.profile ≠ some .peak) ∧
    (let s : State := { base with demand := { base.demand with source := .lost } };
      s.loader.params = some testParams ∧ s.demand.periodTimer.isSome = true ∧ s.demand.source = .lost) ∧
    (∀ l ∈ [9800, 9799, 1000, 1050],
      let s : State := { beforePeriod with demand := { beforePeriod.demand with level := l } }
      s.demand.level = l ∧ s.demand.source ≠ .lost ∧ s.demand.lPrev = some 6000) ∧
    (∀ s ∈ [inView (.ownPending (claim .stop true)) running, inView (.ownHeld .start timer) (train .fill),
        inView (.ownHeld .start timer) (train .pressurize), inView (.ownHeld .start timer) (train .divert)],
      (s.demand.source ≠ .lost ∧ s.demand.overflow = false ∧ s.sequencer.conflict = false ∧
        s.sequencer.valve = valveOf s.sequencer.train ∧
        (s.sequencer.train = .running ∨ s.sequencer.train.isStarting = true)) ∧
      testParams.highHigh ≤ ({ s with demand := { s.demand with level := 9800 } } : State).demand.level) := by
  decide +kernel

/-- The period of section 1.7 with the own train in READY and two periods counted: the third makes the START request. -/
def beforeStart : State :=
  { joined beforePeriod with
    sequencer := { beforePeriod.sequencer with train := .ready, valve := valveOf .ready, minRunMet := false, intPoint := none }
    staging := { up := 2, down := 0, sp := 0 } }

/-- A period that would stop a train, the own one first, with four counted. -/
def beforeStop : State :=
  { joined beforePeriod with
    demand := { beforePeriod.demand with d := 0, level := 9000, lPrev := some 9000 }
    staging := { beforePeriod.staging with down := 4 } }

def byLine (s : State) : State := { s with pins := { s.pins with withhold := true } }

/-- A period that counts up, one that counts down from a counter at its end, one that counts neither, one that is held; a
START, a STOP and a withheld train's request taken where the Arbiter takes requests and refused before the join wait has
passed. -/
theorem witness_StageCountersFollowTheConditions :
    (∀ s ∈ [beforePeriod, { beforeStop with staging := { beforePeriod.staging with down := 255 } }, base, beforeStart,
        beforeStop, byLine beforePeriod, byLine (joined beforePeriod)],
      s.loader.params = some testParams ∧ s.demand.periodTimer.isSome = true ∧ s.demand.source ≠ .lost ∧
        s.periodHeld = false ∧ s.sequencer.conflict = false ∧
        ((after (.demandPeriodEnd false) s).demand.overflow = true → s.demand.overflow = true)) ∧
    (let s := inView (.held holder) base; s.periodHeld = true) ∧
    (let s : State := { byLine (joined running) with trim := { running.trim with settled := false } };
      s.periodHeld = true ∧ s.sequencer.train = .running ∧ s.withheld = true ∧
        (after (.demandPeriodEnd false) s).slot.view.isOwn = true) ∧
    ((after (.demandPeriodEnd false) beforePeriod).staging.up = 1) ∧
    ((after (.demandPeriodEnd false)
        { beforeStop with staging := { beforePeriod.staging with down := 254 }, slot := beforePeriod.slot }).staging.down =
          255) ∧
    (∀ s ∈ [beforeStart, beforeStop, byLine (joined beforePeriod)],
      (s.slot.view = .free ∧ s.slot.gap = none ∧ s.slot.joinPassed = true) ∧
        (after (.demandPeriodEnd false) s).slot.view.isOwn = true ∧
        (after (.demandPeriodEnd false) { s with slot := beforePeriod.slot }).slot = beforePeriod.slot) := by
  decide +kernel

theorem witness_KeysOrderTheTrains :
    let a : TallyBody := { TallyBody.zero with failures := 2, health := 3, runHours := 1048574 }
    let b : TallyBody := { TallyBody.zero with failures := 63, health := 3, runHours := 1048575 }
    let c : TallyBody := { TallyBody.zero with health := 2, runHours := 2097150 }
    let d : TallyBody := { TallyBody.zero with health := 2, runHours := 2097151 }
    (a.health ≤ 3 ∧ b.health ≤ 3 ∧ min a.failures 3 < min b.failures 3) ∧
    (min c.failures 3 = min ({ d with health := 3 } : TallyBody).failures 3 ∧ c.health < 3) ∧
    (min a.failures 3 = min ({ b with failures := 2 } : TallyBody).failures 3 ∧ a.health = b.health ∧
      a.runHours < b.runHours ∧ a.runHours < 1048575) ∧
    (({ a with withheld := true } : TallyBody).withheld = true ∧ b.withheld = false) ∧
    (a.withheld = c.withheld ∧ c.health < a.health) ∧
    (d.withheld = c.withheld ∧ d.health = c.health ∧ c.runHours < d.runHours ∧ c.runHours < 2097151) ∧
    base.loadEnded = true := by decide

/-- The peers with channel 4 invalid and one peer's level the substitute. -/
def substitute : State :=
  { peers with
    demand := { base.demand with source := .peers }
    port := { base.port with channels := base.port.channels.set 4 { value := 0, invalidSince := some 5 } }
    roster :=
      { peers.roster with
        entries := peers.roster.entries.set 6
          { peers.roster.entries[(6 : Station)] with
            tally := { peers.roster.entries[(6 : Station)].tally with levelValid := true, level := 5000 } } } }

theorem witness_LostLevelAndSilentPeers :
    (let s : State := { base with demand := { base.demand with lostTimer := some timer } };
      s.demand.lostTimer.isSome = true) ∧
    (∀ s ∈ [peers, substitute], ∀ i ∈ [(6 : Station), 10],
      s.ident.station ≠ i ∧ s.roster.entries[i].silence.isSome = true ∧ s.loader.params = some testParams ∧
        (s.roster.entries[i].validity = .live ∨ s.roster.entries[i].validity = .excluded)) ∧
    (substitute.qualifyingLevels = [5000] ∧ (after (.peerStale 6) substitute).qualifyingLevels = [] ∧
      (after (.peerStale 10) substitute).qualifyingLevels = [5000]) ∧
    (let s := after (.peerStale 6) peers;
      s.ident.station ≠ 6 ∧ s.roster.entries[(6 : Station)].silence.isSome = true ∧
        s.roster.entries[(6 : Station)].validity = .stale) := by decide +kernel

/-- The two highest temperatures, a fall, and a saturation in RUNNING with SP above the new capacity and outside RUNNING. -/
theorem witness_CapacityFollowsClassAndSaturation :
    ∀ temp ∈ [3999, 4000],
      let s : State :=
        { running with
          capability :=
            { running.capability with temp := temp, held := 1, holdTimer := some timer, fallTarget := some 0 }
          trim := { running.trim with sat := some timer } }
      s.loader.params = some testParams ∧ s.capability.temp ≤ 4000 ∧ s.capability.holdTimer.isSome = true ∧
        s.capability.fallTarget = some 0 ∧ s.trim.sat.isSome = true ∧ s.sequencer.train = .running ∧
        (after .saturationTimerExpiry s).capability.qmaxAvail < s.staging.sp ∧
        ({ train .rest with trim := s.trim } : State).sequencer.train ≠ .running := by decide +kernel

/-! ## Witnesses: the slot, the train, the port -/

theorem witness_SmallTimersActExactly :
    let s : State :=
      { inView (.held holder) running with
        slot := { base.slot with view := .held holder, joinTimer := some timer }
        trim := { running.trim with settle := some timer } }
    s.slot.joinTimer.isSome = true ∧ s.slot.view = .held holder ∧ s.sequencer.minRun.isSome = true ∧
      s.trim.settle.isSome = true := by decide

/-- A drive that channel 6 reports running. -/
def driving (s : State) : State :=
  { s with port := { s.port with channels := s.port.channels.set 6 { value := 1, invalidSince := none } } }

/-- A start without and with an overflow; a stop that is declined, and one that is taken with S above S_start, at S_start
with the drive running and at S_start with the drive at rest. -/
theorem witness_ConfirmedClaimMovesTheTrain :
    (∀ o ∈ [true, false],
      let s : State :=
        { inView (.ownPending (claim .start true)) (train .ready) with demand := { base.demand with overflow := o } }
      s.slot.view = .ownPending (claim .start true) ∧ (claim .start true).window.isSome = true ∧
        s.loader.params = some testParams ∧ s.sequencer.conflict = false ∧ (claim .start true).intent = .start ∧
        s.sequencer.train = .ready ∧ s.sequencer.valve = valveOf .ready ∧ s.demand.overflow = o) ∧
    (∀ met ∈ [true, false], ∀ v ∈ [(5200, Train.unload), (3000, .unload), (3000, .flush)],
      let s0 : State :=
        { inView (.ownPending (claim .stop true)) running with
          sequencer := { running.sequencer with minRunMet := met }, trim := { running.trim with s := v.1 } }
      let s := if v.2 = .unload then driving s0 else s0
      s.slot.view = .ownPending (claim .stop true) ∧ s.loader.params = some testParams ∧
        s.sequencer.conflict = false ∧ s.sequencer.train = .running ∧ s.sequencer.valve = valveOf .running ∧
        s.sequencer.minRunMet = met ∧ s.withheld = false ∧ s.trim.s = v.1 ∧ s.unloadsTo testParams = v.2) := by
  decide +kernel

/-- A start that fails to reach RUNNING, one whose quality timer is due at that very moment, and a staged stop. -/
theorem witness_OwnHoldExpiryGivesTheSlotUp :
    (∀ span ∈ [99999, 100000, 100001],
      let s : State :=
        { inView (.ownHeld .start timer) (train .divert) with
          sequencer := { (train .divert).sequencer with quality := some { since := 0, span := span } } }
      s.slot.view = .ownHeld .start timer ∧ s.sequencer.conflict = false ∧ s.sequencer.train.isStarting = true ∧
        s.protection.latches.holdOverrun = false ∧ s.sequencer.train = .divert ∧
        s.sequencer.quality = some { since := 0, span := span } ∧ (0 + span ≤ s.time ↔ span ≠ 100001) ∧
        s.demand.overflow = false ∧ s.loader.params = some testParams) ∧
    (let s := inView (.ownHeld .stop timer) (train .unload);
      s.slot.view = .ownHeld .stop timer ∧ s.sequencer.conflict = false ∧ s.sequencer.train = .unload) := by
  decide +kernel

/-- With the PRESSURIZE test failing, and passing at its thresholds. -/
theorem witness_FillExpiryStartsThePump :
    ∀ v ∈ [(0, 0), (1950, 5400)],
      let s : State :=
        { train .fill with port :=
          { base.port with
            channels :=
              (base.port.channels.set 1 { value := v.1, invalidSince := none }).set 5
                { value := v.2, invalidSince := none } } }
      s.sequencer.train = .fill ∧ s.sequencer.phase.isSome = true ∧ s.loader.params = some testParams ∧
        s.sequencer.conflict = false ∧ s.sequencer.valve = valveOf .fill ∧
        ((s.chanValid 1 = true ∧ s.chanValid 5 = true ∧ testParams.pRunMin ≤ s.chan 5 ∧
          testParams.qmin ≤ s.chan 1 + testParams.settleBand) ↔ v.1 = 1950) := by decide +kernel

theorem witness_TimersTakeTheTrainToRunningAndReady :
    (∀ v ∈ [View.ownHeld .start timer, View.free], ∀ o ∈ [true, false],
      let s : State :=
        { inView v (train .divert) with
          sequencer := { (train .divert).sequencer with quality := some timer }
          demand := { base.demand with overflow := o } }
      s.loader.params = some testParams ∧ s.sequencer.conflict = false ∧ s.sequencer.train = .divert ∧
        s.sequencer.quality.isSome = true ∧ s.sequencer.valve = valveOf .divert ∧ s.demand.overflow = o ∧
        s.slot.view = v) ∧
    (∀ x ∈ [Train.rest, Train.withheld],
      let s : State := { train x with sequencer := { (train x).sequencer with rest := .running timer } }
      s.loader.params = some testParams ∧ s.sequencer.conflict = false ∧ s.sequencer.rest = .running timer ∧
        s.sequencer.train = x ∧ s.sequencer.valve = valveOf .rest) := by decide +kernel

/-- Each of the four ends. -/
theorem witness_FlushEndsInTheFirstStateThatHolds :
    ∀ s ∈ [inConflict .flush, latched .quality .flush,
        { train .flush with lport := { base.lport with withholdCmd := true } }, train .flush],
      s.sequencer.train = .flush ∧ s.sequencer.phase.isSome = true ∧ s.loader.params = some testParams ∧
        s.sequencer.valve = valveOf .flush := by decide +kernel

def inTxn (x : Txn) (errors : Nat) (read : Option Channel) : State :=
  { base with port := { base.port with state := .inTransaction x, errors := errors, pendRead := read } }

def readTxn (n : Channel) : Txn := { kind := .read n, settings := testParams.port }

/-- The second and the third error, of a read and of both writes, without and with a valve word pending, and each state of
a lost port. -/
theorem witness_ErrorsLoseThePortAndARetryRestoresIt :
    (∀ x ∈ [readTxn 4, { kind := .valve Valve.atRest, settings := testParams.port },
        { kind := .speed 3000, settings := testParams.port }], ∀ e ∈ [1, 2, 255],
      (inTxn x e none).port.state = .inTransaction x ∧
        (min 255 ((inTxn x e none).port.errors + 1) < 3 ↔ e = 1) ∧ (inTxn x e none).port.pendValve = none ∧
        (inTxn x e none).loadEnded = true ∧ (inTxn x e none).protection.portFlag = false) ∧
    (let x : Txn := { kind := .speed 3000, settings := testParams.port }
     let s : State := { inTxn x 1 none with port := { (inTxn x 1 none).port with pendValve := some Valve.atRest } };
      s.port.state = .inTransaction x ∧ s.port.pendValve = some Valve.atRest) ∧
    ((lost (some (readTxn 7))).port.state = .lost (some (readTxn 7)) ∧ (lost (some (readTxn 7))).loadEnded = true ∧
      (lost (some (readTxn 7))).portSettings.mask ≠ 0) ∧
    ((lost none).port.state = .lost none ∧ (lost none).port.retryTimer.isSome = true) := by decide +kernel

/-- The same part with a read in flight and the channel of the read before it named. -/
def reading (c : Channel) (s : State) : State :=
  { s with port := { s.port with state := .inTransaction (readTxn 3), errors := 1, pendRead := some c } }

def inMode (x : Train) (m : TrimMode) (speed : Nat) : State :=
  { train x with trim := { base.trim with mode := m, s := speed, last := some 99744 } }

/-- The priming word; a word at each code limit and outside it; channels 6 and 7, with and without a configuration; the
end of a write, and the pace timer busy and idle. -/
theorem witness_CompletedTransactionsStoreAndGoOn :
    ((inTxn (readTxn 4) 2 none).port.state = .inTransaction (readTxn 4) ∧ (inTxn (readTxn 4) 2 none).port.pendRead = none ∧
      (inTxn (readTxn 4) 2 none).portSettings.mask ≠ 0) ∧
    (∀ c ∈ [(0 : Channel), 5, 6, 7],
      (inTxn (readTxn 3) 1 (some c)).port.state = .inTransaction (readTxn 3) ∧
        (inTxn (readTxn 3) 1 (some c)).port.pendRead = some c ∧ (inTxn (readTxn 3) 1 (some c)).port.errors < 2) ∧
    (∀ w ∈ [2000, 17000], testScaling.underCode ≤ (BitVec.ofNat 16 w).toNat ∧
      (BitVec.ofNat 16 w).toNat ≤ testScaling.overCode) ∧
    (∀ w ∈ [1999, 17001], ¬(testScaling.underCode ≤ (BitVec.ofNat 16 w).toNat ∧
      (BitVec.ofNat 16 w).toNat ≤ testScaling.overCode)) ∧
    (readTxn 3).settings.scaling = some (Vector.replicate 6 testScaling) ∧
    (readTxn 3).settings.identity = some 0x6214#16 ∧
    (fixedPortSettings.scaling = none ∧ fixedPortSettings.identity = none) ∧
    (let x : Txn := { kind := .speed 3000, settings := testParams.port };
      (inTxn x 2 (some 4)).port.state = .inTransaction x ∧ (inTxn x 2 (some 4)).port.pace.isSome = true ∧
        (inTxn x 2 (some 4)).port.pendValve = none ∧ (inTxn x 2 (some 4)).port.pendSpeed = none) ∧
    (base.port.state = .idle ∧ base.port.pendValve = none ∧ base.port.pendSpeed = none ∧
      base.port.pace.isSome = true) := by decide +kernel

/-- Each channel's sample in the states whose blocks use it, and a drive at rest in UNLOAD and without a parameter set. -/
theorem witness_SamplesOfCompletedTransactions :
    (∀ s ∈ [running, inMode .pressurize .trimQmin 3000, inMode .divert .trimQmin 3000, inMode .unload .rampDown 5200,
        inMode .unload .rampDown 3000, inMode .rest .off 0], ∀ c ∈ [(0 : Channel), 1, 2, 3, 4, 5, 6],
      (reading c s).port.state = .inTransaction (readTxn 3) ∧ (reading c s).port.pendRead = some c ∧
        (reading c s).loader.params = some testParams ∧ (reading c s).loadEnded = true ∧
        (reading c s).sequencer.valve = valveOf (reading c s).sequencer.train) ∧
    (let s : State :=
      { inMode .unload .off 0 with
        sequencer := { (train .unload).sequencer with valve := { valveOf .unload with run := false }, staged := true } };
      (reading 6 s).sequencer.train = .unload ∧ (reading 6 s).sequencer.valve.run = false) ∧
    (let s := unconfigured .unconfigured;
      (reading 6 s).loader.params = none ∧ (reading 6 s).loadEnded = true ∧
        (reading 6 s).sequencer.train.needsParams = false) := by decide +kernel

end Sys2Proof.Tests
end

section
/-! The start key and the stop key (R64, R65): each is a number of three digits, the first of them the weightiest, so
two entries compare by the first digit in which they differ. -/

namespace Sys2Proof.Machine

open Sys2Proof

variable {a b : TallyBody} {s : State}

/-! ## The digits -/

/-- Class and run hours together stay below the start key's weight of one failure. -/
theorem startKey_classAndHours_lt (h : b.health ≤ 3) : b.health * 1048576 + min b.runHours 1048575 < 4194304 := by
  have hours : min b.runHours 1048575 ≤ 1048575 := Nat.min_le_right ..
  omega

/-- Class and run hours together stay below the stop key's weight of the withheld standing. -/
theorem stopKey_classAndHours_lt (b : TallyBody) :
    (3 - b.health) * 2097152 + (2097151 - min b.runHours 2097151) < 8388608 := by
  have cls : 3 - b.health ≤ 3 := Nat.sub_le ..
  omega

/-- The stop key with w as a digit (R65). -/
theorem stopKey_eq (b : TallyBody) :
    stopKey b =
      (if b.withheld then 0 else 1) * 8388608 + (3 - b.health) * 2097152 + (2097151 - min b.runHours 2097151) := by
  cases h : b.withheld <;> simp [stopKey, h]

/-! ## Bounds -/

theorem startKey_le (h : b.health ≤ 3) : startKey b ≤ 16777215 := by
  have tail := startKey_classAndHours_lt h
  have failures : min b.failures 3 ≤ 3 := Nat.min_le_right ..
  simp only [startKey]
  omega

theorem stopKey_le (b : TallyBody) : stopKey b ≤ 16777215 := by
  have tail := stopKey_classAndHours_lt b
  have standing : (if b.withheld then 0 else 8388608) ≤ 8388608 := by split <;> decide
  simp only [stopKey]
  omega

/-! ## Order of the start keys -/

theorem startKey_lt_of_failures_lt (ha : a.health ≤ 3) (h : min a.failures 3 < min b.failures 3) :
    startKey a < startKey b := by
  calc startKey a
      = min a.failures 3 * 4194304 + (a.health * 1048576 + min a.runHours 1048575) := Nat.add_assoc ..
    _ < min a.failures 3 * 4194304 + 4194304 := Nat.add_lt_add_left (startKey_classAndHours_lt ha) _
    _ = (min a.failures 3 + 1) * 4194304 := (Nat.succ_mul ..).symm
    _ ≤ min b.failures 3 * 4194304 := Nat.mul_le_mul_right _ h
    _ ≤ startKey b := Nat.le_trans (Nat.le_add_right ..) (Nat.le_add_right ..)

theorem startKey_lt_of_health_lt (hf : min a.failures 3 = min b.failures 3) (h : a.health < b.health) :
    startKey a < startKey b := by
  have hours : min a.runHours 1048575 < 1048576 := Nat.lt_succ_of_le (Nat.min_le_right ..)
  simp only [startKey, hf]
  omega

theorem startKey_lt_of_runHours_lt (hf : min a.failures 3 = min b.failures 3) (hc : a.health = b.health)
    (h : a.runHours < b.runHours) (ha : a.runHours < 1048575) : startKey a < startKey b := by
  have hours : min a.runHours 1048575 < min b.runHours 1048575 := by omega
  simp only [startKey, hf, hc]
  omega

/-! ## Order of the stop keys -/

theorem stopKey_lt_of_withheld (ha : a.withheld = true) (hb : b.withheld = false) : stopKey a < stopKey b := by
  have tail := stopKey_classAndHours_lt a
  simp only [stopKey, ha, hb, if_true, Bool.false_eq_true, if_false]
  omega

theorem stopKey_lt_of_health_gt (hw : a.withheld = b.withheld) (ha : a.health ≤ 3) (h : b.health < a.health) :
    stopKey a < stopKey b := by
  have cls : 3 - a.health < 3 - b.health := by omega
  simp only [stopKey, hw]
  omega

theorem stopKey_lt_of_runHours_gt (hw : a.withheld = b.withheld) (hc : a.health = b.health)
    (h : b.runHours < a.runHours) (hb : b.runHours < 2097151) : stopKey a < stopKey b := by
  have hours : 2097151 - min a.runHours 2097151 < 2097151 - min b.runHours 2097151 := by omega
  simp only [stopKey, hw, hc]
  omega

/-! ## The own entry and its keys -/

/-- From the end of configuration load the own entry carries own state (R49, R52). -/
theorem entry_own_tally (h : s.loadEnded = true) : (s.entry s.ident.station).tally = s.ownTally := by
  simp [State.entry, h]

theorem ownStartKey_of_loadEnded (h : s.loadEnded = true) : s.ownStartKey = startKey s.ownTally := by
  simp [State.ownStartKey, h]

theorem ownStopKey_of_loadEnded (h : s.loadEnded = true) : s.ownStopKey = stopKey s.ownTally := by
  simp [State.ownStopKey, h]

/-- The own entry's class: 3 while UNFIT, the held class otherwise (R25). -/
theorem ownTally_health (s : State) :
    s.ownTally.health = if s.capability.unfit then 3 else s.capability.held.val :=
  apply_ite Fin.val ..

/-- Settles O50: each bound and each order from the weights of the digits, the own keys through the own entry. -/
theorem keysOrderTheTrains : Obligations.KeysOrderTheTrains := by
  refine ⟨fun b => ⟨rfl, stopKey_eq b, fun h => ⟨startKey_le h, stopKey_le b⟩⟩, fun a b ha _ => ?_, fun s h => ?_⟩
  · exact ⟨startKey_lt_of_failures_lt ha, startKey_lt_of_health_lt, startKey_lt_of_runHours_lt,
      stopKey_lt_of_withheld, (stopKey_lt_of_health_gt · ha), stopKey_lt_of_runHours_gt⟩
  · rw [entry_own_tally h]
    exact ⟨ownStartKey_of_loadEnded h, ownStopKey_of_loadEnded h, rfl, rfl, ownTally_health s, rfl⟩

end Sys2Proof.Machine
end

section
/-! A cause that arrives with its latch set (R149): each of the seven commands makes its cause arrive in a state that
differs from the one found in the line level, the condition flags and the expired timers at most; the latched arrival
there only counts, and the end of the taking is the port arbiter's. -/

namespace Sys2Proof.Machine

open Sys2Proof

variable {s u : State} {k : Cause} {c : Instr}

/-! ## The counts -/

theorem satInc_eq_min (max n : Nat) : satInc max n = min max (n + 1) := by
  unfold satInc
  split <;> omega

/-! ## What the port's arbiter leaves -/

@[simp] theorem arbitrate_sequencer : (arbitrate s).sequencer = s.sequencer := arbitrate_frame.sequencer_eq (by simp)

@[simp] theorem arbitrate_protection : (arbitrate s).protection = s.protection :=
  arbitrate_frame.protection_eq (by simp)

@[simp] theorem arbitrate_queue : (arbitrate s).queue = s.queue := arbitrate_frame.queue_eq (by simp)

/-! ## Where an arrival finds the part -/

/-- A state in which a command makes its cause arrive, against the state that the command finds: an expired timer has
stopped, a failed start is counted, or TRIP-IN's level and flag are taken; the latches, the counts, the train state and
the valve word stand as they were. -/
structure ReadyForArrival (s u : State) : Prop where
  frame : changesOnly [.pins, .sequencer, .protection] s u
  latches : u.protection.latches = s.protection.latches
  counts : u.protection.counts = s.protection.counts
  train : u.sequencer.train = s.sequencer.train
  valve : u.sequencer.valve = s.sequencer.valve

/-- A change of Protection's timers alone readies an arrival. -/
theorem ReadyForArrival.of_protection {q : Protection} (hl : q.latches = s.protection.latches)
    (hc : q.counts = s.protection.counts) : ReadyForArrival s { s with protection := q } :=
  ⟨(protection_frame q).mono (by simp), hl, hc, rfl, rfl⟩

/-- A change of the Sequencer's timers and counters alone readies an arrival. -/
theorem ReadyForArrival.of_sequencer {q : Sequencer} (ht : q.train = s.sequencer.train)
    (hv : q.valve = s.sequencer.valve) : ReadyForArrival s { s with sequencer := q } :=
  ⟨(sequencer_frame q).mono (by simp), rfl, rfl, ht, hv⟩

/-- TRIP-IN's level with the flag of its judging readies an arrival. -/
theorem ReadyForArrival.of_tripIn (level flag : Bool) :
    ReadyForArrival s
      { s with pins := { s.pins with tripIn := level }, protection := { s.protection with extFlag := flag } } := by
  refine ⟨fun b hb => ?_, rfl, rfl, rfl, rfl⟩
  cases b <;> first | rfl | simp at hb

/-- An asserted TRIP-IN makes EXTERNAL arrive from the end of the load on, where its flag is clear (R147, R150). -/
theorem execTripInChange_of_asserted (ended : s.loadEnded = true) (clear : s.protection.extFlag = false) :
    execTripInChange true s = .next (finish s (arrive .external
      { s with pins := { s.pins with tripIn := true }, protection := { s.protection with extFlag := true } })) := by
  simp [execTripInChange, judgeExternal, arriveIf, ended, clear]

/-- Each of the seven commands makes its cause arrive in a ready state and ends the taking. -/
theorem exec_eq_arrive (h : s.arrivalOf c = some k) :
    ∃ u, ReadyForArrival s u ∧ exec c s = .next (finish s (arrive k u)) := by
  unfold State.arrivalOf at h
  split at h
  -- any other command makes no cause arrive by itself
  case h_8 => cases h
  all_goals obtain ⟨runs, ⟨⟩⟩ := Option.ite_none_right_eq_some.mp h
  -- Protection's timers
  case h_1 | h_2 | h_3 =>
    obtain ⟨timer, runs⟩ := Option.isSome_iff_exists.mp runs
    simp only [exec, execLowSuctionExpiry, execQualityTripExpiry, execInstrumentExpiry, runs]
    refine ⟨_, ?_, rfl⟩
    exact ReadyForArrival.of_protection rfl rfl
  -- the timeouts of a start and of an unload
  case h_4 | h_5 | h_6 =>
    refine ⟨_, ?_, if_pos runs⟩
    exact ReadyForArrival.of_sequencer rfl rfl
  -- TRIP-IN
  case h_7 =>
    obtain ⟨ended, clear⟩ : s.loadEnded = true ∧ s.protection.extFlag = false := by simpa using runs
    exact ⟨_, ReadyForArrival.of_tripIn true true, execTripInChange_of_asserted ended clear⟩

/-! ## The arrival itself -/

/-- A latched arrival in a ready state, to the end of the taking: the counts apart, only the arbiter acts. -/
theorem finish_arrive_latched (ready : ReadyForArrival s u) (h : s.protection.latches.get k = true) :
    finish s (arrive k u) =
      arbitrate { u with protection :=
        { u.protection with counts := s.protection.counts.put k (satInc 63 (s.protection.counts.get k)) } } := by
  rw [arrive_latched k (ready.latches ▸ h), ready.counts]
  exact finish_of_same_holding (congrArg (·.view.isOwnHeld) (ready.frame .slot (by simp)))

/-- RUN-PERMIT needs every latch clear (R158). -/
theorem runPermit_of_latched (h : s.protection.latches.get k = true) : s.runPermit = false := by
  have latched : s.protection.latches.any = true := s.protection.latches.any_eq_true_iff.mpr ⟨k, h⟩
  simp [State.runPermit, latched]

/-- Settles O35: the arrival by its latched equation, each of the seven commands through the ready state in which its
cause arrives. -/
theorem latchedCauseOnlyCounts : Obligations.LatchedCauseOnlyCounts := by
  intro k s h
  refine ⟨?_, runPermit_of_latched h, fun c hc => ?_⟩
  · rw [arrive_latched k h, satInc_eq_min]
  · obtain ⟨u, ready, run⟩ := exec_eq_arrive hc
    rw [finish_arrive_latched ready h, satInc_eq_min] at run
    refine ⟨_, run, by simp [ready.latches], by simp, ?queue, by simp [ready.train], by simp [ready.valve], ?permit,
      ?frame⟩
    case queue => simpa using ready.frame.queue_eq (by simp)
    case permit => exact runPermit_of_latched (k := k) (by simp [ready.latches, h])
    case frame =>
      exact ((ready.frame.mono (by simp)).trans ((protection_frame _).mono (by simp))).trans
        (arbitrate_frame.mono (by simp))

end Sys2Proof.Machine
end

section
/-! A record into the queue, full or with room (R201), and the command RELOAD CONFIG, taken or refused (R193). -/

namespace Sys2Proof.Machine

open Sys2Proof

variable {s : State}

/-! ## The record that is created (R199, R201) -/

/-- The record that `raise` appends: it carries the loss flag exactly when it finds the queue full. -/
def createdRecord (k : EventKind) (station detail : Nat) (s : State) : Record :=
  { seq := s.queue.seq, time := s.time, loss := decide (32 ≤ s.queue.records.length), kind := k, station := station,
    detail := detail }

theorem createdRecord_loss_of_full (k : EventKind) (station detail : Nat) (full : 32 ≤ s.queue.records.length) :
    (createdRecord k station detail s).loss = true := decide_eq_true full

theorem createdRecord_loss_of_room (k : EventKind) (station detail : Nat) (room : s.queue.records.length < 32) :
    (createdRecord k station detail s).loss = false := decide_eq_false (Nat.not_le.mpr room)

theorem raise_records_of_full (k : EventKind) (station detail : Nat) (full : 32 ≤ s.queue.records.length) :
    (raise k station detail s).queue.records = s.queue.records.drop 1 ++ [createdRecord k station detail s] := by
  rw [raise_full k station detail full, List.drop_one]
  simp [createdRecord, full]

theorem raise_records_of_room (k : EventKind) (station detail : Nat) (room : s.queue.records.length < 32) :
    (raise k station detail s).queue.records = s.queue.records ++ [createdRecord k station detail s] := by
  rw [raise_room k station detail room]
  simp [createdRecord, room]

/-- The pending-loss flag tells whether the newest record found the queue full. -/
@[simp] theorem raise_pendingLoss (k : EventKind) (station detail : Nat) :
    (raise k station detail s).queue.pendingLoss = decide (32 ≤ s.queue.records.length) := rfl

/-- A record just created is held, so ATTN is asserted (R202). -/
theorem raise_attn (k : EventKind) (station detail : Nat) : (raise k station detail s).attn = true := by
  simp [State.attn, raise]

/-! ## The queue item (R197) -/

/-- A read with the queue item selected clocks out the item's index and contents. -/
theorem exec_readItem_queueItem (tariff : Bool) (h : s.lport.item = 10) :
    ∃ t, exec (.readItem tariff) s = .next t ∧ t.lport.reply = 10 :: queueItem s := by
  refine ⟨_, rfl, ?_⟩
  simp [answer, readReply, h, itemContents, queueItem]

/-- The pending-loss flag stands behind the index, the number of records and the sequence counter. -/
theorem queueItem_pendingLoss (s : State) :
    (10 :: queueItem s)[3]? = some (if s.queue.pendingLoss then 1 else 0) := by
  cases h : s.queue.pendingLoss <;> simp [queueItem, flagByte, flagNat, beBytes, h]

/-- Settles O29: the record created, in the full queue and in the queue with room; the queue item then reports the
pending-loss flag, which at most 32 records leave set exactly at 32. -/
theorem recordIntoFullQueueCarriesLossFlag : Obligations.RecordIntoFullQueueCarriesLossFlag := by
  intro k station detail s le
  have fullIff : 32 ≤ s.queue.records.length ↔ s.queue.records.length = 32 := by omega
  refine ⟨createdRecord k station detail s, rfl, rfl, rfl, rfl, rfl, rfl, fun len => ?full, fun room => ?room,
    raise_attn k station detail, (raise_frame k station detail).mono (by simp), fun item tariff => ?item⟩
  case full =>
    have full := fullIff.mpr len
    exact ⟨raise_records_of_full k station detail full, createdRecord_loss_of_full k station detail full,
      by simp [full]⟩
  case room =>
    exact ⟨raise_records_of_room k station detail room, createdRecord_loss_of_room k station detail room,
      by simp [room]⟩
  case item =>
    obtain ⟨t, run, reply⟩ := exec_readItem_queueItem tariff item
    refine ⟨t, run, ?_⟩
    rw [reply, queueItem_pendingLoss]
    simp [fullIff]

/-! ## RELOAD CONFIG (R193) -/

/-- The train states in which a reload may begin. -/
theorem Train.mayReload_iff (x : Train) :
    x.mayReload = true ↔ x = .rest ∨ x = .ready ∨ x = .withheld ∨ x = .tripped ∨ x = .unconfigured := by
  cases x <;> simp [Train.mayReload]

theorem exec_reloadConfig_taken (idle : s.loader.phase = .idle) (waits : s.sequencer.train.mayReload = true)
    (clear : s.sequencer.conflict = false) :
    exec .reloadConfig s = .next (answer replyDone { s with loader := { s.loader with phase := .reloading } }) :=
  if_pos ⟨idle, waits, clear⟩

theorem exec_reloadConfig_refused
    (h : ¬(s.loader.phase = .idle ∧ s.sequencer.train.mayReload = true ∧ s.sequencer.conflict = false)) :
    exec .reloadConfig s = .next (answer replyBusyState s) := if_neg h

/-- Settles O33: the command's own condition, with the train states that wait written out. -/
theorem reloadConfigTakenOnlyAtRest : Obligations.ReloadConfigTakenOnlyAtRest := by
  intro s waits
  have mayReload : s.sequencer.train.mayReload = true ↔ waits := Train.mayReload_iff s.sequencer.train
  refine ⟨fun ⟨idle, atRest, clear⟩ => ?taken, fun h => ?refused⟩
  case taken => exact exec_reloadConfig_taken idle (mayReload.mpr atRest) clear
  case refused =>
    exact exec_reloadConfig_refused fun ⟨idle, may, clear⟩ => h ⟨idle, mayReload.mp may, clear⟩

end Sys2Proof.Machine
end

section
/-! What every operation inside a taking keeps: the blocks that only a load or the outside world writes, the order of the
records, the TCF table, the latches that are set, the counts, the counters' ranges and the silence of a part in CONFLICT.
The relation composes, so an operation keeps what the operations it is made of keep. -/

namespace Sys2Proof.Machine

open Sys2Proof

variable {s t u : State}

/-! ## Records into the queue -/

/-- The queue and the pop transfer change by records alone, raised at one moment. -/
structure Logged (s t : State) : Prop where
  time : t.time = s.time
  records : ∃ l, t.queue = (raiseAll l s).queue ∧ t.lport = (raiseAll l s).lport

@[simp] theorem raiseAll_time (l : List (EventKind × Nat × Nat)) : (raiseAll l s).time = s.time := by
  induction l generalizing s with
  | nil => rfl
  | cons r l ih => exact ih

/-- What records leave of the local port depends on the queue, the local port and the moment alone. -/
theorem raiseAll_lport_congr (l : List (EventKind × Nat × Nat)) (hq : t.queue = s.queue) (hp : t.lport = s.lport)
    (ht : t.time = s.time) : (raiseAll l t).lport = (raiseAll l s).lport := by
  induction l generalizing s t with
  | nil => exact hp
  | cons r l ih =>
    refine ih ?_ ?_ ?_
    · simp only [raise, hq, ht]
    · simp only [raise, hq, hp]
    · simp [ht]

theorem Logged.of_eq (time : t.time = s.time) (queue : t.queue = s.queue) (lport : t.lport = s.lport) : Logged s t :=
  ⟨time, [], queue, lport⟩

theorem Logged.trans (h : Logged s t) (k : Logged t u) : Logged s u := by
  obtain ⟨ht, l, hq, hp⟩ := h
  obtain ⟨ku, m, kq, kp⟩ := k
  have append : raiseAll (l ++ m) s = raiseAll m (raiseAll l s) := by simp [raiseAll]
  have time : t.time = (raiseAll l s).time := by simp [ht]
  refine ⟨ku.trans ht, l ++ m, ?_, ?_⟩
  · rw [append, kq, raiseAll_queue_congr m hq time]
  · rw [append, kp, raiseAll_lport_congr m hq hp time]

theorem Logged.after (k : Logged t u) (h : Logged s t) : Logged s u := h.trans k

theorem Logged.raise (k : EventKind) (station detail : Nat) : Logged s (raise k station detail s) :=
  ⟨rfl, [(k, station, detail)], rfl, rfl⟩

/-- Records touch nothing of the local port but the mark of a pop transfer. -/
theorem raiseAll_lport (l : List (EventKind × Nat × Nat)) :
    (raiseAll l s).lport = { s.lport with pop := (raiseAll l s).lport.pop } := by
  induction l generalizing s with
  | nil => rfl
  | cons r l ih => exact ih

theorem Logged.lport_eq (h : Logged s t) : t.lport = { s.lport with pop := t.lport.pop } := by
  obtain ⟨-, l, -, hp⟩ := h
  rw [hp]
  exact raiseAll_lport l

theorem Logged.raised (h : Logged s t) : Raised s t :=
  ⟨h.time, h.records.imp fun _ k => k.1⟩

/-! ## The relation -/

/-- The blocks an operation inside a taking can change: not the clock, the identity, the pins, the Loader or the waiting
commands. -/
def innerBlocks : List Block := .demand :: .roster :: trainBlocks

/-- What every operation keeps, those of a load and a reload among them. -/
structure Steady (s t : State) : Prop where
  frame : changesOnly (.loader :: innerBlocks) s t
  logged : Logged s t
  conflict : s.sequencer.conflict = true → t.sequencer.conflict = true
  latches : ∀ k, s.protection.latches.get k = true → t.protection.latches.get k = true
  counts : ∀ k, s.protection.counts.get k ≤ 63 →
    s.protection.counts.get k ≤ t.protection.counts.get k ∧ t.protection.counts.get k ≤ 63
  counters : CounterLaw s → CounterLaw t
  portLaw : PortLaw s → PortLaw t

/-- What every operation inside a taking keeps. -/
structure InTaking (s t : State) : Prop extends Steady s t where
  loader : t.loader = s.loader
  tcf : t.capability.tcf = s.capability.tcf
  silence : ConflictLaw s → ConflictLaw t

/-- What an operation keeps that leaves the conflict mark alone, and the Train Port but for the writes it gives it. -/
structure OffPort (s t : State) : Prop extends InTaking s t where
  port : t.port = { s.port with pendValve := t.port.pendValve, pendSpeed := t.port.pendSpeed }
  mark : t.sequencer.conflict = s.sequencer.conflict

theorem Steady.refl (s : State) : Steady s s :=
  ⟨changesOnly_refl _ s, Logged.of_eq rfl rfl rfl, id, fun _ => id, fun _ h => ⟨Nat.le_refl _, h⟩, id, id⟩

theorem Steady.trans (h : Steady s t) (k : Steady t u) : Steady s u where
  frame := h.frame.trans k.frame
  logged := h.logged.trans k.logged
  conflict := k.conflict ∘ h.conflict
  latches c := k.latches c ∘ h.latches c
  counts c b := by
    obtain ⟨le, bound⟩ := h.counts c b
    obtain ⟨le', bound'⟩ := k.counts c bound
    exact ⟨le.trans le', bound'⟩
  counters := k.counters ∘ h.counters
  portLaw := k.portLaw ∘ h.portLaw

theorem InTaking.refl (s : State) : InTaking s s := ⟨Steady.refl s, rfl, rfl, id⟩

theorem InTaking.trans (h : InTaking s t) (k : InTaking t u) : InTaking s u :=
  ⟨h.toSteady.trans k.toSteady, k.loader.trans h.loader, k.tcf.trans h.tcf, k.silence ∘ h.silence⟩

theorem OffPort.refl (s : State) : OffPort s s := ⟨InTaking.refl s, rfl, rfl⟩

theorem OffPort.trans (h : OffPort s t) (k : OffPort t u) : OffPort s u :=
  ⟨h.toInTaking.trans k.toInTaking, by rw [k.port, h.port], k.mark.trans h.mark⟩

theorem Steady.after (k : Steady t u) (h : Steady s t) : Steady s u := h.trans k

theorem InTaking.after (k : InTaking t u) (h : InTaking s t) : InTaking s u := h.trans k

theorem OffPort.after (k : OffPort t u) (h : OffPort s t) : OffPort s u := h.trans k

theorem OffPort.ite {c : Prop} [Decidable c] (h : OffPort s t) (k : OffPort s u) : OffPort s (if c then t else u) := by
  split
  · exact h
  · exact k

theorem InTaking.ite {c : Prop} [Decidable c] (h : InTaking s t) (k : InTaking s u) :
    InTaking s (if c then t else u) := by
  split
  · exact h
  · exact k

/-! ## Updates of one block -/

/-- The silence depends on the conflict mark, the line, the view and the Loader's phase. -/
theorem ConflictLaw.congr (h : ConflictLaw s) (conflict : t.sequencer.conflict = s.sequencer.conflict)
    (line : t.line = s.line) (view : t.slot.view.isOwn = true → s.slot.view.isOwn = true)
    (loader : t.loader = s.loader) : ConflictLaw t := by
  intro mark
  obtain ⟨set, tx, tally, own, ended⟩ := h (conflict ▸ mark)
  rw [line]
  refine ⟨set, tx, tally, Bool.eq_false_iff.mpr fun k => ?_, ?_⟩
  · rw [view k] at own
    cases own
  · rwa [State.loadEnded, loader]

theorem CounterLaw.congr (h : CounterLaw s) (staging : t.staging = s.staging) (sequencer : t.sequencer = s.sequencer)
    (protection : t.protection = s.protection) (line : t.line = s.line) (errors : t.port.errors = s.port.errors) :
    CounterLaw t := by
  obtain ⟨a, b, c, d, e, f, g, i⟩ := h
  constructor <;> simp only [staging, sequencer, protection, line, errors] <;> assumption

/-- The port law looks at the port's state, channels, retry timer and errors. -/
theorem PortLaw.congr (h : PortLaw s) (state : t.port.state = s.port.state)
    (channels : t.port.channels = s.port.channels) (retry : t.port.retryTimer = s.port.retryTimer)
    (errors : t.port.errors = s.port.errors) : PortLaw t := by
  obtain ⟨a, b, c⟩ := h
  constructor <;> simp only [State.chanValid, state, channels, retry, errors] at * <;> assumption

/-- An operation that leaves the Train Port alone but for the writes it gives it keeps the port law. -/
theorem PortLaw.of_port_eq (h : PortLaw s)
    (port : t.port = { s.port with pendValve := t.port.pendValve, pendSpeed := t.port.pendSpeed }) : PortLaw t :=
  h.congr (by rw [port]) (by rw [port]) (by rw [port]) (by rw [port])

/-- An update of blocks that nothing here watches. -/
theorem OffPort.of_frame {bs : List Block} (h : changesOnly bs s t) (sub : bs ⊆ [.demand, .roster, .trim]) :
    OffPort s t := by
  have same : ∀ b : Block, b ∉ [Block.demand, .roster, .trim] → b.same s t := fun b hb => h b fun k => hb (sub k)
  have capability := same .capability (by decide)
  have protection := same .protection (by decide)
  have sequencer := same .sequencer (by decide)
  have port := same .port (by decide)
  have line := same .line (by decide)
  have slot := same .slot (by decide)
  simp only [Block.same] at capability protection sequencer port line slot
  refine ⟨⟨⟨h.mono (List.Subset.trans sub (by decide)), Logged.of_eq (same .time (by decide))
    (same .queue (by decide)) (same .lport (by decide)), by rw [sequencer]; exact id,
    by rw [protection]; exact fun _ => id, by rw [protection]; exact fun _ k => ⟨Nat.le_refl _, k⟩,
    fun k => k.congr (same .staging (by decide)) sequencer protection line (by rw [port]),
    fun k => k.congr (by rw [port]) (by rw [port]) (by rw [port]) (by rw [port])⟩, same .loader (by decide),
    by rw [capability], fun k => k.congr (by rw [sequencer]) line (by rw [slot]; exact id)
    (same .loader (by decide))⟩, by rw [port], by rw [sequencer]⟩

/-- An update that leaves the port and the Loader alone, from what it keeps of the other blocks that are watched. -/
theorem OffPort.of_kept (frame : changesOnly innerBlocks s t) (logged : Logged s t)
    (port : t.port = { s.port with pendValve := t.port.pendValve, pendSpeed := t.port.pendSpeed })
    (mark : t.sequencer.conflict = s.sequencer.conflict) (tcf : t.capability.tcf = s.capability.tcf)
    (latches : ∀ k, s.protection.latches.get k = true → t.protection.latches.get k = true)
    (counts : ∀ k, s.protection.counts.get k ≤ 63 →
      s.protection.counts.get k ≤ t.protection.counts.get k ∧ t.protection.counts.get k ≤ 63)
    (counters : CounterLaw s → CounterLaw t) (silence : ConflictLaw s → ConflictLaw t) : OffPort s t :=
  ⟨⟨⟨frame.mono (by decide), logged, fun h => mark.trans h, latches, counts, counters, fun h => h.of_port_eq port⟩,
    frame .loader (by decide), tcf, silence⟩, port, mark⟩

/-- The counts as they stand. -/
theorem counts_kept (k : Cause) (h : s.protection.counts.get k ≤ 63) :
    s.protection.counts.get k ≤ s.protection.counts.get k ∧ s.protection.counts.get k ≤ 63 := ⟨Nat.le_refl _, h⟩

theorem OffPort.capability {q : Capability} (h : q.tcf = s.capability.tcf) : OffPort s { s with capability := q } :=
  OffPort.of_kept ((capability_frame q).mono (by decide)) (Logged.of_eq rfl rfl rfl) rfl rfl h (fun _ => id) counts_kept
    (fun k => k.congr rfl rfl rfl rfl rfl) fun k => k.congr rfl rfl id rfl

theorem staging_frame (q : Staging) : changesOnly [.staging] s { s with staging := q } := by
  intro b hb
  cases b <;> first | rfl | simp at hb

theorem OffPort.staging {q : Staging} (up : s.staging.up ≤ 255 → q.up ≤ 255) (down : s.staging.down ≤ 255 → q.down ≤ 255) :
    OffPort s { s with staging := q } :=
  OffPort.of_kept ((staging_frame q).mono (by decide)) (Logged.of_eq rfl rfl rfl) rfl rfl rfl (fun _ => id) counts_kept
    (fun k => ⟨⟨up k.stages.1, down k.stages.2⟩, k.failures, k.starts, k.runTime, k.totalizer, k.counts, k.line, k.errors⟩)
    fun k => k.congr rfl rfl id rfl

theorem OffPort.slot {q : Slot} (h : q.view.isOwn = true → s.slot.view.isOwn = true) :
    OffPort s { s with slot := q } :=
  OffPort.of_kept ((slot_frame q).mono (by decide)) (Logged.of_eq rfl rfl rfl) rfl rfl rfl (fun _ => id) counts_kept
    (fun k => k.congr rfl rfl rfl rfl rfl) fun k => k.congr rfl rfl h rfl

/-- The Sequencer's counters stay in their ranges. -/
structure Sequencer.CountersKept (p q : Sequencer) : Prop where
  failures : p.failures ≤ 63 → q.failures ≤ 63
  starts : p.starts ≤ 65535 → q.starts ≤ 65535
  runTime : p.runSeconds ≤ maxRunSeconds ∧ p.runTicks < 1024 → q.runSeconds ≤ maxRunSeconds ∧ q.runTicks < 1024
  totalizer : p.totalizer < 2 ^ 32 ∧ p.totRem < unitsPerCount → q.totalizer < 2 ^ 32 ∧ q.totRem < unitsPerCount

theorem CounterLaw.sequencer {q : Sequencer} (k : CounterLaw s) (h : s.sequencer.CountersKept q) :
    CounterLaw { s with sequencer := q } :=
  ⟨k.stages, h.failures k.failures, h.starts k.starts, h.runTime k.runTime, h.totalizer k.totalizer, k.counts, k.line,
    k.errors⟩

theorem OffPort.sequencer {q : Sequencer} (h : s.sequencer.CountersKept q)
    (conflict : q.conflict = s.sequencer.conflict) : OffPort s { s with sequencer := q } :=
  OffPort.of_kept ((sequencer_frame q).mono (by decide)) (Logged.of_eq rfl rfl rfl) rfl conflict rfl (fun _ => id)
    counts_kept (fun k => k.sequencer h) fun k => k.congr conflict rfl id rfl

/-- An update of the Sequencer that leaves its counters alone. -/
theorem Sequencer.CountersKept.of_eq {p q : Sequencer} (failures : q.failures = p.failures) (starts : q.starts = p.starts)
    (seconds : q.runSeconds = p.runSeconds) (ticks : q.runTicks = p.runTicks) (totalizer : q.totalizer = p.totalizer)
    (rem : q.totRem = p.totRem) : p.CountersKept q := by
  constructor
  · rw [failures]; exact id
  · rw [starts]; exact id
  · rw [seconds, ticks]; exact id
  · rw [totalizer, rem]; exact id

/-- An update of Protection's timers and condition flags. -/
theorem OffPort.protection {q : Protection} (latches : q.latches = s.protection.latches)
    (counts : q.counts = s.protection.counts) : OffPort s { s with protection := q } :=
  OffPort.of_kept ((protection_frame q).mono (by decide)) (Logged.of_eq rfl rfl rfl) rfl rfl rfl
    (fun k h => by rwa [latches]) (fun k h => by rw [counts]; exact ⟨Nat.le_refl _, h⟩)
    (fun k => ⟨k.stages, k.failures, k.starts, k.runTime, k.totalizer, fun c => by rw [counts]; exact k.counts c, k.line,
      k.errors⟩) fun k => k.congr rfl rfl id rfl

/-- The line's three counters stay in their ranges. -/
def Line.CountersKept (l m : Line) : Prop :=
  l.rxErr ≤ 255 ∧ l.txLoss ≤ 255 ∧ l.damage ≤ 255 → m.rxErr ≤ 255 ∧ m.txLoss ≤ 255 ∧ m.damage ≤ 255

/-- What the silence of a part in CONFLICT asks of the line. -/
def Line.Silent (l : Line) : Prop := l.set.isEmpty = true ∧ l.tx = .quiet ∧ l.tally = none

theorem OffPort.line {q : Line} (counters : s.line.CountersKept q)
    (silent : s.sequencer.conflict = true → s.line.Silent → q.Silent) : OffPort s { s with line := q } :=
  OffPort.of_kept ((line_frame q).mono (by decide)) (Logged.of_eq rfl rfl rfl) rfl rfl rfl (fun _ => id) counts_kept
    (fun k => ⟨k.stages, k.failures, k.starts, k.runTime, k.totalizer, k.counts, counters k.line, k.errors⟩)
    fun k mark => by
      obtain ⟨set, tx, tally, own, ended⟩ := k mark
      obtain ⟨set', tx', tally'⟩ := silent mark ⟨set, tx, tally⟩
      exact ⟨set', tx', tally', own, ended⟩

/-- An update of the port that keeps its error count in range and its law. -/
theorem InTaking.port {q : Port} (errors : s.port.errors ≤ 255 → q.errors ≤ 255)
    (law : PortLaw s → PortLaw { s with port := q }) : InTaking s { s with port := q } :=
  ⟨⟨(port_frame q).mono (by decide), Logged.of_eq rfl rfl rfl, id, fun _ => id, counts_kept,
    fun k => ⟨k.stages, k.failures, k.starts, k.runTime, k.totalizer, k.counts, k.line, errors k.errors⟩, law⟩, rfl, rfl,
    fun k => k.congr rfl rfl id rfl⟩

theorem raise_offPort (k : EventKind) (station detail : Nat) : OffPort s (raise k station detail s) :=
  OffPort.of_kept ((raise_frame k station detail).mono (by decide)) (Logged.raise k station detail) rfl rfl rfl
    (fun _ => id) counts_kept (fun h => h.congr rfl rfl rfl rfl rfl) fun h => h.congr rfl rfl id rfl

theorem raiseOwn_offPort (k : EventKind) (detail : Nat) : OffPort s (raiseOwn k detail s) := raise_offPort _ _ _

theorem writeValve_offPort (v : Valve) : OffPort s (writeValve v s) :=
  ⟨InTaking.port id fun h => h.congr rfl rfl rfl rfl, rfl, rfl⟩

theorem writeSpeed_offPort (v : Nat) : OffPort s (writeSpeed v s) :=
  ⟨InTaking.port id fun h => h.congr rfl rfl rfl rfl, rfl, rfl⟩

/-- A transaction that begins with the port IDLE keeps the port law. -/
theorem PortLaw.begin {x : Txn} {q : Port} (h : PortLaw s) (idle : s.port.state = .idle)
    (state : q.state = .inTransaction x) (retry : q.retryTimer = s.port.retryTimer) (errors : q.errors = s.port.errors) :
    PortLaw { s with port := q } := by
  refine ⟨fun lost => ?_, ?_, fun _ => ?_⟩
  · simp [state, PortState.isLost] at lost
  · have noRetry : ¬s.port.retryTimer.isSome = true := fun k => by simp [h.retry.mp k] at idle
    simp [state, retry, noRetry]
  · rw [errors]
    exact h.errors (by simp [idle, PortState.isLost])

theorem arbitrate_inTaking : InTaking s (arbitrate s) := by
  unfold arbitrate
  split
  · next idle =>
    split
    iterate 3 exact InTaking.port id fun h => h.begin idle rfl rfl rfl
    exact InTaking.refl s
  · exact InTaking.refl s

end Sys2Proof.Machine
end

section
/-! The operations keep what a taking keeps, from the small updates up to the moves of the train, the arrival of a cause,
the frames received and the demand period. -/

namespace Sys2Proof.Machine

open Sys2Proof

variable {s t u : State}

/-! ## Frames queued and withdrawn -/

theorem Line.follow_countersKept (l m : Line) (h : l.CountersKept m) : l.CountersKept m.follow := by
  rw [Line.follow_eq]
  exact h

theorem queueFrame_offPort (f : TxFrame) : OffPort s (queueFrame f s) := by
  unfold queueFrame
  split
  · exact OffPort.refl s
  · next clear => exact OffPort.line (Line.follow_countersKept _ _ id) fun mark => absurd mark clear

theorem queueYield_offPort (o : YieldOutcome) (k : Kind) : OffPort s (queueYield o k s) := queueFrame_offPort _

theorem queueOccupied_offPort : OffPort s (queueOccupied s) := by
  unfold queueOccupied
  split
  · exact queueFrame_offPort _
  · exact queueFrame_offPort _
  · exact OffPort.refl s

theorem PendingSet.tally_of_isEmpty {p : PendingSet} (h : p.isEmpty = true) : p.tally = none := by
  obtain ⟨_ | _, _, _, _⟩ := p
  · rfl
  · simp [PendingSet.isEmpty] at h

theorem recomposeTally_offPort : OffPort s (recomposeTally s) := by
  unfold recomposeTally
  split
  · next tally =>
    refine OffPort.line id fun _ ⟨empty, _, _⟩ => ?_
    rw [PendingSet.tally_of_isEmpty empty] at tally
    cases tally
  · exact OffPort.refl s

theorem finish_inTaking (before : State) : InTaking s (finish before s) :=
  (InTaking.ite (InTaking.refl s) recomposeTally_offPort.toInTaking).trans arbitrate_inTaking

/-! ## The view, its line and the stage counters -/

/-- An update of view, line and stage counters together: in CONFLICT, where the part claims and holds no slot, the line
stays and no slot is claimed. -/
theorem OffPort.claims {q : Slot} {l : Line} {st : Staging} (up : s.staging.up ≤ 255 → st.up ≤ 255)
    (down : s.staging.down ≤ 255 → st.down ≤ 255) (counters : s.line.CountersKept l)
    (silent : s.sequencer.conflict = true → s.slot.view.isOwn = false → l = s.line ∧ q.view.isOwn = false) :
    OffPort s { s with staging := st, slot := q, line := l } := by
  refine OffPort.of_kept (fun b hb => ?_) (Logged.of_eq rfl rfl rfl) rfl rfl rfl (fun _ => id) counts_kept
    (fun k => ⟨⟨up k.stages.1, down k.stages.2⟩, k.failures, k.starts, k.runTime, k.totalizer, k.counts,
      counters k.line, k.errors⟩) fun k mark => ?_
  · cases b <;> first | rfl | exact absurd (by decide) hb
  · obtain ⟨set, tx, tally, own, ended⟩ := k mark
    obtain ⟨rfl, own'⟩ := silent mark own
    exact ⟨set, tx, tally, own', ended⟩

theorem lineLeaving_countersKept (v : View) (l : Line) : l.CountersKept (lineLeaving v l) := by
  unfold lineLeaving
  split
  · rw [Line.withdrawClaims, Line.withdraw_eq]
    exact id
  · exact id

theorem lineLeaving_of_not_own {v : View} (l : Line) (h : v.isOwn = false) : lineLeaving v l = l := by
  simp [lineLeaving, h]

theorem viewFree_offPort : OffPort s (viewFree s) :=
  OffPort.claims (st := s.staging) id id (lineLeaving_countersKept _ _) fun _ own => ⟨lineLeaving_of_not_own _ own, rfl⟩

theorem countersAt_le (v : View) (st : Staging) :
    (st.up ≤ 255 → (countersAt v st).up ≤ 255) ∧ (st.down ≤ 255 → (countersAt v st).down ≤ 255) := by
  cases v <;> simp [countersAt]

theorem viewHeld_offPort (h : HeldView) : OffPort s (viewHeld h s) :=
  OffPort.claims (countersAt_le _ _).1 (countersAt_le _ _).2 (lineLeaving_countersKept _ _) fun _ own =>
    ⟨lineLeaving_of_not_own _ own, rfl⟩

theorem refreshHeld_offPort (h : HeldView) (k : Kind) (r : Nat) : OffPort s (refreshHeld h k r s) :=
  OffPort.slot fun own => by cases own

theorem request_offPort (k : Kind) : OffPort s (request k s) := by
  unfold request
  split
  · next takes =>
    have clear : s.sequencer.conflict = false := by
      simp only [State.takesRequest, Bool.and_eq_true, Bool.not_eq_true'] at takes
      exact takes.1.2
    refine OffPort.trans (OffPort.claims (l := s.line) (fun _ => Nat.zero_le _) (fun _ => Nat.zero_le _) id
      fun mark => ?_) (queueFrame_offPort _)
    rw [clear] at mark
    cases mark
  · exact OffPort.refl s

theorem cancelRequest_offPort (o : Option YieldOutcome) : OffPort s (cancelRequest o s) := by
  unfold cancelRequest
  split
  · split
    · exact viewFree_offPort.trans (queueYield_offPort _ _)
    · exact viewFree_offPort
  · exact OffPort.refl s

theorem release_offPort (o : YieldOutcome) : OffPort s (release o s) := by
  unfold release
  split
  · exact viewFree_offPort.trans (queueYield_offPort _ _)
  · exact OffPort.refl s

theorem cancelOnLeaving_offPort (o : YieldOutcome) : OffPort s (cancelOnLeaving o s) := by
  unfold cancelOnLeaving
  split
  · exact cancelRequest_offPort _
  · exact cancelRequest_offPort _
  · exact OffPort.refl s

/-! ## Capability and the share setpoint -/

theorem setSp_offPort (v : Nat) : OffPort s (setSp v s) :=
  (OffPort.staging (q := { s.staging with sp := v }) id id).trans (OffPort.of_frame (trim_frame _) (by decide))

theorem recompute_offPort : OffPort s (recompute s) := by
  unfold recompute
  split
  · exact OffPort.refl s
  · exact OffPort.ite ((setSp_offPort _).after (OffPort.capability rfl)) (OffPort.capability rfl)

theorem clearCap_offPort : OffPort s (clearCap s) := by
  unfold clearCap
  split
  · exact recompute_offPort.after (OffPort.capability rfl)
  · exact OffPort.refl s

theorem compareRaw_offPort : OffPort s (compareRaw s) := by
  unfold compareRaw
  split
  · exact OffPort.refl s
  · dsimp only
    split
    · exact recompute_offPort.after (OffPort.capability rfl)
    · split
      · exact OffPort.capability rfl
      · split <;> exact OffPort.capability rfl

theorem qualitySample_offPort : OffPort s (qualitySample s) := by
  unfold qualitySample
  split
  · exact OffPort.refl s
  · exact OffPort.ite (compareRaw_offPort.after (OffPort.capability rfl))
      (OffPort.refl s)

theorem pressureSample_offPort : OffPort s (pressureSample s) := by
  unfold pressureSample
  split
  · exact OffPort.refl s
  · exact OffPort.ite (compareRaw_offPort.after (OffPort.capability rfl))
      (OffPort.refl s)

theorem temperatureSample_offPort : OffPort s (temperatureSample s) :=
  recompute_offPort.after (OffPort.capability rfl)

theorem takeSaturation_offPort (flow : Nat) : OffPort s (takeSaturation flow s) := by
  unfold takeSaturation
  exact OffPort.ite ((raiseOwn_offPort _ _).after
    (recompute_offPort.after (OffPort.capability rfl))) (OffPort.refl s)

/-! ## Flow Trim and Protection's timers -/

theorem OffPort.trim {q : Trim} : OffPort s { s with trim := q } := OffPort.of_frame (trim_frame q) (by decide)

theorem setSpeed_offPort (v : Nat) : OffPort s (setSpeed v s) := by
  unfold setSpeed
  exact OffPort.ite (OffPort.refl s) ((OffPort.trim (q := { s.trim with s := v })).trans (writeSpeed_offPort v))

theorem trimUpdate_offPort (p : Params) (target : Nat) : OffPort s (trimUpdate p target s) := by
  unfold trimUpdate
  dsimp only
  refine OffPort.trans ?_ (setSpeed_offPort _)
  exact OffPort.ite (OffPort.trim.trans (raiseOwn_offPort _ _)) OffPort.trim

theorem trimSample_offPort (valid : Bool) : OffPort s (trimSample valid s) := by
  unfold trimSample
  split
  · exact OffPort.refl s
  · split
    · exact OffPort.refl s
    · exact (OffPort.trim (q := { s.trim with last := _ })).trans (setSpeed_offPort _)
    · exact OffPort.ite (trimUpdate_offPort _ _) (OffPort.refl s)
    · split
      · have settle : ∀ (p : Params) (n : Nat) (s : State), OffPort s (settleWatch p n s) :=
          fun _ _ _ => OffPort.ite OffPort.trim OffPort.trim
        have saturation : ∀ (p : Params) (e : Int) (s : State), OffPort s (saturationWatch p e s) :=
          fun _ _ _ => OffPort.ite OffPort.trim OffPort.trim
        refine OffPort.trans ?_ (saturation _ _ _)
        refine OffPort.trans ?_ (settle _ _ _)
        exact OffPort.ite ((trimUpdate_offPort _ _).trans clearCap_offPort) (trimUpdate_offPort _ _)
      · exact OffPort.trim

theorem judgeLowSuction_offPort : OffPort s (judgeLowSuction s) := by
  unfold judgeLowSuction
  split
  · exact OffPort.refl s
  · exact OffPort.protection rfl rfl

theorem judgeQualityTrip_offPort : OffPort s (judgeQualityTrip s) := by
  unfold judgeQualityTrip
  split
  · exact OffPort.refl s
  · exact OffPort.protection rfl rfl

theorem judgeInstrument_offPort : OffPort s (judgeInstrument s) := by
  unfold judgeInstrument
  split
  · exact OffPort.refl s
  · exact OffPort.protection rfl rfl

theorem trimStart_offPort : OffPort s (trimStart s) := by
  unfold trimStart
  split
  · exact OffPort.refl s
  · exact OffPort.trim.trans (writeSpeed_offPort _)

theorem trimStop_offPort : OffPort s (trimStop s) :=
  (writeSpeed_offPort 0).after OffPort.trim

/-! ## The moves of the train -/

/-- An update of the Sequencer that leaves the conflict mark and its counters alone. -/
theorem OffPort.sequencer_of_eq {q : Sequencer} (conflict : q.conflict = s.sequencer.conflict)
    (counters : (q.failures, q.starts, q.runSeconds, q.runTicks, q.totalizer, q.totRem) =
      (s.sequencer.failures, s.sequencer.starts, s.sequencer.runSeconds, s.sequencer.runTicks, s.sequencer.totalizer,
        s.sequencer.totRem)) : OffPort s { s with sequencer := q } := by
  simp only [Prod.mk.injEq] at counters
  obtain ⟨a, b, c, d, e, f⟩ := counters
  exact OffPort.sequencer (.of_eq a b c d e f) conflict

theorem endPendingFall_offPort : OffPort s (endPendingFall s) := OffPort.capability rfl

theorem afterRunOn_offPort : OffPort s (afterRunOn s) :=
  (trimStart_offPort.trans judgeLowSuction_offPort).trans judgeInstrument_offPort

theorem afterRunOff_offPort : OffPort s (afterRunOff s) :=
  ((trimStop_offPort.trans endPendingFall_offPort).trans judgeLowSuction_offPort).trans judgeInstrument_offPort

theorem setValve_offPort (v : Valve) : OffPort s (setValve v s) := by
  unfold setValve
  split
  · exact OffPort.refl s
  · have h : OffPort s (writeValve v { s with sequencer := { s.sequencer with valve := v } }) :=
      (writeValve_offPort v).after (OffPort.sequencer_of_eq rfl rfl)
    dsimp only
    split
    · exact h.trans afterRunOn_offPort
    · split
      · exact h.trans afterRunOff_offPort
      · exact h

theorem noteChange_offPort (before : State) : OffPort s (noteChange before s) := by
  unfold noteChange
  exact OffPort.ite (OffPort.refl s) (raiseOwn_offPort _ _)

theorem leaveRunning_offPort : OffPort s (leaveRunning s) := by
  unfold leaveRunning
  refine OffPort.trans ?_ judgeQualityTrip_offPort
  refine OffPort.trans ?_ clearCap_offPort
  exact (OffPort.sequencer_of_eq (q := { s.sequencer with minRun := none, minRunMet := false, intPoint := none }) rfl
    rfl).trans (OffPort.staging (q := { s.staging with sp := 0 }) id id)

theorem trimFor_offPort (x : Train) : OffPort s (trimFor x s) := by
  unfold trimFor
  split
  · exact OffPort.trim
  · exact OffPort.trim
  · exact OffPort.refl s

theorem moveTo_offPort (o : YieldOutcome) (x : Train) : OffPort s (moveTo o x s) := by
  unfold moveTo
  dsimp only
  refine OffPort.trans ?_ (noteChange_offPort _)
  have left : OffPort s (if x = s.sequencer.train then s else cancelOnLeaving o s) :=
    OffPort.ite (OffPort.refl s) (cancelOnLeaving_offPort o)
  have moved := (trimFor_offPort x).after ((setValve_offPort (valveOf x)).after
    (left.trans (OffPort.sequencer_of_eq (q := { (if x = s.sequencer.train then s else cancelOnLeaving o s).sequencer with
      train := x, phase := phaseTimerOf x s, quality := none, staged := false }) rfl rfl)))
  exact OffPort.ite (moved.trans leaveRunning_offPort) moved

theorem startRest_offPort : OffPort s (startRest s) := by
  unfold startRest
  split
  · exact OffPort.sequencer_of_eq rfl rfl
  · exact OffPort.refl s

theorem enterRest_offPort : OffPort s (enterRest s) := by
  unfold enterRest
  dsimp only
  split
  · exact (moveTo_offPort _ _).trans (moveTo_offPort _ _)
  · exact moveTo_offPort _ _

theorem unloadTest_offPort : OffPort s (unloadTest s) := by
  unfold unloadTest
  exact OffPort.ite ((OffPort.ite (release_offPort _) (OffPort.refl s)).trans (moveTo_offPort _ _)) (OffPort.refl s)

theorem rampArrived_offPort : OffPort s (rampArrived s) := by
  unfold rampArrived
  split
  · exact OffPort.refl s
  · exact OffPort.ite ((setValve_offPort _).trans unloadTest_offPort) (OffPort.refl s)

theorem enterUnload_offPort (staged : Bool) : OffPort s (enterUnload staged s) :=
  rampArrived_offPort.after ((moveTo_offPort _ _).trans (OffPort.sequencer_of_eq rfl rfl))

theorem endFlush_offPort : OffPort s (endFlush s) := by
  have h : OffPort s (startRest s) := startRest_offPort
  exact OffPort.ite (h.trans (moveTo_offPort _ _)) (OffPort.ite (h.trans (moveTo_offPort _ _))
    (OffPort.ite (h.trans (moveTo_offPort _ _)) (h.trans enterRest_offPort)))

theorem leaveStart_offPort : OffPort s (leaveStart s) := by
  unfold leaveStart
  split
  · exact moveTo_offPort _ _
  · exact enterUnload_offPort _
  · exact enterUnload_offPort _
  · exact OffPort.refl s

theorem abortStart_offPort : OffPort s (abortStart s) :=
  OffPort.ite ((release_offPort _).trans leaveStart_offPort) (OffPort.refl s)

theorem overflowCheck_offPort : OffPort s (overflowCheck s) :=
  OffPort.ite (OffPort.ite (enterUnload_offPort _) abortStart_offPort) (OffPort.refl s)

theorem sequencerTrip_offPort : OffPort s (sequencerTrip s) := by
  unfold sequencerTrip
  split
  iterate 5 exact (release_offPort _).trans (moveTo_offPort _ _)
  · exact OffPort.ite (OffPort.refl s) (startRest_offPort.trans (moveTo_offPort _ _))
  iterate 3 exact moveTo_offPort _ _
  iterate 3 exact OffPort.refl s

theorem leaveTripped_offPort : OffPort s (leaveTripped s) := by
  have h : OffPort s (startRest s) := startRest_offPort
  exact OffPort.ite (OffPort.ite (h.trans (moveTo_offPort _ _)) (OffPort.ite (h.trans (moveTo_offPort _ _))
    (h.trans (moveTo_offPort _ _)))) (OffPort.refl s)

theorem divertQuality_offPort : OffPort s (divertQuality s) := by
  unfold divertQuality
  split
  · exact OffPort.refl s
  · exact OffPort.ite (OffPort.sequencer_of_eq rfl rfl) (OffPort.refl s)

theorem pressurizeTest_offPort : OffPort s (pressurizeTest s) := by
  unfold pressurizeTest
  split
  · exact OffPort.refl s
  · exact OffPort.ite (OffPort.ite ((moveTo_offPort _ _).trans divertQuality_offPort) (moveTo_offPort _ _))
      (OffPort.refl s)

theorem takeGrant_offPort (k : Kind) : OffPort s (takeGrant k s) := by
  unfold takeGrant
  split
  · exact (moveTo_offPort _ _).trans overflowCheck_offPort
  · exact OffPort.ite (enterUnload_offPort _) (release_offPort _)
  · exact OffPort.refl s

theorem integrate_offPort : OffPort s (integrate s) := by
  unfold integrate
  split
  · refine OffPort.sequencer ⟨id, id, id, fun _ => ⟨Nat.mod_lt _ (by decide), Nat.mod_lt _ (by decide)⟩⟩ rfl
  · exact OffPort.refl s

/-! ## Protection and withhold -/

theorem satInc_le (max n : Nat) : satInc max n ≤ max := by
  rw [satInc_eq_min]
  exact Nat.min_le_left _ _

theorem le_satInc {max n : Nat} (h : n ≤ max) : n ≤ satInc max n := by
  rw [satInc_eq_min]
  omega

/-- The count of a cause that arrives rises by 1 and stays at 63. -/
theorem countCause_offPort (c : Cause) :
    OffPort s { s with protection :=
      { s.protection with counts := s.protection.counts.put c (satInc 63 (s.protection.counts.get c)) } } := by
  have rises : ∀ k, s.protection.counts.get k ≤ 63 →
      s.protection.counts.get k ≤ (s.protection.counts.put c (satInc 63 (s.protection.counts.get c))).get k ∧
        (s.protection.counts.put c (satInc 63 (s.protection.counts.get c))).get k ≤ 63 := fun k h => by
    by_cases e : k = c
    · subst e
      rw [PerCause.get_put_self]
      exact ⟨le_satInc h, satInc_le _ _⟩
    · rw [PerCause.get_put_of_ne _ _ e]
      exact ⟨Nat.le_refl _, h⟩
  exact OffPort.of_kept ((protection_frame _).mono (by decide)) (Logged.of_eq rfl rfl rfl) rfl rfl rfl (fun _ => id) rises
    (fun k => ⟨k.stages, k.failures, k.starts, k.runTime, k.totalizer, fun x => (rises x (k.counts x)).2, k.line,
      k.errors⟩) fun k => k.congr rfl rfl id rfl

/-- A latch is set. -/
theorem setLatch_offPort (c : Cause) :
    OffPort s { s with protection := { s.protection with latches := s.protection.latches.put c true } } := by
  refine OffPort.of_kept ((protection_frame _).mono (by decide)) (Logged.of_eq rfl rfl rfl) rfl rfl rfl (fun k h => ?_)
    counts_kept (fun k => ⟨k.stages, k.failures, k.starts, k.runTime, k.totalizer, k.counts, k.line, k.errors⟩)
    fun k => k.congr rfl rfl id rfl
  by_cases e : k = c
  · subst e
    exact PerCause.get_put_self _ _ _
  · exact (PerCause.get_put_of_ne _ _ e).trans h

theorem arrive_offPort (c : Cause) : OffPort s (arrive c s) := by
  unfold arrive
  dsimp only
  exact OffPort.ite (countCause_offPort c)
    ((((countCause_offPort c).trans (setLatch_offPort c)).trans (raiseOwn_offPort _ _)).trans sequencerTrip_offPort)

theorem arriveIf_offPort (now before : Bool) (c : Cause) : OffPort s (arriveIf now before c s) :=
  OffPort.ite (arrive_offPort c) (OffPort.refl s)

theorem judgeExternal_offPort : OffPort s (judgeExternal s) :=
  (OffPort.protection (q := { s.protection with extFlag := s.pins.tripIn }) rfl rfl).trans (arriveIf_offPort _ _ _)

theorem judgeDriveFault_offPort : OffPort s (judgeDriveFault s) :=
  (OffPort.protection (q := { s.protection with driveFlag := s.driveFault }) rfl rfl).trans (arriveIf_offPort _ _ _)

theorem judgeHighPressure_offPort : OffPort s (judgeHighPressure s) := by
  unfold judgeHighPressure
  split
  · exact OffPort.refl s
  · exact (arriveIf_offPort _ _ _).after (OffPort.protection rfl rfl)

theorem judgePortLoss_offPort : OffPort s (judgePortLoss s) :=
  (OffPort.protection (q := { s.protection with portFlag := s.port.state.isLost }) rfl rfl).trans
    (arriveIf_offPort _ _ _)

theorem judgeAfresh_offPort : OffPort s (judgeAfresh s) :=
  judgePortLoss_offPort.after (judgeHighPressure_offPort.after (judgeDriveFault_offPort.after
    (judgeExternal_offPort.after (OffPort.protection rfl rfl))))

theorem withholdRises_offPort : OffPort s (withholdRises s) := by
  unfold withholdRises
  split
  iterate 2 exact moveTo_offPort _ _
  iterate 3 exact abortStart_offPort
  exact OffPort.refl s

theorem withholdFalls_offPort : OffPort s (withholdFalls s) := by
  unfold withholdFalls
  split
  · exact enterRest_offPort
  · exact OffPort.refl s

theorem withheldStopRequest_offPort : OffPort s (withheldStopRequest s) :=
  OffPort.ite (request_offPort _) (OffPort.refl s)

theorem withholdChanged_offPort (was arose : Bool) : OffPort s (withholdChanged was arose s) := by
  have h : OffPort s
      (if !was && s.withheld then withholdRises s else if was && !s.withheld then withholdFalls s else s) :=
    OffPort.ite withholdRises_offPort (OffPort.ite withholdFalls_offPort (OffPort.refl s))
  exact OffPort.ite (OffPort.ite (h.trans withheldStopRequest_offPort) h) (OffPort.refl s)

theorem OffPort.roster {q : Roster} : OffPort s { s with roster := q } := OffPort.of_frame (roster_frame q) (by decide)

theorem setMinority_offPort (v : Bool) : OffPort s (setMinority v s) :=
  OffPort.ite (OffPort.refl s)
    (((OffPort.roster (q := { s.roster with minority := v })).trans (raiseOwn_offPort _ _)).trans
      (withholdChanged_offPort _ _))

theorem minorityTest_offPort : OffPort s (minorityTest s) := OffPort.ite (setMinority_offPort _) (OffPort.refl s)

/-! ## Level, demand and roster -/

theorem OffPort.demand {q : Demand} : OffPort s { s with demand := q } := OffPort.of_frame (demand_frame q) (by decide)

theorem judgeLevel_offPort : OffPort s (judgeLevel s) := by
  unfold judgeLevel
  split
  · exact OffPort.refl s
  · split
    · exact OffPort.ite (OffPort.demand.trans (raiseOwn_offPort _ _)) OffPort.demand
    · exact OffPort.ite (OffPort.refl s) OffPort.demand

theorem loseLevel_offPort : OffPort s (loseLevel s) := OffPort.demand.trans (raiseOwn_offPort _ _)

theorem limitQreq_offPort : OffPort s (limitQreq s) := OffPort.of_frame limitQreq_frame (by decide)

theorem sampleProfile_offPort : OffPort s (sampleProfile s) :=
  OffPort.ite (OffPort.refl s) ((OffPort.demand.trans (raiseOwn_offPort _ _)).trans limitQreq_offPort)

theorem refreshSnapshots_offPort : OffPort s (refreshSnapshots s) := OffPort.roster

theorem setSnapshots_offPort : OffPort s (setSnapshots s) := OffPort.roster

theorem demandPath_offPort : OffPort s (demandPath s) := by
  unfold demandPath
  split
  · split
    · exact OffPort.refl s
    · split
      · exact setSnapshots_offPort.trans OffPort.demand
      · exact refreshSnapshots_offPort.trans OffPort.demand
  · exact OffPort.refl s

theorem stopEstimator_offPort : OffPort s (stopEstimator s) :=
  (OffPort.demand (q := (stopEstimator s).demand)).trans (OffPort.roster (q := (stopEstimator s).roster))

theorem setEntry_offPort (i : Station) (e : Entry) : OffPort s (setEntry i e s) := OffPort.roster

theorem raisePeer_offPort (k : EventKind) (i : Station) (detail : Nat) : OffPort s (raisePeer k i detail s) :=
  raise_offPort _ _ _

theorem rosterChanged_offPort (changed : Bool) : OffPort s (rosterChanged changed s) :=
  OffPort.ite (judgeLevel_offPort.trans minorityTest_offPort) judgeLevel_offPort

theorem takeTally_offPort (i : Station) (b : TallyBody) : OffPort s (takeTally i b s) := by
  unfold takeTally
  dsimp only
  refine (rosterChanged_offPort _).after ?_
  split
  · refine OffPort.trans ?_ (raisePeer_offPort _ _ _)
    split
    · exact (raisePeer_offPort _ _ _).after (setEntry_offPort _ _)
    · exact setEntry_offPort _ _
  · split
    · exact (raisePeer_offPort _ _ _).after (setEntry_offPort _ _)
    · exact setEntry_offPort _ _

theorem goStale_offPort (i : Station) : OffPort s (goStale i s) :=
  (setEntry_offPort _ _).trans (raisePeer_offPort _ _ _)

theorem dropPeer_offPort (i : Station) : OffPort s (dropPeer i s) :=
  (setEntry_offPort _ _).trans (raisePeer_offPort _ _ _)

theorem compareSilence_offPort (i : Station) : OffPort s (compareSilence s i) := by
  have h : OffPort s (if s.canGoStale i && silentFor 4 s.roster.entries[i] s then goStale i s else s) :=
    OffPort.ite (goStale_offPort i) (OffPort.refl s)
  exact OffPort.ite (h.trans (dropPeer_offPort i)) h

/-- An operation repeated for each of a list keeps what one keeps. -/
theorem OffPort.foldl {α : Type} {f : State → α → State} (h : ∀ s a, OffPort s (f s a)) (l : List α) :
    OffPort s (l.foldl f s) := by
  induction l generalizing s with
  | nil => exact OffPort.refl s
  | cons a l ih => exact (h s a).trans ih

theorem compareSilences_offPort : OffPort s (compareSilences s) := by
  have h : OffPort s (stations.foldl compareSilence s) := OffPort.foldl (fun _ => compareSilence_offPort) _
  exact OffPort.ite h (h.trans (rosterChanged_offPort _))

theorem rejudgeEntry_offPort (old : Word16) (i : Station) : OffPort s (rejudgeEntry old s i) := by
  unfold rejudgeEntry
  dsimp only
  split
  · exact OffPort.refl s
  · split
    · exact OffPort.ite (OffPort.refl s) ((setEntry_offPort _ _).trans (raisePeer_offPort _ _ _))
    · exact OffPort.ite (setEntry_offPort _ _) (OffPort.refl s)
    · exact OffPort.ite (setEntry_offPort _ _) (OffPort.refl s)
    · exact OffPort.refl s

theorem rejudge_offPort (old : Word16) : OffPort s (rejudge old s) :=
  OffPort.foldl (fun _ => rejudgeEntry_offPort old) _

/-! ## Staging -/

theorem computeShare_offPort : OffPort s (computeShare s) := by
  unfold computeShare
  split
  · exact OffPort.ite (setSp_offPort _) (OffPort.refl s)
  · exact OffPort.refl s

theorem resetCounters_offPort : OffPort s (resetCounters s) := OffPort.staging (fun _ => Nat.zero_le _) fun _ => Nat.zero_le _

theorem countStages_le (up down : Bool) (st : Staging) :
    (countStages up down st).up ≤ 255 ∧ (countStages up down st).down ≤ 255 := by
  unfold countStages
  split
  · exact ⟨satInc_le _ _, Nat.zero_le _⟩
  · split
    · exact ⟨Nat.zero_le _, satInc_le _ _⟩
    · exact ⟨Nat.zero_le _, Nat.zero_le _⟩

theorem stageEvaluation_offPort (p : Params) (f : Profile) (lost : Bool) : OffPort s (stageEvaluation p f lost s) := by
  unfold stageEvaluation
  have start : ∀ s : State, OffPort s (startRequest p s) := fun s => OffPort.ite (request_offPort _) (OffPort.refl s)
  have stop : ∀ s : State, OffPort s (stopRequest p s) := fun s => OffPort.ite (request_offPort _) (OffPort.refl s)
  refine OffPort.ite resetCounters_offPort (OffPort.ite (OffPort.refl s) ?_)
  exact ((OffPort.staging (fun _ => (countStages_le _ _ _).1) fun _ => (countStages_le _ _ _).2).trans (start _)).trans
    (stop _)

theorem enterRunning_offPort : OffPort s (enterRunning s) := by
  unfold enterRunning
  dsimp only
  refine OffPort.trans ?_ overflowCheck_offPort
  refine OffPort.trans ?_ computeShare_offPort
  refine OffPort.trans ?_ judgeQualityTrip_offPort
  refine OffPort.trans ?_ (release_offPort _)
  exact (moveTo_offPort _ _).trans (OffPort.sequencer ⟨fun _ => Nat.zero_le _, id, id, id⟩ rfl)

theorem demandPeriod_offPort (p : Params) : OffPort s (demandPeriod p s) := by
  unfold demandPeriod
  dsimp only
  refine computeShare_offPort.after (withheldStopRequest_offPort.after ?_)
  have path := demandPath_offPort.after (sampleProfile_offPort.after (OffPort.demand (s := s)
    (q := { s.demand with periodTimer := startTimer s.time (seconds p.tD) })))
  split
  · exact (stageEvaluation_offPort _ _ _).after (OffPort.ite (path.trans overflowCheck_offPort) path)
  · exact OffPort.ite (path.trans overflowCheck_offPort) path

/-! ## The slot and the frames of other stations -/

theorem loseClaim_offPort (q : PendingView) (x : Station) (h : HeldView) : OffPort s (loseClaim q x h s) :=
  (viewHeld_offPort h).trans (raise_offPort _ _ _)

theorem unstage_offPort : OffPort s (unstage s) := OffPort.sequencer_of_eq rfl rfl

theorem withdrawSlot_offPort : OffPort s (withdrawSlot s) := OffPort.ite unstage_offPort leaveStart_offPort

theorem overrunSlot_offPort : OffPort s (overrunSlot s) :=
  OffPort.ite ((OffPort.ite enterRunning_offPort (OffPort.refl s)).trans (arrive_offPort _))
    (OffPort.ite unstage_offPort (OffPort.refl s))

theorem overrunHold_offPort (k : Kind) : OffPort s (overrunHold k s) :=
  ((viewFree_offPort.trans (queueYield_offPort _ _)).trans (raiseOwn_offPort _ _)).trans overrunSlot_offPort

theorem twoHolders_offPort (k : Kind) (x : Station) (uid : UnitId) (xk : Kind) (r : Nat) :
    OffPort s (twoHolders k x uid xk r s) :=
  OffPort.ite queueOccupied_offPort
    ((((viewHeld_offPort _).trans (queueYield_offPort _ _)).trans (raise_offPort _ _ _)).trans withdrawSlot_offPort)

theorem takeBid_offPort (x : Station) (b : BidBody) : OffPort s (takeBid x b s) := by
  unfold takeBid
  split
  · exact viewHeld_offPort _
  · exact OffPort.refl s
  · exact OffPort.ite queueOccupied_offPort (loseClaim_offPort _ _ _)
  · exact queueOccupied_offPort

theorem takeOccupied_offPort (x : Station) (b : OccupiedBody) : OffPort s (takeOccupied x b s) := by
  unfold takeOccupied
  split
  · exact viewHeld_offPort _
  · exact OffPort.ite (refreshHeld_offPort _ _ _) (viewHeld_offPort _)
  · exact loseClaim_offPort _ _ _
  · exact twoHolders_offPort _ _ _ _ _

theorem takeYield_offPort (x : Station) (b : YieldBody) : OffPort s (takeYield x b s) := by
  unfold takeYield
  have h : OffPort s { s with slot :=
      { s.slot with lastYield := some { station := x, outcome := b.outcome, kind := b.kind } } } := OffPort.slot id
  dsimp only
  split
  · exact OffPort.ite (h.trans viewFree_offPort) h
  · exact h

theorem takeReport_offPort (x : Station) (b : TallyBody) : OffPort s (takeReport x b s) := by
  unfold takeReport
  split
  · split
    · exact viewHeld_offPort _
    · exact OffPort.ite (refreshHeld_offPort _ _ _) (OffPort.ite (viewHeld_offPort _) (OffPort.refl s))
    · exact loseClaim_offPort _ _ _
    · exact twoHolders_offPort _ _ _ _ _
  · split
    · exact OffPort.ite viewFree_offPort (OffPort.refl s)
    · exact OffPort.refl s

theorem bidSent_offPort : OffPort s (bidSent s) := by
  unfold bidSent
  split
  · next h => exact OffPort.slot fun _ => by rw [h]; rfl
  · exact OffPort.refl s

/-- A claim that is won: only a part outside CONFLICT has one pending. -/
theorem winSlot_offPort {q : PendingView} (h : s.slot.view = .ownPending q) : OffPort s (winSlot q s) := by
  unfold winSlot
  refine OffPort.trans ?_ (takeGrant_offPort _)
  refine OffPort.trans ?_ (raiseOwn_offPort _ _)
  refine OffPort.claims (st := s.staging) id id ?_ fun _ own => ?_
  · rw [Line.withdrawBid, Line.withdraw_eq]
    exact id
  · rw [h] at own
    cases own

/-! ## CONFLICT -/

theorem windDown_offPort : OffPort s (windDown s) := by
  unfold windDown
  split
  iterate 4 exact moveTo_offPort _ _
  iterate 3 exact leaveStart_offPort
  · exact enterUnload_offPort _
  · exact unstage_offPort
  iterate 3 exact OffPort.refl s

/-- A line without frames stays so when the claims are withdrawn. -/
theorem Line.Silent.withdrawClaims {l : Line} (h : l.Silent) : l.withdrawClaims.Silent := by
  obtain ⟨set, tx, tally⟩ := h
  have empty : { l.set with bid := none, occupied := none }.isEmpty = true := by
    simp only [PendingSet.isEmpty, Bool.and_eq_true] at set ⊢
    exact ⟨⟨⟨set.1.1.1, rfl⟩, rfl⟩, set.2⟩
  rw [Line.withdrawClaims, Line.withdraw_eq]
  refine ⟨empty, ?_, tally⟩
  simp [Line.withdraw, Line.follow, tx, empty]

/-- An own claim or holding is dropped, in a part that stands silent but for it (R105). -/
theorem dropSlot_silent (silent : s.line.Silent) (ended : s.loadEnded = true) : ConflictLaw (dropSlot s) := by
  intro _
  unfold dropSlot
  split
  · next own =>
    obtain ⟨set, tx, tally⟩ := silent.withdrawClaims
    have line : (viewFree s).line = s.line.withdrawClaims := if_pos own
    rw [line]
    exact ⟨set, tx, tally, rfl, ended⟩
  · next own =>
    obtain ⟨set, tx, tally⟩ := silent
    exact ⟨set, tx, tally, Bool.eq_false_iff.mpr own, ended⟩

/-- The mark, the silence and the loss of the slot, together (R60, R105, R166). -/
theorem dropSlot_silenceLine_inTaking (ended : s.loadEnded = true) :
    InTaking s (dropSlot (silenceLine { s with sequencer := { s.sequencer with conflict := true } })) := by
  have dropped : ∀ u : State, OffPort u (dropSlot u) := fun _ => OffPort.ite viewFree_offPort (OffPort.refl _)
  have k := dropped (silenceLine { s with sequencer := { s.sequencer with conflict := true } })
  refine ⟨⟨fun b hb => ?_, Logged.trans ?_ k.logged, fun _ => k.mark, k.latches, k.counts, fun h => k.counters ?_, fun h =>
    k.portLaw (h.congr rfl rfl rfl rfl)⟩, k.loader, k.tcf, fun _ => dropSlot_silent ⟨rfl, rfl, rfl⟩ ended⟩
  · refine Block.same_trans ?_ (k.frame b hb)
    cases b <;> first | rfl | exact absurd (by decide) hb
  · exact Logged.of_eq rfl rfl rfl
  · exact ⟨h.stages, h.failures, h.starts, h.runTime, h.totalizer, h.counts, h.line, h.errors⟩

/-- Marking the part with its record is a record and the mark. -/
theorem noteChange_marked (before : State) :
    ∃ u, OffPort s u ∧ u.loader = s.loader ∧
      noteChange before { s with sequencer := { s.sequencer with conflict := true } } =
        { u with sequencer := { u.sequencer with conflict := true } } := by
  unfold noteChange
  split
  · exact ⟨s, OffPort.refl s, rfl, rfl⟩
  · exact ⟨_, raiseOwn_offPort _ _, rfl, rfl⟩

theorem enterConflict_inTaking (cls : Nat) (ended : s.loadEnded = true) : InTaking s (enterConflict cls s) := by
  unfold enterConflict
  split
  · exact InTaking.refl s
  · dsimp only
    obtain ⟨u, step, loader, eq⟩ := noteChange_marked (s := raiseOwn .duplicateStation cls s) s
    rw [eq]
    have ended' : u.loadEnded = true := by
      rw [State.loadEnded, loader]
      exact ended
    exact windDown_offPort.toInTaking.after ((dropSlot_silenceLine_inTaking ended').after
      (step.after (raiseOwn_offPort _ _)).toInTaking)

/-! ## Reception and sending -/

theorem countRxError_offPort : OffPort s (countRxError s) :=
  OffPort.line (fun h => ⟨satInc_le _ _, h.2⟩) fun _ => id

theorem lineIdle_offPort : OffPort s (lineIdle s) := OffPort.line id fun _ => id

theorem damagedAttempt_offPort {set : PendingSet} (h : s.line.tx ≠ .quiet) : OffPort s (damagedAttempt set s) :=
  OffPort.line (fun h => ⟨h.1, h.2.1, satInc_le _ _⟩) fun _ silent => absurd silent.2.1 h

theorem frameSent_offPort (f : TxFrame) (h : s.line.tx ≠ .quiet) : OffPort s (frameSent f s) := by
  have sent : OffPort s { s with line := { s.line with damage := 0 }.release } :=
    OffPort.line (fun h => ⟨h.1, h.2.1, Nat.zero_le _⟩) fun _ silent => absurd silent.2.1 h
  unfold frameSent
  dsimp only
  split
  · exact sent.trans bidSent_offPort
  · exact sent

theorem judgeEcho_offPort (rx : Option RxFrame) : OffPort s (judgeEcho rx s) := by
  unfold judgeEcho
  split
  · next f echo =>
    have busy : s.line.tx ≠ .quiet := by simp [echo]
    exact OffPort.ite (frameSent_offPort f busy) (damagedAttempt_offPort busy)
  · exact OffPort.refl s

theorem handOnForeign_offPort (f : RxFrame) : OffPort s (handOnForeign f s) := by
  unfold handOnForeign
  split
  · exact OffPort.ite ((takeTally_offPort _ _).trans (takeReport_offPort _ _)) countRxError_offPort
  · split
    · exact takeOccupied_offPort _ _
    · exact countRxError_offPort
  · split
    · exact takeYield_offPort _ _
    · exact countRxError_offPort
  iterate 2
    split
    · exact takeBid_offPort _ _
    · exact countRxError_offPort
  · exact OffPort.refl s

theorem handOn_inTaking (f : RxFrame) : InTaking s (handOn f s) := by
  unfold handOn
  split
  · exact InTaking.refl s
  · next ended =>
    exact InTaking.ite (InTaking.ite (InTaking.refl s) (enterConflict_inTaking _ (by simpa using ended)))
      (handOnForeign_offPort f).toInTaking

theorem receiveFrame_inTaking (rx : List RxChar) : InTaking s (receiveFrame rx s) := by
  have idle : InTaking s (lineIdle s) := lineIdle_offPort.toInTaking
  unfold receiveFrame
  split
  · exact (finish_inTaking s).after ((judgeEcho_offPort _).toInTaking.after idle)
  · exact (finish_inTaking s).after ((judgeEcho_offPort _).toInTaking.after (countRxError_offPort.toInTaking.after idle))
  · exact (finish_inTaking s).after ((handOn_inTaking _).after ((judgeEcho_offPort _).toInTaking.after idle))

/-- A running tally timer is that of a part outside CONFLICT: the law itself says so. -/
theorem sendTally_offPort (h : s.line.tally.isSome = true) : OffPort s (sendTally s) := by
  unfold sendTally queueTally queueFrame
  split
  · refine OffPort.line id fun _ silent => ?_
    rw [silent.2.2] at h
    cases h
  · next clear =>
    dsimp only
    refine OffPort.line ?_ fun mark => absurd mark clear
    rw [Line.follow_eq]
    exact id

theorem compareTally_offPort : OffPort s (compareTally s) := by
  unfold compareTally
  split
  · next timer =>
    have runs : s.line.tally.isSome = true := by simp [timer]
    refine OffPort.ite (OffPort.refl s) (OffPort.ite (sendTally_offPort runs) (OffPort.line id fun _ silent => ?_))
    rw [silent.2.2] at runs
    cases runs
  · exact OffPort.refl s

end Sys2Proof.Machine
end

section
/-! What the operations of the Train Port, of a load and of a reload keep, and so every command (O3 to O7 and the laws of
counters, queue, port and silence follow). -/

namespace Sys2Proof.Machine

open Sys2Proof

variable {s t u : State}

/-! ## The Train Port -/

/-- The port law of a port that is neither LOST nor waits for a retry. -/
theorem PortLaw.of_connected {q : Port} (connected : q.state.isLost = false) (retry : q.retryTimer = none)
    (errors : q.errors < 3) : PortLaw { s with port := q } := by
  refine ⟨fun lost => ?_, ?_, fun _ => errors⟩
  · simp only [connected] at lost
    cases lost
  · simp only [retry, Option.isSome_none, Bool.false_eq_true, false_iff]
    rintro lost
    simp [lost, PortState.isLost] at connected

/-- With the port not LOST the retry timer is stopped. -/
theorem PortLaw.retry_none (h : PortLaw s) (connected : s.port.state.isLost = false) : s.port.retryTimer = none := by
  by_contra runs
  have lost := h.retry.mp (Option.isSome_iff_ne_none.mpr runs)
  simp [lost, PortState.isLost] at connected

theorem stopQuality_offPort : OffPort s (stopQuality s) := OffPort.sequencer_of_eq rfl rfl

theorem channelsLost_offPort : OffPort s (channelsLost s) :=
  (stopQuality_offPort.trans judgeLevel_offPort).trans judgeInstrument_offPort

theorem handSample_offPort (c : Channel) (valid : Bool) : OffPort s (handSample c valid s) := by
  have flow : OffPort s (rampArrived (trimSample valid s)) := (trimSample_offPort _).trans rampArrived_offPort
  unfold handSample
  split
  · exact OffPort.ite judgeLowSuction_offPort (OffPort.refl s)
  · exact judgeInstrument_offPort.after (OffPort.ite ((flow.trans pressurizeTest_offPort).trans integrate_offPort) flow)
  · exact OffPort.ite ((qualitySample_offPort.trans divertQuality_offPort).trans judgeQualityTrip_offPort)
      stopQuality_offPort
  · exact OffPort.ite temperatureSample_offPort (OffPort.refl s)
  · exact judgeLevel_offPort
  · exact OffPort.ite ((pressureSample_offPort.trans pressurizeTest_offPort).trans judgeHighPressure_offPort)
      (OffPort.refl s)
  · exact OffPort.ite (unloadTest_offPort.trans judgeDriveFault_offPort) (OffPort.refl s)
  · exact OffPort.refl s

/-- The loss of the port, before it is judged: LOST, every channel invalid, the retry timer running. -/
theorem lost_inTaking {q : Port} (errors : s.port.errors ≤ 255 → q.errors ≤ 255) (state : q.state = .lost none)
    (channels : ∀ c : Channel, q.channels[c].invalidSince.isNone = false) (retry : q.retryTimer.isSome = true) :
    InTaking s { s with port := q } :=
  InTaking.port errors fun _ => ⟨fun _ => channels, ⟨fun _ => state, fun _ => retry⟩, fun connected => by
    simp [state, PortState.isLost] at connected⟩

/-- A channel entry that takes no value is invalid. -/
theorem ChannelEntry.after_none_invalid (e : ChannelEntry) (now : Nat) : (e.after now none).invalidSince.isNone = false := by
  cases h : e.invalidSince <;> simp [ChannelEntry.after, h]

/-- An update of the port alone. -/
theorem eq_with_port (h : changesOnly [.port] s t) : t = { s with port := t.port } := by
  have same : ∀ b : Block, b ∉ [Block.port] → b.same s t := h
  obtain ⟨⟩ := s
  obtain ⟨⟩ := t
  have a1 := same .time (by decide)
  have a2 := same .ident (by decide)
  have a3 := same .pins (by decide)
  have a4 := same .demand (by decide)
  have a5 := same .capability (by decide)
  have a6 := same .roster (by decide)
  have a7 := same .staging (by decide)
  have a8 := same .slot (by decide)
  have a9 := same .sequencer (by decide)
  have b1 := same .trim (by decide)
  have b2 := same .protection (by decide)
  have b3 := same .line (by decide)
  have b4 := same .loader (by decide)
  have b5 := same .lport (by decide)
  have b6 := same .queue (by decide)
  have b7 := same .pending (by decide)
  simp only [Block.same] at a1 a2 a3 a4 a5 a6 a7 a8 a9 b1 b2 b3 b4 b5 b6 b7
  subst_vars
  rfl

/-- The loss of the port as `enterLost` makes it, before it is judged. -/
def losePort (s : State) : State :=
  { s with port :=
    { s.port with
      state := .lost none
      channels := s.port.channels.map fun e => e.after s.time none
      retryTimer := startTimer s.time (seconds 1) } }

theorem enterLost_eq (k : TxnKind) :
    enterLost k s =
      channelsLost (if s.loadEnded then judgePortLoss (raiseOwn .portLost k.number (losePort s))
        else raiseOwn .portLost k.number (losePort s)) := rfl

theorem enterLost_inTaking (k : TxnKind) : InTaking (losePort s) (enterLost k s) := by
  rw [enterLost_eq]
  have raised : OffPort (losePort s) (raiseOwn .portLost k.number (losePort s)) := raiseOwn_offPort _ _
  exact (channelsLost_offPort.after (OffPort.ite (raised.trans judgePortLoss_offPort) raised)).toInTaking

/-- A transaction in error, before the loss of the port is looked at: counted, a write given back. -/
def countError (k : TxnKind) (s : State) : State :=
  giveBackWrite k { s with port := { s.port with state := .idle, errors := satInc 255 s.port.errors, pendRead := none } }

theorem portError_eq (k : TxnKind) :
    portError k s = if 3 ≤ satInc 255 s.port.errors then enterLost k (countError k s) else countError k s := rfl

theorem countError_eq (k : TxnKind) :
    countError k s =
      { s with port :=
        { s.port with
          state := .idle, errors := satInc 255 s.port.errors, pendRead := none
          pendValve := (countError k s).port.pendValve, pendSpeed := (countError k s).port.pendSpeed } } := by
  cases k <;> rfl

theorem portError_inTaking (k : TxnKind) (connected : s.port.state.isLost = false) : InTaking s (portError k s) := by
  rw [portError_eq]
  split
  · refine (enterLost_inTaking k).after ?_
    rw [countError_eq]
    exact lost_inTaking (fun _ => satInc_le _ _) rfl (fun c => by simp [ChannelEntry.after_none_invalid]) rfl
  · next few =>
    rw [countError_eq]
    exact InTaking.port (fun _ => satInc_le _ _) fun h =>
      .of_connected rfl (h.retry_none connected) (Nat.lt_of_not_le few)

theorem readDone_inTaking (n : Channel) (connected : s.port.state.isLost = false) : InTaking s (readDone n s) :=
  InTaking.port (fun _ => Nat.zero_le _) fun h => .of_connected rfl (h.retry_none connected) (Nat.zero_lt_succ 2)

/-- A sample stored in a port that is not LOST. -/
theorem setChannel_inTaking (c : Channel) (e : ChannelEntry) (connected : s.port.state.isLost = false) :
    InTaking s (setChannel c e s) :=
  InTaking.port id fun h => .of_connected connected (h.retry_none connected) (h.errors connected)

theorem takeWord_inTaking (n : Channel) (st : PortSettings) (w : Word16) (connected : s.port.state.isLost = false) :
    InTaking s (takeWord n st w s) := by
  unfold takeWord
  split
  · exact readDone_inTaking n connected
  · exact InTaking.ite ((portError_inTaking _ (s := setChannel _ _ s) connected).after (setChannel_inTaking _ _ connected))
      ((handSample_offPort _ _).toInTaking.after ((readDone_inTaking n (s := setChannel _ _ s) connected).after
        (setChannel_inTaking _ _ connected)))

theorem restorePort_inTaking (n : Channel) : InTaking s (restorePort n s) := by
  have restored : InTaking s (raiseOwn .portRestored n.val
      { s with port :=
        { s.port with
          state := .idle
          retryTimer := none
          errors := 0
          pendRead := some n
          pointer := nextEnabled s.portSettings.mask s.port.pointer
          pendValve := some s.sequencer.valve
          pendSpeed := some s.trim.s } }) :=
    (raiseOwn_offPort _ _).toInTaking.after (InTaking.port (fun _ => Nat.zero_le _) fun _ => .of_connected rfl rfl (Nat.zero_lt_succ 2))
  exact InTaking.ite (restored.trans judgePortLoss_offPort.toInTaking) restored

theorem retryFailed_inTaking {x : Txn} (lost : s.port.state = .lost (some x)) : InTaking s (retryFailed s) :=
  InTaking.port (fun _ => satInc_le _ _) fun h => by
    refine ⟨fun _ => h.channels (by rw [lost]; rfl), ⟨fun _ => rfl, fun _ => rfl⟩, fun connected => ?_⟩
    cases connected

theorem execRetryTimerExpiry_inTaking (h : execRetryTimerExpiry s = .next t) : InTaking s t := by
  unfold execRetryTimerExpiry at h
  split at h
  · next lost _ =>
    cases h
    refine InTaking.port id fun law => ⟨fun _ => law.channels (by rw [lost]; rfl), ?_, fun connected => by cases connected⟩
    simp
  · cases h
    exact InTaking.refl _

/-! ## Loads -/

theorem install_steady (i : Image) : Steady s (install i s) :=
  ⟨fun b hb => by cases b <;> first | rfl | exact absurd (by decide) hb, Logged.of_eq rfl rfl rfl, id, fun _ => id,
    counts_kept, fun k => k.congr rfl rfl rfl rfl rfl, fun k => k.congr rfl rfl rfl rfl⟩

/-- An update of the Loader. -/
theorem Steady.loader {q : Loader} : Steady s { s with loader := q } :=
  ⟨fun b hb => by cases b <;> first | rfl | exact absurd (by decide) hb, Logged.of_eq rfl rfl rfl, id, fun _ => id,
    counts_kept, fun k => k.congr rfl rfl rfl rfl rfl, fun k => k.congr rfl rfl rfl rfl⟩

/-- An update of the line that keeps its counters. -/
theorem Steady.line {q : Line} (counters : s.line.CountersKept q) : Steady s { s with line := q } :=
  ⟨fun b hb => by cases b <;> first | rfl | exact absurd (by decide) hb, Logged.of_eq rfl rfl rfl, id, fun _ => id,
    counts_kept, fun k => ⟨k.stages, k.failures, k.starts, k.runTime, k.totalizer, k.counts, counters k.line, k.errors⟩,
    fun k => k.congr rfl rfl rfl rfl⟩

theorem startTallyTimer_steady : Steady s (startTallyTimer s) := Steady.line id

theorem adoptPortSettings_inTaking : InTaking s (adoptPortSettings s) := InTaking.port id fun h => h.congr rfl rfl rfl rfl

/-- The bytes of a field hold less than its width allows. -/
theorem fieldAt_lt (l : List Byte) (off n : Nat) : fieldAt l off n < 256 ^ n := by
  have bytes : ∀ (l : List Byte) (a : Nat), l.foldl (fun acc b => acc * 256 + b.toNat) a < (a + 1) * 256 ^ l.length := by
    intro l
    induction l with
    | nil => intro a; simp
    | cons b l ih =>
      intro a
      refine (ih _).trans_le ?_
      rw [List.length_cons, Nat.pow_succ, Nat.mul_comm (256 ^ l.length) 256, ← Nat.mul_assoc]
      refine Nat.mul_le_mul_right _ ?_
      have := b.isLt
      dsimp only
      omega
  refine (bytes _ 0).trans_le ?_
  rw [Nat.zero_add, Nat.one_mul]
  exact Nat.pow_le_pow_right (by decide) (by simp [List.length_take])

/-- A valid image is the image of its bytes, and passes its checks (R191). -/
theorem checkImage_valid {image : List Byte} {i : Image} (h : checkImage image = .valid i) :
    i = { params := paramsOf (imageBytes image), tcf := tcfOf (imageBytes image), preload := preloadOf (imageBytes image),
          signature := crc (sectionData (imageBytes image) 4 35) } ∧
      rangesOk (imageBytes image) = true ∧ crossChecksOk i.params = true := by
  unfold checkImage at h
  dsimp only at h
  repeat' split at h
  iterate 8 cases h
  next ranges cross =>
    cases h
    exact ⟨rfl, by simpa using ranges, by simpa using cross⟩

/-- The preload values are in the counters' ranges. -/
theorem applyPreload_counters {image : List Byte} {i : Image} (h : checkImage image = .valid i) :
    Steady s (applyPreload i.preload s) := by
  obtain ⟨rfl, -, -⟩ := checkImage_valid h
  have counters : s.sequencer.CountersKept (applyPreload (preloadOf (imageBytes image)) s).sequencer := by
    refine ⟨id, fun _ => ?starts, fun _ => ⟨?seconds, ?ticks⟩, fun _ => ⟨?totalizer, ?rem⟩⟩
    case starts => exact Nat.le_of_lt_succ (fieldAt_lt (imageBytes image) 263 2)
    case seconds =>
      have := fieldAt_lt (imageBytes image) 259 4
      simp only [applyPreload, preloadOf, maxRunSeconds]
      omega
    case totalizer => exact fieldAt_lt (imageBytes image) 265 4
    case ticks | rem => exact Nat.zero_lt_succ _
  exact (OffPort.sequencer counters rfl).toSteady

theorem startEstimator_offPort (p : Params) : OffPort s (startEstimator p s) := OffPort.demand

theorem startJoinWait_offPort : OffPort s (startJoinWait s) := OffPort.slot id

theorem judgeWithheld_offPort : OffPort s (judgeWithheld s) := OffPort.ite withholdRises_offPort (OffPort.refl s)

theorem loadSucceeded_steady {image : List Byte} {i : Image} (h : checkImage image = .valid i) :
    Steady s (loadSucceeded i s) := by
  unfold loadSucceeded
  dsimp only
  refine minorityTest_offPort.toSteady.after (adoptPortSettings_inTaking.toSteady.after
    (recompute_offPort.toSteady.after (judgeAfresh_offPort.toSteady.after (judgeWithheld_offPort.toSteady.after
      (startRest_offPort.toSteady.after (startJoinWait_offPort.toSteady.after ((startEstimator_offPort _).toSteady.after
        (startTallyTimer_steady.after ((applyPreload_counters h).after ((raiseOwn_offPort _ _).toSteady.after
          (install_steady i)))))))))))

theorem loadFailed_steady (r : Nat) : Steady s (loadFailed r s) := by
  unfold loadFailed
  dsimp only
  exact judgePortLoss_offPort.toSteady.after (judgeExternal_offPort.toSteady.after (startTallyTimer_steady.after
    ((moveTo_offPort _ _).toSteady.after ((raiseOwn_offPort _ _).toSteady.after Steady.loader))))

/-! ## Reloads -/

theorem compareGap_offPort : OffPort s (compareGap s) := by
  unfold compareGap
  split
  · exact OffPort.slot id
  · exact OffPort.refl s

theorem compareRest_offPort (p : Params) : OffPort s (compareRest p s) := by
  unfold compareRest
  split
  · dsimp only
    have marked : OffPort s { s with sequencer := { s.sequencer with rest := .expired } } := OffPort.sequencer_of_eq rfl rfl
    exact OffPort.ite (OffPort.ite (marked.trans (moveTo_offPort _ _)) marked) (OffPort.sequencer_of_eq rfl rfl)
  · exact OffPort.refl s

theorem retimeLevelLost_offPort (p : Params) : OffPort s (retimeLevelLost p s) := by
  unfold retimeLevelLost
  split
  · exact OffPort.ite loseLevel_offPort OffPort.demand
  · exact OffPort.refl s

theorem reloadEstimator_offPort (p : Params) : OffPort s (reloadEstimator p s) :=
  (retimeLevelLost_offPort p).after (limitQreq_offPort.after OffPort.demand)

theorem leaveUnconfigured_offPort : OffPort s (leaveUnconfigured s) :=
  ((startJoinWait_offPort.trans startRest_offPort).trans (moveTo_offPort _ _)).trans judgeAfresh_offPort

/-- What a successful reload does after the install and its record. -/
theorem reloadSucceeded_inTaking (i : Image) :
    InTaking (raiseOwn .configLoaded 1 (install i s)) (reloadSucceeded i s) := by
  unfold reloadSucceeded
  dsimp only
  generalize raiseOwn .configLoaded 1 (install i s) = u
  have judged : OffPort u (minorityTest (rejudge s.loader.signature u)) := (rejudge_offPort _).trans minorityTest_offPort
  have estimated := OffPort.ite (c := s.configured = true) (judged.trans (reloadEstimator_offPort i.params))
    (judged.trans ((startEstimator_offPort i.params).trans judgeLevel_offPort))
  have waiting := compareGap_offPort.after ((cancelRequest_offPort (some .aborted)).after (resetCounters_offPort.after
    (recompute_offPort.after estimated)))
  exact compareTally_offPort.toInTaking.after (adoptPortSettings_inTaking.after (compareSilences_offPort.toInTaking.after
    (OffPort.ite (waiting.trans (compareRest_offPort i.params)) (waiting.trans leaveUnconfigured_offPort)).toInTaking))

theorem dropJoinWait_offPort : OffPort s (dropJoinWait s) := OffPort.slot id

theorem stopProtection_offPort : OffPort s (stopProtection s) := OffPort.protection rfl rfl

theorem stopCapability_offPort : OffPort s (stopCapability s) := OffPort.capability rfl

theorem trainUnconfigured_offPort : OffPort s (trainUnconfigured s) :=
  (moveTo_offPort _ _).trans (OffPort.sequencer_of_eq rfl rfl)

/-- What a failed reload of a configured part does after the parameter set is gone and CONFIG_FAILED raised. -/
theorem enterUnconfigured_inTaking (r : Nat) :
    InTaking { s with loader := { s.loader with phase := .idle, params := none, signature := 0 } }
      (enterUnconfigured r s) := by
  unfold enterUnconfigured
  dsimp only
  exact (compareTally_offPort.after (compareSilences_offPort.after (dropJoinWait_offPort.after
    (stopProtection_offPort.after (resetCounters_offPort.after (stopCapability_offPort.after (stopEstimator_offPort.after
      ((rejudge_offPort _).after ((setMinority_offPort _).after ((cancelRequest_offPort _).after
        (trainUnconfigured_offPort.after (raiseOwn_offPort _ _)))))))))))).toInTaking

/-- A change of the Loader that leaves it idle keeps the silence. -/
theorem ConflictLaw.loader {q : Loader} (h : ConflictLaw s) (idle : q.phase = .idle) :
    ConflictLaw { s with loader := q } := fun mark => by
  obtain ⟨set, tx, tally, own, -⟩ := h mark
  exact ⟨set, tx, tally, own, by simp [State.loadEnded, idle]⟩

theorem install_silence {i : Image} (h : ConflictLaw s) : ConflictLaw (install i s) := fun mark => by
  obtain ⟨set, tx, tally, own, -⟩ := h mark
  exact ⟨set, tx, tally, own, rfl⟩

theorem endReload_keeps (image : List Byte) :
    Steady s (endReload image s) ∧ (ConflictLaw s → ConflictLaw (endReload image s)) := by
  have dropped : ∀ r, Steady s (reloadDropped r s) ∧ (ConflictLaw s → ConflictLaw (reloadDropped r s)) := fun r =>
    ⟨(raiseOwn_offPort _ _).toSteady.after Steady.loader, fun h => (raiseOwn_offPort _ _).silence (h.loader rfl)⟩
  unfold endReload
  split
  · exact dropped 9
  · split
    · next i _ =>
      exact ⟨(reloadSucceeded_inTaking i).toSteady.after ((raiseOwn_offPort _ _).toSteady.after (install_steady i)),
        fun h => (reloadSucceeded_inTaking i).silence ((raiseOwn_offPort _ _).silence (install_silence h))⟩
    · next r _ =>
      split
      · exact ⟨(enterUnconfigured_inTaking r).toSteady.after Steady.loader,
          fun h => (enterUnconfigured_inTaking r).silence (h.loader rfl)⟩
      · exact dropped r

theorem loadSucceeded_mark (i : Image) : (loadSucceeded i s).sequencer.conflict = s.sequencer.conflict := by
  unfold loadSucceeded
  dsimp only
  rw [minorityTest_offPort.mark, adoptPortSettings_sequencer, recompute_offPort.mark, judgeAfresh_offPort.mark,
    judgeWithheld_offPort.mark, startRest_offPort.mark]
  rfl

theorem loadFailed_mark (r : Nat) : (loadFailed r s).sequencer.conflict = s.sequencer.conflict := by
  unfold loadFailed
  dsimp only
  rw [judgePortLoss_offPort.mark, judgeExternal_offPort.mark, startTallyTimer_sequencer, moveTo_conflict]
  rfl

/-- What the end of a load at device reset does, by the outcome of its checks. -/
def endLoad (image : List Byte) (s : State) : State :=
  match checkImage image with
  | .valid i => loadSucceeded i s
  | .failed r => loadFailed r s

theorem endLoad_steady (image : List Byte) : Steady s (endLoad image s) := by
  unfold endLoad
  split
  · next h => exact loadSucceeded_steady h
  · exact loadFailed_steady _

theorem endLoad_mark (image : List Byte) : (endLoad image s).sequencer.conflict = s.sequencer.conflict := by
  unfold endLoad
  split
  · exact loadSucceeded_mark _
  · exact loadFailed_mark _

/-! ## The commands -/

/-- The Loader's phase before the end of the load leaves no conflict mark under the law. -/
theorem ConflictLaw.clear_of_loading (h : ConflictLaw s) (loading : s.loader.phase = .loading) :
    s.sequencer.conflict = false := by
  by_contra mark
  obtain ⟨-, -, -, -, ended⟩ := h (by simpa using mark)
  simp [State.loadEnded, loading] at ended

/-- A reply to the local port ends an earlier transfer; the queue and its numbering stay. -/
theorem QueueLaw.of_pop (h : QueueLaw s) (queue : t.queue = s.queue)
    (copy : ∀ r, t.lport.pop = some (.copy r true) → s.queue.records.head? = some r) : QueueLaw t := by
  obtain ⟨a, b, c, d⟩ := h
  constructor <;> simp only [queue] <;> assumption

/-- What a command writes from outside before its operations: levels and flags by their own commands, the Loader's phase,
the reply; latches and counts by the commands that clear them. -/
structure Operand (c : Instr) (s u : State) : Prop where
  frame : changesOnly [.pins, .sequencer, .protection, .line, .loader, .lport, .queue] s u
  withhold : u.pins.withhold ≠ s.pins.withhold → ∃ level, c = .withholdLineChange level
  tripIn : u.pins.tripIn ≠ s.pins.tripIn → ∃ level, c = .tripInChange level
  command : u.lport.withholdCmd ≠ s.lport.withholdCmd → c = .withhold ∨ c = .returnCmd
  indices : u.lport.item ≠ s.lport.item ∨ u.lport.second ≠ s.lport.second → ∃ i j, c = .setIndex i j
  loader : u.loader = { s.loader with phase := u.loader.phase } ∧ (c ≠ .reloadConfig → u.loader = s.loader)
  conflict : u.sequencer.conflict = s.sequencer.conflict
  latches : ∀ k, s.protection.latches.get k = true → (c = .clearTrips → s.present k = true) →
    u.protection.latches.get k = true
  counts : c = .clearCounters ∨ u.protection.counts = s.protection.counts
  counters : CounterLaw s → CounterLaw u
  silence : ConflictLaw s → ConflictLaw u
  queueLaw : QueueLaw s → QueueLaw u

theorem Operand.none (c : Instr) (s : State) : Operand c s s :=
  ⟨changesOnly_refl _ s, fun h => absurd rfl h, fun h => absurd rfl h, fun h => absurd rfl h,
    fun h => by rcases h with h | h <;> exact absurd rfl h, ⟨rfl, fun _ => rfl⟩, rfl, fun _ h _ => h, Or.inr rfl, id, id, id⟩

/-- An operand that is a level of the pins. -/
theorem Operand.pins {c : Instr} {q : Pins} (withhold : q.withhold ≠ s.pins.withhold → ∃ level, c = .withholdLineChange level)
    (tripIn : q.tripIn ≠ s.pins.tripIn → ∃ level, c = .tripInChange level) : Operand c s { s with pins := q } :=
  ⟨fun b hb => by cases b <;> first | rfl | exact absurd (by decide) hb, withhold, tripIn, fun h => absurd rfl h,
    fun h => by rcases h with h | h <;> exact absurd rfl h, ⟨rfl, fun _ => rfl⟩, rfl, fun _ h _ => h, Or.inr rfl,
    fun k => k.congr rfl rfl rfl rfl rfl, fun k => k.congr rfl rfl id rfl, fun k => k.of_pop rfl k.copy⟩

/-- An operand that writes the local port, with the level of TARIFF. -/
theorem Operand.lport {c : Instr} {q : LocalPort} {p : Pins} (pins : p = { s.pins with tariff := p.tariff })
    (command : q.withholdCmd ≠ s.lport.withholdCmd → c = .withhold ∨ c = .returnCmd)
    (indices : q.item ≠ s.lport.item ∨ q.second ≠ s.lport.second → ∃ i j, c = .setIndex i j)
    (copy : ∀ r, q.pop = some (.copy r true) → s.queue.records.head? = some r) :
    Operand c s { s with pins := p, lport := q } := by
  have withhold : p.withhold = s.pins.withhold := by rw [pins]
  have tripIn : p.tripIn = s.pins.tripIn := by rw [pins]
  exact ⟨fun b hb => by cases b <;> first | rfl | exact absurd (by decide) hb, fun h => absurd withhold h,
    fun h => absurd tripIn h, command, indices, ⟨rfl, fun _ => rfl⟩, rfl, fun _ h _ => h, Or.inr rfl,
    fun k => k.congr rfl rfl rfl rfl rfl, fun k => k.congr rfl rfl id rfl, fun k => k.of_pop rfl copy⟩

/-- A command answers a state that its operations lead to from its operand. -/
structure Keeps (c : Instr) (s t : State) : Prop where
  steps : ∃ u, Operand c s u ∧ Steady u t ∧ (ConflictLaw s → ConflictLaw t) ∧
    ((∀ image tariff, c ≠ .configLoadEnd image tariff) → (∀ image tariff, c ≠ .reloadEnd image tariff) →
      t.loader = u.loader ∧ t.capability.tcf = u.capability.tcf)

theorem Keeps.of_inTaking {c : Instr} (operand : Operand c s u) (inner : InTaking u t) : Keeps c s t :=
  ⟨u, operand, inner.toSteady, inner.silence ∘ operand.silence, fun _ _ => ⟨inner.loader, inner.tcf⟩⟩

/-- A command without an operand. -/
theorem Keeps.of_inner {c : Instr} (inner : InTaking s t) : Keeps c s t := .of_inTaking (Operand.none c s) inner

/-- A command whose meaning answers one of two states. -/
theorem Keeps.of_ite {c : Instr} {b : Prop} [Decidable b] {x y : State}
    (h : (if b then .next x else .next y : Host.Outcome State Fault Refusal) = .next t) (hx : b → Keeps c s x)
    (hy : Keeps c s y) : Keeps c s t := by
  split at h
  · next hb => cases h; exact hx hb
  · cases h; exact hy

theorem execReload_keeps (image : List Byte) (tariff : Bool) (h : execReloadEnd image tariff s = .next t) :
    Keeps (.reloadEnd image tariff) s t := by
  unfold execReloadEnd at h
  have operand : Operand (.reloadEnd image tariff) s { s with pins := { s.pins with tariff := tariff } } :=
    .pins (fun k => absurd rfl k) fun k => absurd rfl k
  split at h
  · cases h
    obtain ⟨steady, silence⟩ := endReload_keeps (s := { s with pins := { s.pins with tariff := tariff } }) image
    exact ⟨_, operand, (finish_inTaking s).toSteady.after steady,
      fun k => (finish_inTaking s).silence (silence (operand.silence k)), fun _ k => absurd rfl (k image tariff)⟩
  iterate 2 cases h; exact .of_inner (InTaking.refl _)

theorem execLoad_keeps (image : List Byte) (tariff : Bool) (h : execConfigLoadEnd image tariff s = .next t) :
    Keeps (.configLoadEnd image tariff) s t := by
  unfold execConfigLoadEnd at h
  have operand : Operand (.configLoadEnd image tariff) s { s with pins := { s.pins with tariff := tariff } } :=
    .pins (fun k => absurd rfl k) fun k => absurd rfl k
  dsimp only at h
  split at h
  · next loading =>
    cases h
    refine ⟨_, operand, (finish_inTaking s).toSteady.after (endLoad_steady image), fun k mark => ?_,
      fun k => absurd rfl (k image tariff)⟩
    have marked : (endLoad image { s with pins := { s.pins with tariff := tariff } }).sequencer.conflict = true := by
      rw [← finish_sequencer s]
      exact mark
    rw [endLoad_mark] at marked
    exact absurd marked (by simp [k.clear_of_loading loading])
  iterate 2 cases h; exact .of_inner (InTaking.refl _)

theorem clearLatch_latches (c k : Cause) :
    (clearLatch s c).protection.latches.get k =
      (s.protection.latches.get k && !(decide (k = c) && !s.present c)) := by
  unfold clearLatch
  split
  · next h =>
    simp only [Bool.and_eq_true, Bool.not_eq_true'] at h
    obtain ⟨set, absent⟩ := h
    by_cases e : k = c
    · subst e
      simp [absent]
    · simp [e]
  · next h =>
    by_cases e : k = c
    · subst e
      cases p : s.present k <;> simp_all
    · simp [e]

end Sys2Proof.Machine
end

section
/-! The queue law and the whole-machine rules: every command leads from its operand by operations that keep what a taking
keeps, and what each of them needs follows. -/

namespace Sys2Proof.Machine

open Sys2Proof

variable {s t u : State} {c : Instr}

/-! ## The queue law (R199 to R201) -/

/-- A removal of the oldest record keeps the numbering. -/
theorem QueueLaw.numbered_tail (h : QueueLaw s) (i : Nat) (k : i < s.queue.records.tail.length) :
    s.queue.records.tail[i].seq = s.queue.seq - BitVec.ofNat 8 (s.queue.records.tail.length - i) := by
  have := h.numbered (i + 1) (by rw [List.length_tail] at k; omega)
  rw [List.getElem_tail, this, List.length_tail]
  congr 2
  omega

/-- A record appended to records numbered up to the sequence counter is numbered by it. -/
theorem numbered_append {l : List Record} {n : BitVec 8} {r : Record} (seq : r.seq = n)
    (h : ∀ i (k : i < l.length), l[i].seq = n - BitVec.ofNat 8 (l.length - i)) (i : Nat) (k : i < (l ++ [r]).length) :
    (l ++ [r])[i].seq = n + 1 - BitVec.ofNat 8 ((l ++ [r]).length - i) := by
  rw [List.length_append, List.length_singleton] at k ⊢
  rcases Nat.lt_or_ge i l.length with lt | ge
  · rw [List.getElem_append_left lt, h i lt, show l.length + 1 - i = (l.length - i) + 1 by omega, BitVec.ofNat_add]
    exact (add_sub_add_right_eq_sub _ _ _).symm
  · have e : i = l.length := by omega
    subst e
    rw [List.getElem_append_right (Nat.le_refl _)]
    simp [seq]

/-- A record into a full queue ends the standing of a pop's copy (R200). -/
theorem raise_pop_of_full (k : EventKind) (station detail : Nat) (full : 32 ≤ s.queue.records.length) (r : Record) :
    (raise k station detail s).lport.pop ≠ some (.copy r true) := by
  simp only [raise, full, decide_true, if_true]
  split
  · simp
  · next other => exact fun e => other r true e

theorem raise_pop_of_room (k : EventKind) (station detail : Nat) (room : s.queue.records.length < 32) :
    (raise k station detail s).lport.pop = s.lport.pop := by
  simp [raise, Nat.not_le.mpr room]

theorem QueueLaw.raise (h : QueueLaw s) (k : EventKind) (station detail : Nat) :
    QueueLaw (raise k station detail s) := by
  have newest : ∀ (l : List Record) (r : Record), (l ++ [r]).getLast? = some r := fun l r => List.getLast?_concat
  rcases Nat.lt_or_ge s.queue.records.length 32 with room | full
  · have records := raise_records_of_room k station detail room
    refine ⟨?_, ?_, fun r last => ?_, fun r copy => ?_⟩
    · rw [records, List.length_append, List.length_singleton]
      omega
    · simp only [records]
      exact numbered_append rfl h.numbered
    · rw [records, newest] at last
      cases last
      rfl
    · rw [raise_pop_of_room k station detail room] at copy
      rw [records, List.head?_append, h.copy r copy]
      rfl
  · have records := raise_records_of_full k station detail full
    rw [List.drop_one] at records
    have length := h.length
    refine ⟨?_, ?_, fun r last => ?_, fun r copy => absurd copy (raise_pop_of_full k station detail full r)⟩
    · rw [records, List.length_append, List.length_singleton, List.length_tail]
      omega
    · simp only [records]
      exact numbered_append rfl h.numbered_tail
    · rw [records, newest] at last
      cases last
      rfl

/-- Records, one after another, keep the queue law. -/
theorem QueueLaw.logged (h : QueueLaw s) (k : Logged s t) : QueueLaw t := by
  obtain ⟨-, l, queue, lport⟩ := k
  have all : QueueLaw (raiseAll l s) := by
    clear queue lport
    induction l generalizing s with
    | nil => exact h
    | cons r l ih => exact ih (h.raise _ _ _)
  exact all.of_pop queue fun r copy => all.copy r (lport ▸ copy)

/-! ## CLEAR TRIPS -/

/-- CLEAR TRIPS looks at each latch by itself: what is present does not depend on the latches. -/
theorem clearLatch_present (c k : Cause) : (clearLatch s c).present k = s.present k := by
  unfold clearLatch
  split
  · cases k <;> rfl
  · rfl

/-- The latches after those of a list of causes have been looked at. -/
theorem foldl_clearLatch_latches (l : List Cause) (k : Cause) :
    (l.foldl clearLatch s).protection.latches.get k =
      (s.protection.latches.get k && !(decide (k ∈ l) && !s.present k)) := by
  induction l generalizing s with
  | nil => simp
  | cons c l ih =>
    rw [List.foldl_cons, ih, clearLatch_latches, clearLatch_present]
    by_cases e : k = c
    · subst e
      cases s.protection.latches.get k <;> cases s.present k <;> simp
    · simp [e]

theorem mem_causes (k : Cause) : k ∈ causes := by cases k <;> decide

/-- A latch stays set exactly where its cause is present (R157). -/
theorem clearLatches_latches (k : Cause) :
    (clearLatches s).protection.latches.get k = (s.protection.latches.get k && s.present k) := by
  rw [clearLatches, foldl_clearLatch_latches]
  simp [mem_causes]

theorem clearLatch_logged (k : Cause) : Logged s (clearLatch s k) := by
  unfold clearLatch
  split
  · exact (raiseOwn_offPort _ _).logged.after (.of_eq rfl rfl rfl)
  · exact .of_eq rfl rfl rfl

theorem clearLatches_logged : Logged s (clearLatches s) := by
  have fold : ∀ (l : List Cause) (s : State), Logged s (l.foldl clearLatch s) := by
    intro l
    induction l with
    | nil => exact fun _ => .of_eq rfl rfl rfl
    | cons c l ih => exact fun s => (clearLatch_logged c).trans (ih _)
  exact fold causes s

theorem clearLatches_counts : (clearLatches s).protection.counts = s.protection.counts := by
  have one : ∀ (s : State) (k : Cause), (clearLatch s k).protection.counts = s.protection.counts := fun s k => by
    unfold clearLatch
    split <;> rfl
  have fold : ∀ (l : List Cause) (s : State), (l.foldl clearLatch s).protection.counts = s.protection.counts := by
    intro l
    induction l with
    | nil => exact fun _ => rfl
    | cons c l ih => exact fun s => (ih _).trans (one s c)
  exact fold causes s

theorem answer_frame (reply : List Byte) : changesOnly [.lport] s (answer reply s) := by
  intro b hb
  cases b <;> first | rfl | simp at hb

/-- The state in which CLEAR TRIPS ends: the latches looked at, and the reply. -/
theorem clearTrips_operand (reply : List Byte) :
    Operand .clearTrips s
      { clearLatches (answer [] s) with lport := { (clearLatches (answer [] s)).lport with reply := reply } } := by
  have logged : Logged (answer [] s) (clearLatches (answer [] s)) := clearLatches_logged
  have frame : changesOnly [.protection, .lport, .queue] s (clearLatches (answer [] s)) :=
    ((answer_frame _).mono (by decide)).trans clearLatches_frame
  have command : (clearLatches (answer [] s)).lport.withholdCmd = s.lport.withholdCmd := by rw [logged.lport_eq]; rfl
  have item : (clearLatches (answer [] s)).lport.item = s.lport.item := by rw [logged.lport_eq]; rfl
  have second : (clearLatches (answer [] s)).lport.second = s.lport.second := by rw [logged.lport_eq]; rfl
  have latches : ∀ k, s.protection.latches.get k = true → s.present k = true →
      (clearLatches (answer [] s)).protection.latches.get k = true := fun k set present => by
    rw [clearLatches_latches]
    exact Bool.and_eq_true_iff.mpr ⟨set, by cases k <;> exact present⟩
  have counts : (clearLatches (answer [] s)).protection.counts = s.protection.counts := clearLatches_counts
  have queueLaw : QueueLaw s → QueueLaw (clearLatches (answer [] s)) := fun k =>
    (k.of_pop (t := answer [] s) rfl fun r copy => nomatch copy).logged logged
  generalize clearLatches (answer [] s) = v at *
  have pins : v.pins = s.pins := frame .pins (by decide)
  have sequencer : v.sequencer = s.sequencer := frame .sequencer (by decide)
  have loader : v.loader = s.loader := frame .loader (by decide)
  have line : v.line = s.line := frame .line (by decide)
  have staging : v.staging = s.staging := frame .staging (by decide)
  have port : v.port = s.port := frame .port (by decide)
  have slot : v.slot = s.slot := frame .slot (by decide)
  refine ⟨fun b hb => ?_, fun h => absurd (congrArg Pins.withhold pins) h, fun h => absurd (congrArg Pins.tripIn pins) h,
    fun h => absurd command h, fun h => h.elim (absurd item) (absurd second), ⟨by rw [loader], fun _ => loader⟩,
    congrArg Sequencer.conflict sequencer, fun k set present => latches k set (present rfl), Or.inr counts, fun k => ?_,
    fun k => k.congr (congrArg Sequencer.conflict sequencer) line (fun own => slot ▸ own) loader,
    fun k => (queueLaw k).of_pop rfl (queueLaw k).copy⟩
  · have k := frame b fun m => hb (by revert m; cases b <;> decide)
    cases b <;> first | exact k | exact absurd (by decide) hb
  · obtain ⟨a, b, d, e, f, g, i, j⟩ := k
    constructor <;> simp only [staging, sequencer, line, port, counts] <;> assumption

theorem execClearTrips_keeps (h : execClearTrips s = .next t) : Keeps .clearTrips s t := by
  unfold execClearTrips at h
  cases h
  dsimp only
  split
  · exact .of_inTaking (clearTrips_operand _) (finish_inTaking s)
  · exact .of_inTaking (clearTrips_operand _) ((finish_inTaking s).after leaveTripped_offPort.toInTaking)

/-! ## Every command -/

theorem Keeps.of_operand (operand : Operand c s t) : Keeps c s t := .of_inTaking operand (InTaking.refl t)

theorem execClearCounters_keeps (h : execClearCounters s = .next t) : Keeps .clearCounters s t := by
  unfold execClearCounters at h
  cases h
  refine .of_operand ⟨fun b hb => ?_, fun h => absurd rfl h, fun h => absurd rfl h, fun h => absurd rfl h,
    fun h => by rcases h with h | h <;> exact absurd rfl h, ⟨rfl, fun _ => rfl⟩, rfl, fun _ h _ => h, Or.inl rfl,
    fun k => ⟨k.stages, Nat.zero_le _, k.starts, k.runTime, k.totalizer, fun c => ?_,
      ⟨Nat.zero_le _, Nat.zero_le _, k.line.2.2⟩, k.errors⟩, fun k => k, fun k => k.of_pop rfl fun r copy => ?_⟩
  · cases b <;> first | rfl | exact absurd (by decide) hb
  · cases c <;> exact Nat.zero_le _
  · simp [answer] at copy

/-- A reply that changes neither flag nor index. -/
theorem answer_operand (reply : List Byte) : Operand c s (answer reply s) :=
  .lport (p := s.pins) rfl (fun h => absurd rfl h) (fun h => h.elim (absurd rfl) (absurd rfl)) fun r copy => by
    cases copy

theorem execReloadConfig_keeps (h : execReloadConfig s = .next t) : Keeps .reloadConfig s t := by
  unfold execReloadConfig at h
  refine .of_ite h (fun taken => .of_operand ?_) (.of_operand (answer_operand _))
  refine ⟨fun b hb => ?_, fun h => absurd rfl h, fun h => absurd rfl h, fun h => absurd rfl h,
    fun h => h.elim (absurd rfl) (absurd rfl), ⟨rfl, fun h => absurd rfl h⟩, rfl, fun _ h _ => h, Or.inr rfl,
    fun k => k.congr rfl rfl rfl rfl rfl, fun k mark => ?_, fun k => k.of_pop rfl fun r copy => ?_⟩
  · cases b <;> first | rfl | exact absurd (by decide) hb
  · obtain ⟨set, tx, tally, own, -⟩ := k mark
    exact ⟨set, tx, tally, own, rfl⟩
  · simp [answer] at copy

theorem execPopEventEnd_keeps (h : execPopEventEnd s = .next t) : Keeps .popEventEnd s t := by
  unfold execPopEventEnd at h
  split at h
  · next r pop =>
    cases h
    refine .of_operand ⟨fun b hb => ?_, fun h => absurd rfl h, fun h => absurd rfl h, fun h => absurd rfl h,
      fun h => h.elim (absurd rfl) (absurd rfl), ⟨rfl, fun _ => rfl⟩, rfl, fun _ h _ => h, Or.inr rfl,
      fun k => k.congr rfl rfl rfl rfl rfl, fun k => k.congr rfl rfl id rfl, fun k => ?_⟩
    · cases b <;> first | rfl | exact absurd (by decide) hb
    · refine ⟨?_, k.numbered_tail, fun r last => k.newest r ?_, fun r copy => ?_⟩
      · have := k.length
        simp only [List.length_tail]
        omega
      · simp only at last
        cases records : s.queue.records with
        | nil => simp [records] at last
        | cons a l =>
          cases l with
          | nil => simp [records] at last
          | cons b l => simpa [records, List.getLast?_cons_cons] using last
      · cases copy
  · cases h
    exact .of_operand (.lport (p := s.pins) rfl (fun h => absurd rfl h) (fun h => h.elim (absurd rfl) (absurd rfl))
      fun r copy => by cases copy)
  · cases h
    exact .of_inner (InTaking.refl _)

theorem execPopEvent_keeps (h : execPopEvent s = .next t) : Keeps .popEvent s t := by
  unfold execPopEvent at h
  split at h
  · next r l records =>
    cases h
    exact .of_operand (.lport (p := s.pins) rfl (fun h => absurd rfl h) (fun h => h.elim (absurd rfl) (absurd rfl))
      fun x copy => by cases copy; simp [records])
  · cases h
    exact .of_operand (.lport (p := s.pins) rfl (fun h => absurd rfl h) (fun h => h.elim (absurd rfl) (absurd rfl))
      fun x copy => by cases copy)

theorem execSetIndex_keeps (i j : Option Byte) (h : execSetIndex i j s = .next t) : Keeps (.setIndex i j) s t := by
  cases h
  exact .of_operand (.lport (p := s.pins) rfl (fun h => absurd rfl h) (fun _ => ⟨i, j, rfl⟩) fun x copy => by cases copy)

theorem execReadItem_keeps (tariff : Bool) (h : execReadItem tariff s = .next t) : Keeps (.readItem tariff) s t := by
  cases h
  exact .of_operand (.lport rfl (fun h => absurd rfl h) (fun h => h.elim (absurd rfl) (absurd rfl))
    fun x copy => by cases copy)

/-- The level of TARIFF, of the WITHHOLD line or of TRIP-IN comes with a command. -/
theorem tariff_operand (tariff : Bool) : Operand c s { s with pins := { s.pins with tariff := tariff } } :=
  .pins (fun k => absurd rfl k) fun k => absurd rfl k

theorem execWithholdLineChange_keeps (level : Bool) (h : execWithholdLineChange level s = .next t) :
    Keeps (.withholdLineChange level) s t := by
  have operand : Operand (.withholdLineChange level) s { s with pins := { s.pins with withhold := level } } :=
    .pins (fun _ => ⟨level, rfl⟩) fun k => absurd rfl k
  cases h
  exact .of_inTaking operand ((finish_inTaking s).after (withholdChanged_offPort _ _).toInTaking)

theorem execTripInChange_keeps (level : Bool) (h : execTripInChange level s = .next t) :
    Keeps (.tripInChange level) s t := by
  have operand : Operand (.tripInChange level) s { s with pins := { s.pins with tripIn := level } } :=
    .pins (fun k => absurd rfl k) fun _ => ⟨level, rfl⟩
  cases h
  dsimp only
  split
  · exact .of_inTaking operand ((finish_inTaking s).after judgeExternal_offPort.toInTaking)
  · exact .of_operand operand

theorem withholdCmd_keeps (b arose : Bool) (hc : c = .withhold ∨ c = .returnCmd)
    (h : t = finish s (withholdChanged s.withheld arose
      (answer replyDone { s with lport := { s.lport with withholdCmd := b } }))) : Keeps c s t := by
  have operand : Operand c s (answer replyDone { s with lport := { s.lport with withholdCmd := b } }) :=
    .lport (p := s.pins) rfl (fun _ => hc) (fun h => h.elim (absurd rfl) (absurd rfl)) fun x copy => by cases copy
  subst h
  exact .of_inTaking operand ((finish_inTaking s).after (withholdChanged_offPort _ _).toInTaking)

end Sys2Proof.Machine
end

section
/-! Every command keeps what a taking keeps. -/

namespace Sys2Proof.Machine

open Sys2Proof

variable {s t : State} {c : Instr}

/-! ## The commands of the line -/

theorem execTransmitBegin_offPort (recessive : Nat) (h : execTransmitBegin s recessive = .next t) : OffPort s t := by
  have notQuiet : ∀ {q : Line}, s.line.CountersKept q → s.line.tx = .wait → OffPort s { s with line := q } :=
    fun counters wait => OffPort.line counters fun _ silent => by
      rw [silent.2.1] at wait
      cases wait
  unfold execTransmitBegin at h
  dsimp only at h
  split at h
  · next wait _ =>
    cases h
    split
    · exact notQuiet id wait
    · exact notQuiet id wait
  · cases h
    exact OffPort.refl s

/-- A command of the transmitter in a frame: the part is not silent. -/
theorem sending_offPort {q : Line} (sending : s.line.tx ≠ .quiet) (counters : s.line.CountersKept q) :
    OffPort s { s with line := q } :=
  OffPort.line counters fun _ silent => absurd silent.2.1 sending

theorem execContentionLost_offPort (h : execContentionLost s = .next t) : OffPort s t := by
  unfold execContentionLost at h
  split at h
  · next f contend =>
    cases h
    exact sending_offPort (by simp [contend]) fun k => ⟨k.1, satInc_le _ _, k.2.2⟩
  · cases h
    exact OffPort.refl s

theorem execLineFault_offPort (h : execLineFault s = .next t) : OffPort s t := by
  unfold execLineFault at h
  split at h
  · next f contend =>
    cases h
    exact damagedAttempt_offPort (by simp [contend])
  · cases h
    exact OffPort.refl s

theorem execHeaderWon_offPort (h : execHeaderWon s = .next t) : OffPort s t := by
  unfold execHeaderWon at h
  split at h
  · next f contend =>
    cases h
    exact sending_offPort (by simp [contend]) id
  · cases h
    exact OffPort.refl s

theorem execLastCrcBitSent_offPort (h : execLastCrcBitSent s = .next t) : OffPort s t := by
  unfold execLastCrcBitSent at h
  split at h
  · next f send =>
    cases h
    exact sending_offPort (by simp [send]) id
  · cases h
    exact OffPort.refl s

theorem execTallyTimerExpiry_offPort (h : execTallyTimerExpiry s = .next t) : OffPort s t := by
  unfold execTallyTimerExpiry at h
  split at h
  · next runs =>
    cases h
    exact sendTally_offPort (by simp [runs])
  · cases h
    exact OffPort.refl s

/-! ## The timers of the slot -/

theorem execHeldViewExpiry_offPort (h : execHeldViewExpiry s = .next t) : OffPort s t := by
  unfold execHeldViewExpiry at h
  split at h
  · cases h
    exact (raise_offPort _ _ _).after viewFree_offPort
  · cases h
    exact OffPort.refl s

theorem execJoinWaitExpiry_offPort (h : execJoinWaitExpiry s = .next t) : OffPort s t := by
  unfold execJoinWaitExpiry at h
  split at h
  · cases h
    exact OffPort.slot id
  · cases h
    exact OffPort.refl s

theorem execClaimGraceExpiry_offPort (h : execClaimGraceExpiry s = .next t) : OffPort s t := by
  unfold execClaimGraceExpiry at h
  split at h
  · cases h
    exact OffPort.slot fun own => by cases own
  · cases h
    exact OffPort.refl s

theorem execSettleGapExpiry_offPort (h : execSettleGapExpiry s = .next t) : OffPort s t := by
  cases h
  exact OffPort.slot id

theorem execConfirmationWindowExpiry_inTaking (h : execConfirmationWindowExpiry s = .next t) : InTaking s t := by
  unfold execConfirmationWindowExpiry at h
  split at h
  · next pending =>
    split at h
    · cases h
      exact arbitrate_inTaking.after (recomposeTally_offPort.after (winSlot_offPort pending)).toInTaking
    · cases h
      exact InTaking.refl s
  · cases h
    exact InTaking.refl s

theorem execOwnHoldExpiry_inTaking (h : execOwnHoldExpiry s = .next t) : InTaking s t := by
  unfold execOwnHoldExpiry at h
  split at h
  · cases h
    exact (finish_inTaking s).after (overrunHold_offPort _).toInTaking
  · cases h
    exact InTaking.refl s

/-! ## The timers of the train -/

theorem startFailed_offPort : OffPort s (startFailed s) := by
  refine (arrive_offPort _).after (OffPort.sequencer ?_ rfl)
  exact ⟨fun _ => satInc_le _ _, id, id, id⟩

theorem execFillExpiry_inTaking (h : execFillExpiry s = .next t) : InTaking s t := by
  unfold execFillExpiry at h
  split at h
  · cases h
    refine (finish_inTaking s).after (OffPort.toInTaking ?_)
    refine pressurizeTest_offPort.after ((moveTo_offPort _ _).after (OffPort.sequencer ?_ rfl))
    exact ⟨id, fun _ => satInc_le _ _, id, id⟩
  · cases h
    exact InTaking.refl s

theorem execPressurizeTimeout_inTaking (h : execPressurizeTimeout s = .next t) : InTaking s t := by
  unfold execPressurizeTimeout at h
  split at h
  · cases h
    exact (finish_inTaking s).after startFailed_offPort.toInTaking
  · cases h
    exact InTaking.refl s

theorem execDivertTimeout_inTaking (h : execDivertTimeout s = .next t) : InTaking s t := by
  unfold execDivertTimeout at h
  split at h
  · cases h
    exact (finish_inTaking s).after startFailed_offPort.toInTaking
  · cases h
    exact InTaking.refl s

theorem execQualityTimerExpiry_inTaking (h : execQualityTimerExpiry s = .next t) : InTaking s t := by
  unfold execQualityTimerExpiry at h
  split at h
  · cases h
    exact (finish_inTaking s).after enterRunning_offPort.toInTaking
  · cases h
    exact InTaking.refl s

theorem execMinRunExpiry_offPort (h : execMinRunExpiry s = .next t) : OffPort s t := by
  unfold execMinRunExpiry at h
  split at h
  · cases h
    exact OffPort.sequencer_of_eq rfl rfl
  · cases h
    exact OffPort.refl s

theorem execUnloadTimeout_inTaking (h : execUnloadTimeout s = .next t) : InTaking s t := by
  unfold execUnloadTimeout at h
  split at h
  · cases h
    refine (finish_inTaking s).after (OffPort.toInTaking ?_)
    exact (arrive_offPort _).after (OffPort.sequencer_of_eq rfl rfl)
  · cases h
    exact InTaking.refl s

theorem execFlushExpiry_inTaking (h : execFlushExpiry s = .next t) : InTaking s t := by
  unfold execFlushExpiry at h
  split at h
  · cases h
    exact (finish_inTaking s).after endFlush_offPort.toInTaking
  · cases h
    exact InTaking.refl s

theorem execRestTimerExpiry_inTaking (h : execRestTimerExpiry s = .next t) : InTaking s t := by
  unfold execRestTimerExpiry at h
  have expired : OffPort s { s with sequencer := { s.sequencer with rest := .expired } } :=
    OffPort.sequencer_of_eq rfl rfl
  split at h
  · cases h
    exact (finish_inTaking s).after (OffPort.ite ((moveTo_offPort _ _).after expired) expired).toInTaking
  · cases h
    exact InTaking.refl s

/-! ## The timers of the other blocks -/

theorem execLevelLost_offPort (h : execLevelLost s = .next t) : OffPort s t := by
  unfold execLevelLost at h
  split at h
  · cases h
    exact loseLevel_offPort
  · cases h
    exact OffPort.refl s

theorem execClassHoldExpiry_offPort (h : execClassHoldExpiry s = .next t) : OffPort s t := by
  unfold execClassHoldExpiry at h
  split at h
  · cases h
    exact recompute_offPort.after (OffPort.capability rfl)
  · cases h
    exact OffPort.refl s

theorem execSettleTimerExpiry_offPort (h : execSettleTimerExpiry s = .next t) : OffPort s t := by
  unfold execSettleTimerExpiry at h
  split at h
  · cases h
    exact OffPort.trim
  · cases h
    exact OffPort.refl s

theorem execSaturationTimerExpiry_offPort (h : execSaturationTimerExpiry s = .next t) : OffPort s t := by
  unfold execSaturationTimerExpiry at h
  split at h
  · cases h
    exact OffPort.trim.after (takeSaturation_offPort _)
  · cases h
    exact OffPort.refl s

theorem execLowSuctionExpiry_inTaking (h : execLowSuctionExpiry s = .next t) : InTaking s t := by
  unfold execLowSuctionExpiry at h
  split at h
  · cases h
    refine (finish_inTaking s).after (OffPort.toInTaking ?_)
    exact (arrive_offPort _).after (OffPort.protection rfl rfl)
  · cases h
    exact InTaking.refl s

theorem execQualityTripExpiry_inTaking (h : execQualityTripExpiry s = .next t) : InTaking s t := by
  unfold execQualityTripExpiry at h
  split at h
  · cases h
    refine (finish_inTaking s).after (OffPort.toInTaking ?_)
    exact (arrive_offPort _).after (OffPort.protection rfl rfl)
  · cases h
    exact InTaking.refl s

theorem execInstrumentExpiry_inTaking (h : execInstrumentExpiry s = .next t) : InTaking s t := by
  unfold execInstrumentExpiry at h
  split at h
  · cases h
    refine (finish_inTaking s).after (OffPort.toInTaking ?_)
    exact (arrive_offPort _).after (OffPort.protection rfl rfl)
  · cases h
    exact InTaking.refl s

theorem execPeerStale_inTaking (i : Station) (h : execPeerStale i s = .next t) : InTaking s t := by
  unfold execPeerStale at h
  split at h
  · cases h
    exact (finish_inTaking s).after ((rosterChanged_offPort _).after (goStale_offPort i)).toInTaking
  · cases h
    exact InTaking.refl s

theorem execPeerDropped_inTaking (i : Station) (h : execPeerDropped i s = .next t) : InTaking s t := by
  unfold execPeerDropped at h
  split at h
  · cases h
    exact (finish_inTaking s).after ((rosterChanged_offPort _).after (dropPeer_offPort i)).toInTaking
  · cases h
    exact InTaking.refl s

theorem execDemandPeriodEnd_keeps (tariff : Bool) (h : execDemandPeriodEnd tariff s = .next t) :
    Keeps (.demandPeriodEnd tariff) s t := by
  unfold execDemandPeriodEnd at h
  split at h
  · cases h
    exact .of_inTaking (tariff_operand tariff) ((finish_inTaking s).after (demandPeriod_offPort _).toInTaking)
  · cases h
    exact .of_inner (InTaking.refl s)

/-! ## The Train Port -/

theorem execReadComplete_inTaking (w : Word16) (h : execReadComplete w s = .next t) : InTaking s t := by
  unfold execReadComplete at h
  split at h
  · next n st reading =>
    cases h
    exact (finish_inTaking s).after (takeWord_inTaking n st w (by simp [reading, PortState.isLost]))
  · cases h
    exact InTaking.refl s

/-- A write has ended: the port is idle and connected. -/
theorem writeDone_inTaking (connected : s.port.state.isLost = false) :
    InTaking s { s with port := { s.port with state := .idle, errors := 0 } } :=
  InTaking.port (fun _ => Nat.zero_le _) fun law =>
    .of_connected rfl (law.retry_none connected) (Nat.zero_lt_succ 2)

theorem execWriteComplete_inTaking (h : execWriteComplete s = .next t) : InTaking s t := by
  unfold execWriteComplete at h
  split at h
  · next writing =>
    cases h
    exact (finish_inTaking s).after (writeDone_inTaking (by simp [writing, PortState.isLost]))
  · next writing =>
    cases h
    exact (finish_inTaking s).after (writeDone_inTaking (by simp [writing, PortState.isLost]))
  · cases h
    exact InTaking.refl s

theorem execTransactionError_inTaking (h : execTransactionError s = .next t) : InTaking s t := by
  unfold execTransactionError at h
  split at h
  · next x under =>
    cases h
    exact (finish_inTaking s).after (portError_inTaking _ (by simp [under, PortState.isLost]))
  · next x lost =>
    cases h
    exact retryFailed_inTaking lost
  · cases h
    exact InTaking.refl s

theorem execRetryReadComplete_inTaking (w : Word16) (h : execRetryReadComplete w s = .next t) : InTaking s t := by
  unfold execRetryReadComplete at h
  split at h
  · cases h
    exact (finish_inTaking s).after (restorePort_inTaking _)
  · cases h
    exact InTaking.refl s

theorem execScanPaceExpiry_inTaking (h : execScanPaceExpiry s = .next t) : InTaking s t := by
  unfold execScanPaceExpiry at h
  split at h
  · cases h
    exact arbitrate_inTaking.after (InTaking.port id fun law => law.congr rfl rfl rfl rfl)
  · cases h
    exact InTaking.refl s

/-! ## All of them -/

theorem reception_keeps {rx : List RxChar}
    (h : (.next (receiveFrame rx s) : Host.Outcome State Fault Refusal) = .next t) : Keeps c s t := by
  cases h
  exact .of_inner (receiveFrame_inTaking rx)

/-- Every command but DEVICE_RESET keeps what its operand and its operations keep. -/
theorem exec_keeps (h : exec c s = .next t) (running : ∀ stn rate, c ≠ .deviceReset stn rate) : Keeps c s t := by
  cases c with
  | deviceReset stn rate => exact absurd rfl (running stn rate)
  | configLoadEnd image tariff => exact execLoad_keeps image tariff h
  | setIndex i j => exact execSetIndex_keeps i j h
  | readItem tariff => exact execReadItem_keeps tariff h
  | popEvent => exact execPopEvent_keeps h
  | popEventEnd => exact execPopEventEnd_keeps h
  | withhold => cases h; exact withholdCmd_keeps _ _ (.inl rfl) rfl
  | returnCmd => cases h; exact withholdCmd_keeps _ _ (.inr rfl) rfl
  | clearTrips => exact execClearTrips_keeps h
  | clearCounters => exact execClearCounters_keeps h
  | reloadConfig => exact execReloadConfig_keeps h
  | unknownCommand op => cases h; exact .of_operand (answer_operand _)
  | reloadEnd image tariff => exact execReload_keeps image tariff h
  | withholdLineChange level => exact execWithholdLineChange_keeps level h
  | tripInChange level => exact execTripInChange_keeps level h
  | tallyReceived rx => exact reception_keeps h
  | bidReceived rx => exact reception_keeps h
  | occupiedReceived rx => exact reception_keeps h
  | yieldReceived rx => exact reception_keeps h
  | frameDiscarded rx => exact reception_keeps h
  | duplicateStation rx => exact reception_keeps h
  | ownEcho rx => exact reception_keeps h
  | transmitBegin recessive => exact .of_inner (execTransmitBegin_offPort recessive h).toInTaking
  | contentionLost => exact .of_inner (execContentionLost_offPort h).toInTaking
  | lineFault => exact .of_inner (execLineFault_offPort h).toInTaking
  | demandPeriodEnd tariff => exact execDemandPeriodEnd_keeps tariff h
  | levelLost => exact .of_inner (execLevelLost_offPort h).toInTaking
  | classHoldExpiry => exact .of_inner (execClassHoldExpiry_offPort h).toInTaking
  | peerStale i => exact .of_inner (execPeerStale_inTaking i h)
  | peerDropped i => exact .of_inner (execPeerDropped_inTaking i h)
  | confirmationWindowExpiry => exact .of_inner (execConfirmationWindowExpiry_inTaking h)
  | ownHoldExpiry => exact .of_inner (execOwnHoldExpiry_inTaking h)
  | heldViewExpiry => exact .of_inner (execHeldViewExpiry_offPort h).toInTaking
  | settleGapExpiry => exact .of_inner (execSettleGapExpiry_offPort h).toInTaking
  | joinWaitExpiry => exact .of_inner (execJoinWaitExpiry_offPort h).toInTaking
  | claimGraceExpiry => exact .of_inner (execClaimGraceExpiry_offPort h).toInTaking
  | restTimerExpiry => exact .of_inner (execRestTimerExpiry_inTaking h)
  | fillExpiry => exact .of_inner (execFillExpiry_inTaking h)
  | pressurizeTimeout => exact .of_inner (execPressurizeTimeout_inTaking h)
  | qualityTimerExpiry => exact .of_inner (execQualityTimerExpiry_inTaking h)
  | divertTimeout => exact .of_inner (execDivertTimeout_inTaking h)
  | minRunExpiry => exact .of_inner (execMinRunExpiry_offPort h).toInTaking
  | unloadTimeout => exact .of_inner (execUnloadTimeout_inTaking h)
  | flushExpiry => exact .of_inner (execFlushExpiry_inTaking h)
  | settleTimerExpiry => exact .of_inner (execSettleTimerExpiry_offPort h).toInTaking
  | saturationTimerExpiry => exact .of_inner (execSaturationTimerExpiry_offPort h).toInTaking
  | lowSuctionExpiry => exact .of_inner (execLowSuctionExpiry_inTaking h)
  | qualityTripExpiry => exact .of_inner (execQualityTripExpiry_inTaking h)
  | instrumentExpiry => exact .of_inner (execInstrumentExpiry_inTaking h)
  | tallyTimerExpiry => exact .of_inner (execTallyTimerExpiry_offPort h).toInTaking
  | scanPaceExpiry => exact .of_inner (execScanPaceExpiry_inTaking h)
  | retryTimerExpiry => exact .of_inner (execRetryTimerExpiry_inTaking h)
  | readComplete w => exact .of_inner (execReadComplete_inTaking w h)
  | writeComplete => exact .of_inner (execWriteComplete_inTaking h)
  | transactionError => exact .of_inner (execTransactionError_inTaking h)
  | retryReadComplete w => exact .of_inner (execRetryReadComplete_inTaking w h)
  | headerWon => exact .of_inner (execHeaderWon_offPort h).toInTaking
  | lastCrcBitSent => exact .of_inner (execLastCrcBitSent_offPort h).toInTaking

end Sys2Proof.Machine
end

section
/-! Steps: a law that every command, every tick and device reset keep is kept by every step. The obligations about the
whole machine, and the laws of the conflict mark, the port, the queue and the counters. -/

namespace Sys2Proof.Machine

open Sys2Proof

variable {s t : State} {c : Instr}

/-! ## Steps -/

theorem step_of_pending {rest : List Instr} (h : s.pending = c :: rest) :
    step s = exec c { s with pending := rest } := by
  simp [step, h]

theorem step_of_empty (h : s.pending = []) : step s = .next (idle s) := by
  simp [step, h]

theorem idle_of_due {l : List Instr} (h : s.due = c :: l) : idle s = { s with pending := [c] } := by
  simp [idle, h]

theorem idle_of_none_due (h : s.due = []) : idle s = tick (arbitrate s) := by
  simp [idle, h]

theorem exec_deviceReset (stn : BitVec 4) (rate : BitVec 2) (s : State) :
    exec (.deviceReset stn rate) s =
      .next (arbitrate
        { State.afterReset { uid := s.ident.uid, station := stn.toFin, rate := rate } s.pins with
          pending := s.pending }) := rfl

/-- A law that each of the things a step can do keeps, and that device reset gives. -/
structure StepLaw (L : State → Prop) : Prop where
  pending : ∀ s l, L s → L { s with pending := l }
  arbitrate : ∀ s, L s → L (arbitrate s)
  tick : ∀ s, L s → L (tick s)
  reset : ∀ ident pins, L (State.afterReset ident pins)
  commands : ∀ c s t, exec c s = .next t → (∀ stn rate, c ≠ .deviceReset stn rate) → L s → L t

theorem StepLaw.exec {L : State → Prop} (law : StepLaw L) (h : exec c s = .next t) (k : L s) : L t := by
  by_cases reset : ∃ stn rate, c = .deviceReset stn rate
  · obtain ⟨stn, rate, rfl⟩ := reset
    rw [exec_deviceReset] at h
    cases h
    exact law.arbitrate _ (law.pending _ _ (law.reset _ _))
  · exact law.commands c s t h (fun stn rate e => reset ⟨stn, rate, e⟩) k

theorem StepLaw.step {L : State → Prop} (law : StepLaw L) (k : L s) (h : step s = .next t) : L t := by
  cases pending : s.pending with
  | cons c rest =>
    rw [step_of_pending pending] at h
    exact law.exec h (law.pending _ _ k)
  | nil =>
    rw [step_of_empty pending] at h
    cases h
    cases due : s.due with
    | cons c l =>
      rw [idle_of_due due]
      exact law.pending _ _ k
    | nil =>
      rw [idle_of_none_due due]
      exact law.tick _ (law.arbitrate _ k)

/-! ## The whole machine -/

theorem Keeps.pending (h : Keeps c s t) : t.pending = s.pending := by
  obtain ⟨u, operand, steady, -⟩ := h.steps
  exact (steady.frame .pending (by decide)).trans (operand.frame .pending (by decide))

theorem Keeps.time (h : Keeps c s t) : t.time = s.time := by
  obtain ⟨u, operand, steady, -⟩ := h.steps
  exact (steady.frame .time (by decide)).trans (operand.frame .time (by decide))

theorem Keeps.ident (h : Keeps c s t) : t.ident = s.ident := by
  obtain ⟨u, operand, steady, -⟩ := h.steps
  exact (steady.frame .ident (by decide)).trans (operand.frame .ident (by decide))

/-- Settles O1. -/
theorem stepTakesFrontCommand : Obligations.StepTakesFrontCommand := fun _ _ _ h => step_of_pending h

/-- Settles O3: device reset keeps the waiting commands by its definition, every other command by what it keeps. -/
theorem commandsKeepQueueClockAndIdentity : Obligations.CommandsKeepQueueClockAndIdentity := by
  intro c s t h
  refine ⟨?_, fun running => ⟨(exec_keeps h running).time, (exec_keeps h running).ident⟩⟩
  by_cases reset : ∃ stn rate, c = .deviceReset stn rate
  · obtain ⟨stn, rate, rfl⟩ := reset
    rw [exec_deviceReset] at h
    cases h
    exact arbitrate_inTaking.frame .pending (by decide)
  · exact (exec_keeps h fun stn rate e => reset ⟨stn, rate, e⟩).pending

/-- Settles O4. -/
theorem onlyLoadsChangeParameters : Obligations.OnlyLoadsChangeParameters := by
  intro c s t h running noLoad noReload
  obtain ⟨u, operand, -, -, kept⟩ := (exec_keeps h running).steps
  obtain ⟨loader, tcf⟩ := kept noLoad noReload
  obtain ⟨phase, same⟩ := operand.loader
  have capability : u.capability = s.capability := operand.frame .capability (by decide)
  rw [loader, tcf, capability]
  exact ⟨by rw [phase], by rw [phase], by rw [phase], rfl, same⟩

/-- Settles O5. -/
theorem conflictLastsUntilReset : Obligations.ConflictLastsUntilReset := by
  intro c s t h mark running
  obtain ⟨u, operand, steady, -⟩ := (exec_keeps h running).steps
  exact steady.conflict (operand.conflict.trans mark)

/-- Settles O6. -/
theorem latchesAndCountsOutlastEverythingElse : Obligations.LatchesAndCountsOutlastEverythingElse := by
  intro c s t k h running
  obtain ⟨u, operand, steady, -⟩ := (exec_keeps h running).steps
  refine ⟨fun set present => steady.latches k (operand.latches k set present), fun keeps bound => ?_⟩
  have counts := operand.counts.resolve_left keeps
  rw [← counts] at bound ⊢
  exact (steady.counts k bound).1

/-- Settles O7: device reset keeps the pins; every other command changes its operand alone, and of the local port the
operations after it raise records. -/
theorem inputsChangeOnlyByTheirOwnCommands : Obligations.InputsChangeOnlyByTheirOwnCommands := by
  intro c s t h
  by_cases reset : ∃ stn rate, c = .deviceReset stn rate
  · obtain ⟨stn, rate, rfl⟩ := reset
    rw [exec_deviceReset] at h
    cases h
    have pins := (arbitrate_inTaking (s := { State.afterReset
      { uid := s.ident.uid, station := stn.toFin, rate := rate } s.pins with pending := s.pending })).frame .pins (by decide)
    exact ⟨fun k => absurd (congrArg Pins.withhold pins) k, fun k => absurd (congrArg Pins.tripIn pins) k,
      fun running => absurd rfl (running stn rate)⟩
  · obtain ⟨u, operand, steady, -⟩ := (exec_keeps h fun stn rate e => reset ⟨stn, rate, e⟩).steps
    have pins : t.pins = u.pins := steady.frame .pins (by decide)
    have lport := steady.logged.lport_eq
    have command : t.lport.withholdCmd = u.lport.withholdCmd := by rw [lport]
    have item : t.lport.item = u.lport.item := by rw [lport]
    have second : t.lport.second = u.lport.second := by rw [lport]
    rw [pins, command, item, second]
    exact ⟨operand.withhold, operand.tripIn, fun _ => ⟨operand.command, operand.indices⟩⟩

/-! ## The laws of the conflict mark, the port, the queue and the counters -/

/-- One tick of run time changes the run time alone. -/
theorem countRunTick_eq (q : Sequencer) :
    countRunTick q = { q with runSeconds := (countRunTick q).runSeconds, runTicks := (countRunTick q).runTicks } := by
  unfold countRunTick
  split
  · rfl
  · split <;> rfl

/-- A tick leaves the Sequencer but for the run time. -/
theorem tick_sequencer (s : State) :
    (tick s).sequencer =
      { s.sequencer with runSeconds := (tick s).sequencer.runSeconds, runTicks := (tick s).sequencer.runTicks } := by
  simp only [tick]
  split
  · exact countRunTick_eq _
  · rfl

theorem tick_conflict (s : State) : (tick s).sequencer.conflict = s.sequencer.conflict := by rw [tick_sequencer]

theorem afterReset_conflictLaw (i : Ident) (p : Pins) : ConflictLaw (State.afterReset i p) := fun mark => by cases mark

theorem afterReset_portLaw (i : Ident) (p : Pins) : PortLaw (State.afterReset i p) :=
  ⟨fun lost => (by cases lost), by simp [State.afterReset], fun _ => Nat.zero_lt_succ 2⟩

theorem afterReset_queueLaw (i : Ident) (p : Pins) : QueueLaw (State.afterReset i p) :=
  ⟨Nat.zero_le _, fun _ k => absurd k (Nat.not_lt_zero _), fun _ k => (by cases k), fun _ k => (by cases k)⟩

theorem afterReset_counterLaw (i : Ident) (p : Pins) : CounterLaw (State.afterReset i p) where
  stages := ⟨Nat.zero_le _, Nat.zero_le _⟩
  failures := Nat.zero_le _
  starts := Nat.zero_le _
  runTime := ⟨Nat.zero_le _, Nat.zero_lt_succ _⟩
  totalizer := ⟨Nat.two_pow_pos 32, Nat.zero_lt_succ _⟩
  counts c := by cases c <;> exact Nat.zero_le _
  line := ⟨Nat.zero_le _, Nat.zero_le _, Nat.zero_le _⟩
  errors := Nat.zero_le _

/-- Settles O13. -/
theorem everyStepKeepsConflictLaw : Obligations.EveryStepKeepsConflictLaw := fun _ _ law h =>
  StepLaw.step (L := ConflictLaw)
    { pending := fun _ _ k => k.congr rfl rfl id rfl
      arbitrate := fun _ k => arbitrate_inTaking.silence k
      tick := fun s k => k.congr (tick_conflict s) rfl id rfl
      reset := afterReset_conflictLaw
      commands := fun _ _ _ h running k => by
        obtain ⟨u, -, -, silence, -⟩ := (exec_keeps h running).steps
        exact silence k } law h

theorem Operand.port {u : State} (h : Operand c s u) : u.port = s.port := h.frame .port (by decide)

/-- Settles O15. -/
theorem everyStepKeepsPortLaw : Obligations.EveryStepKeepsPortLaw := fun _ _ law h =>
  StepLaw.step (L := PortLaw)
    { pending := fun _ _ k => k.congr rfl rfl rfl rfl
      arbitrate := fun _ k => arbitrate_inTaking.portLaw k
      tick := fun s k => k.congr rfl rfl rfl rfl
      reset := afterReset_portLaw
      commands := fun _ _ _ h running k => by
        obtain ⟨u, operand, steady, -⟩ := (exec_keeps h running).steps
        have port := operand.port
        exact steady.portLaw (k.congr (by rw [port]) (by rw [port]) (by rw [port]) (by rw [port])) } law h

/-- Settles O16. -/
theorem everyStepKeepsQueueLaw : Obligations.EveryStepKeepsQueueLaw := fun _ _ law h =>
  StepLaw.step (L := QueueLaw)
    { pending := fun _ _ k => k.of_pop rfl k.copy
      arbitrate := fun _ k => k.logged arbitrate_inTaking.logged
      tick := fun s k => k.of_pop rfl k.copy
      reset := afterReset_queueLaw
      commands := fun _ _ _ h running k => by
        obtain ⟨u, operand, steady, -⟩ := (exec_keeps h running).steps
        exact (operand.queueLaw k).logged steady.logged } law h

/-- One tick counts run time within its range. -/
theorem countRunTick_runTime {q : Sequencer} (h : q.runSeconds ≤ maxRunSeconds ∧ q.runTicks < 1024) :
    (countRunTick q).runSeconds ≤ maxRunSeconds ∧ (countRunTick q).runTicks < 1024 := by
  unfold countRunTick
  split
  · exact ⟨h.1, ‹_›⟩
  · split
    · exact ⟨‹_›, Nat.zero_lt_succ _⟩
    · exact h

theorem CounterLaw.tick (h : CounterLaw s) : CounterLaw (tick s) := by
  have kept : CounterLaw { s with sequencer := countRunTick s.sequencer } := by
    refine h.sequencer ?_
    rw [countRunTick_eq]
    exact ⟨id, id, fun _ => countRunTick_runTime h.runTime, id⟩
  unfold Machine.tick
  split
  · exact kept.congr rfl rfl rfl rfl rfl
  · exact h.congr rfl rfl rfl rfl rfl

/-- Settles O17. -/
theorem everyStepKeepsCounterLaw : Obligations.EveryStepKeepsCounterLaw := fun _ _ law h =>
  StepLaw.step (L := CounterLaw)
    { pending := fun _ _ k => k.congr rfl rfl rfl rfl rfl
      arbitrate := fun _ k => arbitrate_inTaking.counters k
      tick := fun _ k => k.tick
      reset := afterReset_counterLaw
      commands := fun _ _ _ h running k => by
        obtain ⟨u, operand, steady, -⟩ := (exec_keeps h running).steps
        exact steady.counters (operand.counters k) } law h

/-- Settles O2: the arbiter changes the port alone, and the tick the clock and the run time. -/
theorem emptyQueueLetsTimePass : Obligations.EmptyQueueLetsTimePass := by
  intro s empty
  refine ⟨fun c l due => by rw [step_of_empty empty, idle_of_due due], fun none => ?_⟩
  refine ⟨_, (step_of_empty empty).trans (congrArg _ (idle_of_none_due none)), ?_⟩
  have port : arbitrate s = { s with port := (arbitrate s).port } := eq_with_port arbitrate_frame
  rw [port]
  refine ⟨rfl, fun b hb => ?_, tick_sequencer _, fun off => ?_, fun on ticks seconds => ?_⟩
  · cases b <;> first | rfl | exact absurd (by decide) hb
  · simp [tick, off]
  · simp only [tick, on, if_true, countRunTick]
    split
    · dsimp only
      omega
    · split
      · dsimp only
        omega
      · omega

end Sys2Proof.Machine
end

section
/-! The laws of the train: what each looks at, and the operations that keep them all. `Sound` keeps the laws of latches,
speed, capacity, demand and roster; `Lawful` keeps the law of the slot too, which a release breaks until the train has
moved. -/

namespace Sys2Proof.Machine

open Sys2Proof

variable {s t u : State}

/-! ## What each law looks at -/

theorem LatchLaw.congr (h : LatchLaw s) (latches : t.protection.latches = s.protection.latches)
    (train : t.sequencer.train = s.sequencer.train) : LatchLaw t := by
  unfold LatchLaw at *
  rw [latches, train]
  exact h

theorem SpeedLaw.congr (h : SpeedLaw s) (train : t.sequencer.train = s.sequencer.train)
    (valve : t.sequencer.valve = s.sequencer.valve) (rest : t.sequencer.rest = s.sequencer.rest)
    (speed : t.trim.s = s.trim.s) (mode : t.trim.mode = s.trim.mode) (loader : t.loader = s.loader) : SpeedLaw t := by
  obtain ⟨a, b, c, d, e, f⟩ := h
  constructor <;> simp only [train, valve, rest, speed, mode, loader] <;> assumption

theorem CapacityLaw.congr (h : CapacityLaw s) (qmax : t.capability.qmaxAvail = s.capability.qmaxAvail)
    (unfit : t.capability.unfit = s.capability.unfit) (sp : t.staging.sp = s.staging.sp)
    (train : t.sequencer.train = s.sequencer.train) (loader : t.loader = s.loader) : CapacityLaw t := by
  obtain ⟨a, b, c, d⟩ := h
  constructor <;> simp only [train, qmax, unfit, sp, loader] <;> assumption

theorem DemandLaw.congr (h : DemandLaw s) (qReq : t.demand.qReq = s.demand.qReq)
    (profile : t.demand.profile = s.demand.profile) (loader : t.loader = s.loader) : DemandLaw t := by
  obtain ⟨a, b, c⟩ := h
  constructor <;> simp only [State.activeProfile, qReq, profile, loader] at * <;> assumption

theorem RosterLaw.congr (h : RosterLaw s) (entries : t.roster.entries = s.roster.entries) (loader : t.loader = s.loader)
    (ident : t.ident = s.ident) : RosterLaw t := by
  obtain ⟨a, b, c, d, e⟩ := h
  constructor <;> simp only [entries, loader, ident] at * <;> assumption

theorem SlotLaw.congr (h : SlotLaw s) (view : t.slot.view = s.slot.view) (train : t.sequencer.train = s.sequencer.train)
    (staged : t.sequencer.staged = s.sequencer.staged) (loader : t.loader = s.loader) : SlotLaw t := by
  obtain ⟨a, b, c, d, e⟩ := h
  constructor <;> simp only [view, train, staged, loader] at * <;> assumption

/-! ## The relations -/

/-- An operation that keeps the laws of latches, speed, capacity, demand and roster. -/
structure Sound (s t : State) : Prop where
  latch : LatchLaw s → LatchLaw t
  speed : SpeedLaw s → SpeedLaw t
  capacity : SpeedLaw s → CapacityLaw s → CapacityLaw t
  demand : DemandLaw s → DemandLaw t
  roster : RosterLaw s → RosterLaw t

/-- An operation that keeps the law of the slot too. -/
structure Lawful (s t : State) : Prop extends Sound s t where
  slot : LatchLaw s → SlotLaw s → SlotLaw t

theorem Sound.refl (s : State) : Sound s s := ⟨id, id, fun _ => id, id, id⟩

theorem Sound.trans (h : Sound s t) (k : Sound t u) : Sound s u :=
  ⟨k.latch ∘ h.latch, k.speed ∘ h.speed, fun l c => k.capacity (h.speed l) (h.capacity l c), k.demand ∘ h.demand,
    k.roster ∘ h.roster⟩

theorem Sound.after (k : Sound t u) (h : Sound s t) : Sound s u := h.trans k

theorem Lawful.refl (s : State) : Lawful s s := ⟨Sound.refl s, fun _ => id⟩

theorem Lawful.trans (h : Lawful s t) (k : Lawful t u) : Lawful s u :=
  ⟨h.toSound.trans k.toSound, fun l c => k.slot (h.latch l) (h.slot l c)⟩

theorem Lawful.after (k : Lawful t u) (h : Lawful s t) : Lawful s u := h.trans k

theorem Lawful.ite {c : Prop} [Decidable c] (h : c → Lawful s t) (k : ¬c → Lawful s u) :
    Lawful s (if c then t else u) := by
  split
  · next hc => exact h hc
  · next hc => exact k hc

theorem Sound.ite {c : Prop} [Decidable c] (h : c → Sound s t) (k : ¬c → Sound s u) :
    Sound s (if c then t else u) := by
  split
  · next hc => exact h hc
  · next hc => exact k hc

/-! ## Operations that touch nothing a law looks at -/

/-- The fields that the laws of the train look at. -/
structure Watch where
  train : Train
  valve : Valve
  rest : RestTimer
  staged : Bool
  latches : PerCause Bool
  speed : Nat
  mode : TrimMode
  qmaxAvail : Nat
  unfit : Bool
  sp : Nat
  qReq : Nat
  profile : Option ProfileName
  entries : Vector Entry 16
  loader : Loader
  ident : Ident

def State.watch (s : State) : Watch :=
  { train := s.sequencer.train, valve := s.sequencer.valve, rest := s.sequencer.rest, staged := s.sequencer.staged,
    latches := s.protection.latches, speed := s.trim.s, mode := s.trim.mode, qmaxAvail := s.capability.qmaxAvail,
    unfit := s.capability.unfit, sp := s.staging.sp, qReq := s.demand.qReq, profile := s.demand.profile,
    entries := s.roster.entries, loader := s.loader, ident := s.ident }

theorem Sound.of_watch (h : t.watch = s.watch) : Sound s t where
  latch k := k.congr (congrArg Watch.latches h) (congrArg Watch.train h)
  speed k := k.congr (congrArg Watch.train h) (congrArg Watch.valve h) (congrArg Watch.rest h) (congrArg Watch.speed h)
    (congrArg Watch.mode h) (congrArg Watch.loader h)
  capacity _ k := k.congr (congrArg Watch.qmaxAvail h) (congrArg Watch.unfit h) (congrArg Watch.sp h)
    (congrArg Watch.train h) (congrArg Watch.loader h)
  demand k := k.congr (congrArg Watch.qReq h) (congrArg Watch.profile h) (congrArg Watch.loader h)
  roster k := k.congr (congrArg Watch.entries h) (congrArg Watch.loader h) (congrArg Watch.ident h)

theorem Lawful.of_watch (h : t.watch = s.watch) (view : t.slot.view = s.slot.view) : Lawful s t :=
  ⟨Sound.of_watch h, fun _ k => k.congr view (congrArg Watch.train h) (congrArg Watch.staged h) (congrArg Watch.loader h)⟩

/-- The blocks of which no law looks at anything. -/
def unwatched : List Block := [.time, .pins, .slot, .line, .port, .lport, .queue, .pending]

theorem watch_of_frame {bs : List Block} (h : changesOnly bs s t) (sub : bs ⊆ unwatched) : t.watch = s.watch := by
  have same : ∀ b : Block, b ∉ unwatched → b.same s t := fun b hb => h b fun k => hb (sub k)
  have sequencer : t.sequencer = s.sequencer := same .sequencer (by decide)
  have protection : t.protection = s.protection := same .protection (by decide)
  have trim : t.trim = s.trim := same .trim (by decide)
  have capability : t.capability = s.capability := same .capability (by decide)
  have staging : t.staging = s.staging := same .staging (by decide)
  have demand : t.demand = s.demand := same .demand (by decide)
  have roster : t.roster = s.roster := same .roster (by decide)
  have loader : t.loader = s.loader := same .loader (by decide)
  have ident : t.ident = s.ident := same .ident (by decide)
  simp only [State.watch, sequencer, protection, trim, capability, staging, demand, roster, loader, ident]

theorem Sound.of_frame {bs : List Block} (h : changesOnly bs s t) (sub : bs ⊆ unwatched) : Sound s t :=
  Sound.of_watch (watch_of_frame h sub)

theorem Lawful.of_frame {bs : List Block} (h : changesOnly bs s t) (sub : bs ⊆ unwatched) (slot : Block.slot ∉ bs) :
    Lawful s t :=
  Lawful.of_watch (watch_of_frame h sub) (congrArg Slot.view (h .slot slot))

/-! ## Updates of one block that a law looks at -/

/-- The laws that do not look at the estimator. -/
theorem laws_of_demand (h : changesOnly [.demand, .lport, .queue] s t) :
    (LatchLaw s → LatchLaw t) ∧ (SpeedLaw s → SpeedLaw t) ∧ (CapacityLaw s → CapacityLaw t) ∧
      (RosterLaw s → RosterLaw t) ∧ (SlotLaw s → SlotLaw t) := by
  have sequencer : t.sequencer = s.sequencer := h .sequencer (by decide)
  have protection : t.protection = s.protection := h .protection (by decide)
  have trim : t.trim = s.trim := h .trim (by decide)
  have capability : t.capability = s.capability := h .capability (by decide)
  have staging : t.staging = s.staging := h .staging (by decide)
  have roster : t.roster = s.roster := h .roster (by decide)
  have slot : t.slot = s.slot := h .slot (by decide)
  have loader : t.loader = s.loader := h .loader (by decide)
  exact
    ⟨fun k => k.congr (by rw [protection]) (by rw [sequencer]),
      fun k => k.congr (by rw [sequencer]) (by rw [sequencer]) (by rw [sequencer]) (by rw [trim]) (by rw [trim]) loader,
      fun k => k.congr (by rw [capability]) (by rw [capability]) (by rw [staging]) (by rw [sequencer]) loader,
      fun k => k.congr (by rw [roster]) loader (h .ident (by decide)),
      fun k => k.congr (by rw [slot]) (by rw [sequencer]) (by rw [sequencer]) loader⟩

theorem Lawful.of_demand (h : changesOnly [.demand, .lport, .queue] s t) (law : DemandLaw s → DemandLaw t) : Lawful s t := by
  obtain ⟨latch, speed, capacity, roster, slot⟩ := laws_of_demand h
  exact ⟨⟨latch, speed, fun _ => capacity, law, roster⟩, fun _ => slot⟩

/-- An update of the estimator that keeps Q_req and the profile. -/
theorem Lawful.of_demand_eq (h : changesOnly [.demand, .lport, .queue] s t) (qReq : t.demand.qReq = s.demand.qReq)
    (profile : t.demand.profile = s.demand.profile) : Lawful s t :=
  Lawful.of_demand h fun k => k.congr qReq profile (h .loader (by decide))

/-- The laws that do not look at the roster. -/
theorem laws_of_roster (h : changesOnly [.roster, .lport, .queue] s t) :
    (LatchLaw s → LatchLaw t) ∧ (SpeedLaw s → SpeedLaw t) ∧ (CapacityLaw s → CapacityLaw t) ∧
      (DemandLaw s → DemandLaw t) ∧ (SlotLaw s → SlotLaw t) := by
  have sequencer : t.sequencer = s.sequencer := h .sequencer (by decide)
  have protection : t.protection = s.protection := h .protection (by decide)
  have trim : t.trim = s.trim := h .trim (by decide)
  have capability : t.capability = s.capability := h .capability (by decide)
  have staging : t.staging = s.staging := h .staging (by decide)
  have demand : t.demand = s.demand := h .demand (by decide)
  have slot : t.slot = s.slot := h .slot (by decide)
  have loader : t.loader = s.loader := h .loader (by decide)
  exact
    ⟨fun k => k.congr (by rw [protection]) (by rw [sequencer]),
      fun k => k.congr (by rw [sequencer]) (by rw [sequencer]) (by rw [sequencer]) (by rw [trim]) (by rw [trim]) loader,
      fun k => k.congr (by rw [capability]) (by rw [capability]) (by rw [staging]) (by rw [sequencer]) loader,
      fun k => k.congr (by rw [demand]) (by rw [demand]) loader,
      fun k => k.congr (by rw [slot]) (by rw [sequencer]) (by rw [sequencer]) loader⟩

theorem Lawful.of_roster (h : changesOnly [.roster, .lport, .queue] s t) (law : RosterLaw s → RosterLaw t) : Lawful s t := by
  obtain ⟨latch, speed, capacity, demand, slot⟩ := laws_of_roster h
  exact ⟨⟨latch, speed, fun _ => capacity, demand, law⟩, fun _ => slot⟩

/-- An update of the capability and of SP. -/
theorem Lawful.of_capacity (h : changesOnly [.capability, .staging, .trim] s t) (speed : t.trim.s = s.trim.s)
    (mode : t.trim.mode = s.trim.mode) (law : CapacityLaw s → CapacityLaw t) : Lawful s t := by
  have sequencer : t.sequencer = s.sequencer := h .sequencer (by decide)
  have protection : t.protection = s.protection := h .protection (by decide)
  have demand : t.demand = s.demand := h .demand (by decide)
  have roster : t.roster = s.roster := h .roster (by decide)
  have slot : t.slot = s.slot := h .slot (by decide)
  have loader : t.loader = s.loader := h .loader (by decide)
  exact
    ⟨⟨fun k => k.congr (by rw [protection]) (by rw [sequencer]),
      fun k => k.congr (by rw [sequencer]) (by rw [sequencer]) (by rw [sequencer]) speed mode loader, fun _ => law,
      fun k => k.congr (by rw [demand]) (by rw [demand]) loader,
      fun k => k.congr (by rw [roster]) loader (h .ident (by decide))⟩,
      fun _ k => k.congr (by rw [slot]) (by rw [sequencer]) (by rw [sequencer]) loader⟩

/-- An update of Flow Trim. -/
theorem Lawful.of_trim (h : changesOnly [.trim, .port, .lport, .queue] s t) (law : SpeedLaw s → SpeedLaw t) : Lawful s t := by
  have sequencer : t.sequencer = s.sequencer := h .sequencer (by decide)
  have protection : t.protection = s.protection := h .protection (by decide)
  have capability : t.capability = s.capability := h .capability (by decide)
  have staging : t.staging = s.staging := h .staging (by decide)
  have demand : t.demand = s.demand := h .demand (by decide)
  have roster : t.roster = s.roster := h .roster (by decide)
  have slot : t.slot = s.slot := h .slot (by decide)
  have loader : t.loader = s.loader := h .loader (by decide)
  exact
    ⟨⟨fun k => k.congr (by rw [protection]) (by rw [sequencer]), law,
      fun _ k => k.congr (by rw [capability]) (by rw [capability]) (by rw [staging]) (by rw [sequencer]) loader,
      fun k => k.congr (by rw [demand]) (by rw [demand]) loader,
      fun k => k.congr (by rw [roster]) loader (h .ident (by decide))⟩,
      fun _ k => k.congr (by rw [slot]) (by rw [sequencer]) (by rw [sequencer]) loader⟩

/-! ## The capacity chain -/

/-- Qmax_avail and UNFIT stand as the parameter set in force asks, whatever the train does. -/
structure Ranged (s : State) : Prop where
  set : ∀ p, s.loader.params = some p →
    p.qmin ≤ s.capability.qmaxAvail ∧ s.capability.qmaxAvail ≤ 65535 ∧ p.qmin ≤ 65535 ∧
      (s.capability.unfit = true → s.capability.qmaxAvail = p.qmin)
  unset : s.loader.params = none → s.capability.qmaxAvail = 0 ∧ s.capability.unfit = false

theorem CapacityLaw.ranged (h : CapacityLaw s) : Ranged s := ⟨h.set, h.unset⟩

theorem Ranged.congr (h : Ranged s) (qmax : t.capability.qmaxAvail = s.capability.qmaxAvail)
    (unfit : t.capability.unfit = s.capability.unfit) (loader : t.loader = s.loader) : Ranged t := by
  obtain ⟨a, b⟩ := h
  constructor <;> simp only [qmax, unfit, loader] <;> assumption

theorem Ranged.law_of_stopped (h : Ranged s) (train : s.sequencer.train ≠ .running) (sp : s.staging.sp = 0) :
    CapacityLaw s :=
  ⟨h.set, h.unset, fun k => absurd k train, fun _ => sp⟩

/-- What the chain gives lies within Qmin to 65,535, and is Qmin when UNFIT (R22 to R25). -/
theorem capacityChain_range (p : Params) (tcf : Vector Nat 33) (t : Nat) (held : Fin 4) (cap : Option Nat)
    (qmin : p.qmin ≤ 65535) :
    p.qmin ≤ (capacityChain p tcf t held cap).1 ∧ (capacityChain p tcf t held cap).1 ≤ 65535 ∧
      ((capacityChain p tcf t held cap).2 = true → (capacityChain p tcf t held cap).1 = p.qmin) := by
  have pct : classPct held ≤ 100 := by
    unfold classPct
    split <;> decide
  have temp : min ((p.qmaxNom : Int) * tcfFactor tcf t / 1024).toNat 65535 ≤ 65535 := Nat.min_le_right _ _
  have health : qmaxHealth p tcf t held ≤ 65535 := by
    unfold qmaxHealth
    exact (Nat.div_le_div_right (Nat.mul_le_mul temp pct)).trans (by decide)
  have capped : cappedCapacity p tcf t held cap ≤ 65535 := by
    unfold cappedCapacity
    split
    · exact (Nat.min_le_left _ _).trans health
    · exact health
  unfold capacityChain
  dsimp only
  split
  · next le => exact ⟨le, capped, fun k => nomatch k⟩
  · exact ⟨Nat.le_refl _, qmin, fun _ => rfl⟩

theorem setSp_capability (v : Nat) : (setSp v s).capability = s.capability := setSp_frame v .capability (by decide)

theorem setSp_speed (v : Nat) : (setSp v s).trim.s = s.trim.s ∧ (setSp v s).trim.mode = s.trim.mode := by
  simp only [setSp]
  constructor <;> split <;> split <;> rfl

/-- The recomputed chain, in a part with a parameter set. -/
theorem recompute_capability {p : Params} (h : s.loader.params = some p) :
    (recompute s).capability =
      { s.capability with
        qmaxAvail := (capacityChain p s.capability.tcf s.capability.temp s.capability.held s.capability.cap).1
        unfit := (capacityChain p s.capability.tcf s.capability.temp s.capability.held s.capability.cap).2 } := by
  simp only [recompute, h]
  split
  · rw [setSp_capability]
  · rfl

/-- In RUNNING SP comes down to a lower capacity; elsewhere it stays (R84). -/
theorem recompute_sp {p : Params} (h : s.loader.params = some p) :
    (recompute s).staging.sp =
      if s.sequencer.train = .running ∧ (recompute s).capability.qmaxAvail < s.staging.sp then
        (recompute s).capability.qmaxAvail
      else s.staging.sp := by
  rw [recompute_capability h]
  simp only [recompute, h]
  split
  · rfl
  · rfl

theorem recompute_of_unset (h : s.loader.params = none) : recompute s = s := by
  simp [recompute, h]

theorem recompute_speed : (recompute s).trim.s = s.trim.s ∧ (recompute s).trim.mode = s.trim.mode := by
  unfold recompute
  split
  · exact ⟨rfl, rfl⟩
  · dsimp only
    split
    · exact setSp_speed _
    · exact ⟨rfl, rfl⟩

theorem recompute_loader : (recompute s).loader = s.loader := recompute_frame .loader (by decide)

theorem recompute_sequencer : (recompute s).sequencer = s.sequencer := recompute_frame .sequencer (by decide)

theorem recompute_ranged (qmin : ∀ p, s.loader.params = some p → p.qmin ≤ 65535)
    (unset : s.loader.params = none → s.capability.qmaxAvail = 0 ∧ s.capability.unfit = false) :
    Ranged (recompute s) := by
  cases params : s.loader.params with
  | none => rw [recompute_of_unset params]; exact ⟨fun p k => (by rw [params] at k; cases k), unset⟩
  | some p =>
    refine ⟨fun q k => ?_, fun k => ?_⟩
    · rw [recompute_loader, params] at k
      cases k
      rw [recompute_capability params]
      obtain ⟨low, high, atMin⟩ := capacityChain_range p s.capability.tcf s.capability.temp s.capability.held
        s.capability.cap (qmin p params)
      exact ⟨low, high, qmin p params, atMin⟩
    · rw [recompute_loader, params] at k
      cases k

theorem recompute_sp_of_not_running (h : s.sequencer.train ≠ .running) : (recompute s).staging.sp = s.staging.sp := by
  cases params : s.loader.params with
  | none => rw [recompute_of_unset params]
  | some p => rw [recompute_sp params, if_neg fun k => h k.1]

theorem Ranged.recompute (h : Ranged s) : Ranged (recompute s) :=
  recompute_ranged (fun p k => (h.set p k).2.2.1) h.unset

theorem CapacityLaw.recompute (h : CapacityLaw s) : CapacityLaw (recompute s) := by
  have ranged := h.ranged.recompute
  refine ⟨ranged.set, ranged.unset, fun running => ?_, fun other => ?_⟩
  · rw [recompute_sequencer] at running
    obtain ⟨p, params, low, high⟩ := h.running running
    refine ⟨p, by rw [recompute_loader, params], ?_⟩
    obtain ⟨min, -⟩ := ranged.set p (by rw [recompute_loader, params])
    rw [recompute_sp params]
    split
    · exact ⟨min, Nat.le_refl _⟩
    · next k => exact ⟨low, Nat.le_of_not_lt fun lt => k ⟨running, lt⟩⟩
  · rw [recompute_sequencer] at other
    rw [recompute_sp_of_not_running other]
    exact h.stopped other

theorem recompute_lawful : Lawful s (recompute s) :=
  Lawful.of_capacity recompute_frame recompute_speed.1 recompute_speed.2 CapacityLaw.recompute

/-- An update of the class, the temperature or the cap. -/
theorem Lawful.of_capability_eq {q : Capability} (qmax : q.qmaxAvail = s.capability.qmaxAvail)
    (unfit : q.unfit = s.capability.unfit) : Lawful s { s with capability := q } :=
  Lawful.of_capacity ((capability_frame q).mono (by decide)) rfl rfl fun k => k.congr qmax unfit rfl rfl rfl

theorem clearCap_lawful : Lawful s (clearCap s) := by
  unfold clearCap
  split
  · exact recompute_lawful.after (Lawful.of_capability_eq rfl rfl)
  · exact Lawful.refl s

theorem compareRaw_lawful : Lawful s (compareRaw s) := by
  unfold compareRaw
  dsimp only
  split
  · exact Lawful.refl s
  · split
    · exact recompute_lawful.after (Lawful.of_capability_eq rfl rfl)
    · split
      · exact Lawful.of_capability_eq rfl rfl
      · split <;> exact Lawful.of_capability_eq rfl rfl

theorem qualitySample_lawful : Lawful s (qualitySample s) := by
  unfold qualitySample
  split
  · exact Lawful.refl s
  · exact Lawful.ite (fun _ => compareRaw_lawful.after (Lawful.of_capability_eq rfl rfl)) fun _ => Lawful.refl s

theorem pressureSample_lawful : Lawful s (pressureSample s) := by
  unfold pressureSample
  split
  · exact Lawful.refl s
  · exact Lawful.ite (fun _ => compareRaw_lawful.after (Lawful.of_capability_eq rfl rfl)) fun _ => Lawful.refl s

theorem temperatureSample_lawful : Lawful s (temperatureSample s) :=
  recompute_lawful.after (Lawful.of_capability_eq rfl rfl)

theorem raise_lawful (k : EventKind) (station detail : Nat) : Lawful s (raise k station detail s) :=
  Lawful.of_frame (raise_frame _ _ _) (by decide) (by decide)

theorem raiseOwn_lawful (k : EventKind) (detail : Nat) : Lawful s (raiseOwn k detail s) := raise_lawful _ _ _

theorem takeSaturation_lawful (flow : Nat) : Lawful s (takeSaturation flow s) := by
  unfold takeSaturation
  exact Lawful.ite (fun _ => (raiseOwn_lawful _ _).after (recompute_lawful.after (Lawful.of_capability_eq rfl rfl)))
    fun _ => Lawful.refl s

/-! ## Flow Trim -/

/-- A speed within S_start to S_max while the run command is on keeps the speed law. -/
theorem SpeedLaw.of_speed (h : SpeedLaw s) (sequencer : t.sequencer = s.sequencer) (loader : t.loader = s.loader)
    (mode : t.trim.mode = s.trim.mode) (off : s.trim.mode = .off → t.trim.s = s.trim.s)
    (on : s.trim.mode ≠ .off → ∀ p, s.loader.params = some p → p.sStart ≤ s.trim.s → s.trim.s ≤ p.sMax →
      p.sStart ≤ t.trim.s ∧ t.trim.s ≤ p.sMax) : SpeedLaw t := by
  obtain ⟨valve, stands, runs, limits, unset, loading⟩ := h
  refine ⟨by rw [sequencer]; exact valve, fun stopped => ?_, fun running => ?_, by rw [loader]; exact limits,
    by rw [loader, sequencer]; exact unset, by rw [loader]; exact loading⟩
  · rw [sequencer] at stopped
    obtain ⟨zero, isOff⟩ := stands stopped
    exact ⟨(off isOff).trans zero, mode.trans isOff⟩
  · rw [sequencer] at running
    obtain ⟨p, params, low, high⟩ := runs running
    refine ⟨p, by rw [loader, params], ?_⟩
    by_cases isOff : s.trim.mode = .off
    · rw [off isOff]
      exact ⟨low, high⟩
    · exact on isOff p params low high

theorem Lawful.of_trim_eq {q : Trim} (speed : q.s = s.trim.s) (mode : q.mode = s.trim.mode) :
    Lawful s { s with trim := q } :=
  Lawful.of_trim ((trim_frame q).mono (by decide)) fun k => k.congr rfl rfl rfl speed mode rfl

@[simp] theorem setSpeed_speed (v : Nat) : (setSpeed v s).trim.s = v := by
  unfold setSpeed
  split
  · next h => exact h.symm
  · rfl

@[simp] theorem setSpeed_mode (v : Nat) : (setSpeed v s).trim.mode = s.trim.mode := by
  unfold setSpeed
  split <;> rfl

theorem clampInt_range (lo hi x : Int) (h : lo ≤ hi) : lo ≤ clampInt lo hi x ∧ clampInt lo hi x ≤ hi := by
  unfold clampInt
  omega

theorem trimUpdate_frame (p : Params) (target : Nat) :
    changesOnly [.trim, .port, .lport, .queue] s (trimUpdate p target s) := by
  unfold trimUpdate
  dsimp only
  refine changesOnly.trans ?_ ((setSpeed_frame _).mono (by decide))
  split
  · exact ((trim_frame _).mono (by decide)).trans ((raiseOwn_frame _ _).mono (by decide))
  · exact (trim_frame _).mono (by decide)

theorem trimUpdate_speed (p : Params) (target : Nat) (limits : p.sMin ≤ p.sMax) :
    p.sMin ≤ (trimUpdate p target s).trim.s ∧ (trimUpdate p target s).trim.s ≤ p.sMax ∧
      (trimUpdate p target s).trim.mode = s.trim.mode := by
  have range : ∀ x : Int, p.sMin ≤ (clampInt p.sMin p.sMax x).toNat ∧ (clampInt p.sMin p.sMax x).toNat ≤ p.sMax := by
    intro x
    obtain ⟨low, high⟩ := clampInt_range p.sMin p.sMax x (by omega)
    omega
  unfold trimUpdate
  dsimp only
  rw [setSpeed_speed, setSpeed_mode]
  refine ⟨(range _).1, (range _).2, ?_⟩
  split <;> rfl

theorem trimUpdate_lawful {p : Params} (target : Nat) (params : s.loader.params = some p) (mode : s.trim.mode ≠ .off) :
    Lawful s (trimUpdate p target s) :=
  Lawful.of_trim (trimUpdate_frame p target) fun k => by
    obtain ⟨first, second⟩ := k.limits p params
    obtain ⟨low, high, same⟩ := trimUpdate_speed (s := s) p target second
    refine k.of_speed (trimUpdate_frame p target .sequencer (by decide)) (trimUpdate_frame p target .loader (by decide))
      same (fun off => absurd off mode) fun _ q params' _ _ => ?_
    rw [params] at params'
    cases params'
    exact ⟨first.trans low, high⟩

theorem rampStep_lawful {p : Params} (params : s.loader.params = some p) (mode : s.trim.mode ≠ .off) :
    Lawful s (rampStep p s) := by
  unfold rampStep
  dsimp only
  have frame := fun v => ((trim_frame { s.trim with last := some s.time }).mono (by decide)).trans
    ((setSpeed_frame (s := { s with trim := { s.trim with last := some s.time } }) v).mono (by decide :
      [Block.trim, .port] ⊆ [.trim, .port, .lport, .queue]))
  refine Lawful.of_trim (frame _) fun k => k.of_speed (frame _ .sequencer (by decide)) (frame _ .loader (by decide)) ?_
    (fun off => absurd off mode) fun _ q params' low high => ?_
  · rw [setSpeed_mode]
  · rw [params] at params'
    cases params'
    rw [setSpeed_speed]
    have limits := k.limits p params
    split
    · exact ⟨Nat.le_refl _, limits.1.trans limits.2⟩
    · constructor <;> omega

theorem trimSample_lawful (valid : Bool) : Lawful s (trimSample valid s) := by
  unfold trimSample
  split
  · exact Lawful.refl s
  · next p params =>
    split
    · exact Lawful.refl s
    · next mode => exact rampStep_lawful params (by rw [mode]; decide)
    · next mode =>
      exact Lawful.ite (fun _ => trimUpdate_lawful _ params (by rw [mode]; decide)) fun _ => Lawful.refl s
    · next mode =>
      refine Lawful.ite (fun _ => ?_) fun _ => Lawful.of_trim_eq rfl rfl
      have update := trimUpdate_lawful s.staging.sp params (by rw [mode]; decide)
      have headroom : Lawful s (if (trimUpdate p s.staging.sp s).trim.s + 200 < p.sMax then
          clearCap (trimUpdate p s.staging.sp s) else trimUpdate p s.staging.sp s) :=
        Lawful.ite (fun _ => clearCap_lawful.after update) fun _ => update
      have settle : ∀ {v : State} (flow : Nat), Lawful v (settleWatch p flow v) := fun flow => by
        unfold settleWatch
        exact Lawful.ite (fun _ => Lawful.of_trim_eq rfl rfl) fun _ => Lawful.of_trim_eq rfl rfl
      have saturation : ∀ {v : State} (e : Int), Lawful v (saturationWatch p e v) := fun e => by
        unfold saturationWatch
        exact Lawful.ite (fun _ => Lawful.of_trim_eq rfl rfl) fun _ => Lawful.of_trim_eq rfl rfl
      exact (saturation _).after ((settle _).after headroom)

end Sys2Proof.Machine
end

section
/-! The moves of the train under the laws: the one move between states, and the operations that are built of it. -/

namespace Sys2Proof.Machine

open Sys2Proof

variable {s t u : State}

/-! ## Valve word and Flow Trim in a move -/

theorem trimStart_speed {p : Params} (h : s.loader.params = some p) :
    (trimStart s).trim.s = p.sStart ∧ (trimStart s).trim.mode = .trimQmin := by
  simp [trimStart, h]

theorem trimStart_trim_of_unset (h : s.loader.params = none) : (trimStart s).trim = s.trim := by
  simp [trimStart, h]

/-- The trim after a change of valve word: the run command's change alone reaches it (R134, R135). -/
theorem setValve_trim (v : Valve) :
    (setValve v s).trim =
      if v.run = s.sequencer.valve.run then s.trim
      else if v.run = true then (trimStart s).trim
      else (trimStop s).trim := by
  have watched : ∀ u : State, (judgeInstrument (judgeLowSuction u)).trim = u.trim := fun u =>
    (judgeInstrument_frame .trim (by decide)).trans (judgeLowSuction_frame .trim (by decide))
  have start : (trimStart (writeValve v { s with sequencer := { s.sequencer with valve := v } })).trim = (trimStart s).trim := by
    cases params : s.loader.params with
    | none =>
      rw [trimStart_trim_of_unset params]
      exact trimStart_trim_of_unset (s := writeValve v { s with sequencer := { s.sequencer with valve := v } }) params
    | some p => simp [trimStart, params, State.chan]
  unfold setValve
  split
  · next same => rw [if_pos (by rw [same])]
  · dsimp only
    split
    · next on =>
      simp only [Bool.and_eq_true, Bool.not_eq_true'] at on
      rw [if_neg (by rw [on.1, on.2]; decide), if_pos on.1]
      exact (watched _).trans start
    · split
      · next off =>
        simp only [Bool.and_eq_true, Bool.not_eq_true'] at off
        rw [if_neg (by rw [off.1, off.2]; decide), if_neg (by rw [off.1]; decide)]
        exact watched _
      · next notOn notOff =>
        rw [if_pos (by revert notOn notOff; cases v.run <;> cases s.sequencer.valve.run <;> decide)]
        rfl

theorem setValve_capacity (v : Valve) :
    (setValve v s).capability.qmaxAvail = s.capability.qmaxAvail ∧
      (setValve v s).capability.unfit = s.capability.unfit := by
  have watched : ∀ u : State, (judgeInstrument (judgeLowSuction u)).capability = u.capability := fun u =>
    (judgeInstrument_frame .capability (by decide)).trans (judgeLowSuction_frame .capability (by decide))
  unfold setValve
  split
  · exact ⟨rfl, rfl⟩
  · dsimp only
    split
    · unfold afterRunOn
      rw [watched, trimStart_frame .capability (by decide)]
      exact ⟨rfl, rfl⟩
    · split
      · unfold afterRunOff
        rw [watched]
        exact ⟨rfl, rfl⟩
      · exact ⟨rfl, rfl⟩

/-- The speed law after a change of valve word, from the valve word that goes with the train and the speed. -/
theorem SpeedLaw.setValve (h : SpeedLaw s) {v : Valve} {q : Sequencer} (run : q.valve.run = s.sequencer.valve.run)
    (word : v = valveOf q.train ∨ q.train = .unload ∧ v = { valveOf .unload with run := false })
    (needs : v.run = true → s.loader.params ≠ none)
    (waits : s.loader.params = none → q.train.needsParams = false ∧ q.rest = .stopped) :
    SpeedLaw (setValve v { s with sequencer := q }) := by
  have sequencer := setValve_sequencer (s := { s with sequencer := q }) v
  have loader : (Machine.setValve v { s with sequencer := q }).loader = s.loader := setValve_frame v .loader (by decide)
  have trim := setValve_trim (s := { s with sequencer := q }) v
  refine ⟨by rw [sequencer]; exact word, fun stopped => ?_, fun running => ?_, by rw [loader]; exact h.limits,
    by rw [loader, sequencer]; exact waits, by rw [loader]; exact h.loading⟩
  · rw [sequencer] at stopped
    replace stopped : v.run = false := stopped
    rw [trim]
    split
    · next same => exact h.off (run ▸ same ▸ stopped)
    · rw [if_neg (by rw [stopped]; decide)]
      exact ⟨rfl, rfl⟩
  · rw [sequencer] at running
    replace running : v.run = true := running
    obtain ⟨p, params⟩ := Option.ne_none_iff_exists'.mp (needs running)
    refine ⟨p, by rw [loader, params], ?_⟩
    rw [trim]
    split
    · next same =>
      obtain ⟨p', params', low, high⟩ := h.on (run ▸ same ▸ running)
      rw [params] at params'
      cases params'
      exact ⟨low, high⟩
    · rw [(trimStart_speed (s := { s with sequencer := q }) params).1]
      obtain ⟨first, second⟩ := h.limits p params
      exact ⟨Nat.le_refl _, first.trans second⟩

theorem trimFor_speed (x : Train) : (trimFor x s).trim.s = s.trim.s := by
  unfold trimFor
  split <;> rfl

theorem trimFor_mode_of_off (x : Train) (h : (valveOf x).run = false) : (trimFor x s).trim.mode = s.trim.mode := by
  cases x <;> first | rfl | cases h

theorem leaveRunning_speed : (leaveRunning s).trim.s = s.trim.s ∧ (leaveRunning s).trim.mode = s.trim.mode := by
  have cleared : ∀ u : State, (clearCap u).trim.s = u.trim.s ∧ (clearCap u).trim.mode = u.trim.mode := fun u => by
    unfold clearCap
    split
    · exact recompute_speed
    · exact ⟨rfl, rfl⟩
  unfold leaveRunning
  rw [judgeQualityTrip_frame .trim (by decide)]
  exact cleared _

/-! ## What a move leaves of the other blocks -/

/-- The state a move starts from, with a pending request that it leaves cancelled (R91). -/
def leaving (o : YieldOutcome) (x : Train) (s : State) : State :=
  if x = s.sequencer.train then s else cancelOnLeaving o s

theorem leaving_frame (o : YieldOutcome) (x : Train) : changesOnly [.slot, .line] s (leaving o x s) :=
  changesOnly_ite (changesOnly_refl _ _) (cancelOnLeaving_frame o)

/-- The state of a move before the way out of RUNNING and the record. -/
def entering (o : YieldOutcome) (x : Train) (s : State) : State :=
  trimFor x (setValve (valveOf x)
    { leaving o x s with sequencer :=
      { (leaving o x s).sequencer with train := x, phase := phaseTimerOf x s, quality := none, staged := false } })

theorem moveTo_eq (o : YieldOutcome) (x : Train) :
    moveTo o x s =
      noteChange s (if s.sequencer.train = .running ∧ x ≠ .running then leaveRunning (entering o x s) else entering o x s) :=
  rfl

theorem moveTo_slot (o : YieldOutcome) (x : Train) : (moveTo o x s).slot = (leaving o x s).slot := by
  have entered : (entering o x s).slot = (leaving o x s).slot := by
    unfold entering
    rw [trimFor_frame x .slot (by decide), setValve_frame _ .slot (by decide)]
  rw [moveTo_eq, noteChange_frame s .slot (by decide)]
  split
  · rw [leaveRunning_frame .slot (by decide), entered]
  · exact entered

theorem moveTo_loader (o : YieldOutcome) (x : Train) : (moveTo o x s).loader = s.loader := moveTo_frame o x .loader (by decide)

theorem moveTo_rest (o : YieldOutcome) (x : Train) : (moveTo o x s).sequencer.rest = s.sequencer.rest := by
  rw [moveTo_sequencer]
  split <;> rfl

theorem moveTo_staged (o : YieldOutcome) (x : Train) : (moveTo o x s).sequencer.staged = false := by
  rw [moveTo_sequencer]
  split <;> rfl

/-! ## The laws of a move -/

/-- The train states in which a latch can be set (R148, R149). -/
def Train.mayLatch : Train → Bool
  | .tripped | .flush | .unconfigured | .conflict => true
  | _ => false

theorem latchLaw_iff : LatchLaw s ↔ (s.protection.latches.any = true → s.sequencer.train.mayLatch = true) := by
  unfold LatchLaw
  cases s.sequencer.train <;> simp [Train.mayLatch]

theorem moveTo_latch {x : Train} (o : YieldOutcome)
    (guard : x.mayLatch = true ∨ s.sequencer.train.mayLatch = false ∨ s.protection.latches.any = false)
    (h : LatchLaw s) : LatchLaw (moveTo o x s) := by
  rw [latchLaw_iff] at h ⊢
  rw [moveTo_latches, moveTo_train]
  intro set
  rcases guard with may | calm | clear
  · exact may
  · rw [h set] at calm
    cases calm
  · rw [clear] at set
    cases set

theorem needsParams_of_run {x : Train} (h : (valveOf x).run = true) : x.needsParams = true := by
  cases x <;> first | rfl | cases h

theorem moveTo_speed {x : Train} (o : YieldOutcome) (guard : x.needsParams = true →
      s.sequencer.train.needsParams = true ∨ s.configured = true ∨ s.sequencer.rest ≠ .stopped)
    (h : SpeedLaw s) : SpeedLaw (moveTo o x s) := by
  have set : x.needsParams = true → s.loader.params ≠ none := fun needs unset => by
    obtain ⟨waits, rest⟩ := h.unset unset
    rcases guard needs with run | configured | timed
    · rw [waits] at run
      cases run
    · simp [State.configured, unset] at configured
    · exact timed rest
  have frame := leaving_frame (s := s) o x
  have sequencer : (leaving o x s).sequencer = s.sequencer := frame .sequencer (by decide)
  have base : SpeedLaw (leaving o x s) := (Sound.of_frame frame (by decide)).speed h
  have loader : (leaving o x s).loader = s.loader := frame .loader (by decide)
  have entered : SpeedLaw (entering o x s) := by
    have moved := base.setValve (v := valveOf x) (q := { (leaving o x s).sequencer with
      train := x, phase := phaseTimerOf x s, quality := none, staged := false }) rfl (.inl rfl)
      (fun run => by rw [loader]; exact set (needsParams_of_run run)) (fun unset => by
        rw [loader] at unset
        refine ⟨?_, by rw [sequencer]; exact (h.unset unset).2⟩
        by_contra needs
        exact set (by simpa using needs) unset)
    have same : (entering o x s).sequencer = _ := trimFor_frame x .sequencer (by decide)
    have kept : (entering o x s).loader = _ := trimFor_frame x .loader (by decide)
    obtain ⟨valve, off, on, limits, unset, loading⟩ := moved
    refine ⟨by rw [same]; exact valve, fun stopped => ?_, fun running => ?_, by rw [kept]; exact limits,
      by rw [kept, same]; exact unset, by rw [kept]; exact loading⟩
    · rw [same] at stopped
      rw [show (entering o x s).trim.s = _ from trimFor_speed x,
        show (entering o x s).trim.mode = _ from trimFor_mode_of_off x (by rw [setValve_sequencer] at stopped; exact stopped)]
      exact off stopped
    · rw [same] at running
      rw [kept, show (entering o x s).trim.s = _ from trimFor_speed x]
      exact on running
  rw [moveTo_eq]
  refine (Sound.of_frame (noteChange_frame s) (by decide)).speed ?_
  split
  · exact entered.congr (by rw [leaveRunning_sequencer]) (by rw [leaveRunning_sequencer]) (by rw [leaveRunning_sequencer])
      leaveRunning_speed.1 leaveRunning_speed.2 (leaveRunning_frame .loader (by decide))
  · exact entered

theorem entering_sequencer (o : YieldOutcome) (x : Train) :
    (entering o x s).sequencer =
      { s.sequencer with
        train := x, phase := phaseTimerOf x s, quality := none, staged := false, valve := valveOf x } := by
  unfold entering
  rw [trimFor_frame x .sequencer (by decide), setValve_sequencer,
    show (leaving o x s).sequencer = s.sequencer from leaving_frame o x .sequencer (by decide)]

/-- Qmax_avail and UNFIT stay in range in a move, which recomputes them on the way out of RUNNING alone. -/
theorem moveTo_ranged (o : YieldOutcome) (x : Train) (h : Ranged s) : Ranged (moveTo o x s) := by
  have entered : Ranged (entering o x s) := by
    have base : Ranged (leaving o x s) := h.congr (by rw [leaving_frame o x .capability (by decide)])
      (by rw [leaving_frame o x .capability (by decide)]) (leaving_frame o x .loader (by decide))
    refine Ranged.congr base ?_ ?_ ?_
    · unfold entering
      rw [trimFor_frame x .capability (by decide), (setValve_capacity _).1]
    · unfold entering
      rw [trimFor_frame x .capability (by decide), (setValve_capacity _).2]
    · unfold entering
      rw [trimFor_frame x .loader (by decide), setValve_frame _ .loader (by decide)]
  have cleared : ∀ u : State, Ranged u → Ranged (leaveRunning u) := fun u k => by
    have cap : ∀ w : State, Ranged w → Ranged (clearCap w) := fun w m => by
      unfold clearCap
      split
      · exact Ranged.recompute (m.congr rfl rfl rfl)
      · exact m
    have judged : ∀ w : State, Ranged w → Ranged (judgeQualityTrip w) := fun w m =>
      m.congr (by rw [judgeQualityTrip_frame (s := w) .capability (by decide)])
        (by rw [judgeQualityTrip_frame (s := w) .capability (by decide)]) (judgeQualityTrip_frame (s := w) .loader (by decide))
    exact judged _ (cap _ (k.congr rfl rfl rfl))
  have note := noteChange_frame (s := if s.sequencer.train = .running ∧ x ≠ .running then leaveRunning (entering o x s)
    else entering o x s) s
  rw [moveTo_eq]
  refine Ranged.congr ?_ (by rw [note .capability (by decide)]) (by rw [note .capability (by decide)])
    (note .loader (by decide))
  split
  · exact cleared _ entered
  · exact entered

/-- SP after a move: 0 on the way out of RUNNING, otherwise as it was (R84). -/
theorem moveTo_sp (o : YieldOutcome) (x : Train) :
    (moveTo o x s).staging.sp = if s.sequencer.train = .running ∧ x ≠ .running then 0 else s.staging.sp := by
  have entered : (entering o x s).staging = s.staging := by
    unfold entering
    rw [trimFor_frame x .staging (by decide), setValve_frame _ .staging (by decide)]
    exact leaving_frame o x .staging (by decide)
  rw [moveTo_eq, noteChange_frame s .staging (by decide)]
  split
  · next out =>
    unfold leaveRunning
    rw [judgeQualityTrip_frame .staging (by decide)]
    unfold clearCap
    split
    · rw [recompute_sp_of_not_running]
      rw [entering_sequencer]
      exact out.2
    · rfl
  · rw [entered]

theorem moveTo_capacity {x : Train} (o : YieldOutcome) (guard : x ≠ .running) (h : CapacityLaw s) :
    CapacityLaw (moveTo o x s) := by
  refine (moveTo_ranged o x h.ranged).law_of_stopped (by rw [moveTo_train]; exact guard) ?_
  rw [moveTo_sp]
  split
  · rfl
  · next k => exact h.stopped fun running => k ⟨running, guard⟩

theorem moveTo_demand (o : YieldOutcome) (x : Train) (h : DemandLaw s) : DemandLaw (moveTo o x s) :=
  h.congr (by rw [moveTo_frame o x .demand (by decide)]) (by rw [moveTo_frame o x .demand (by decide)]) (moveTo_loader o x)

theorem moveTo_roster (o : YieldOutcome) (x : Train) (h : RosterLaw s) : RosterLaw (moveTo o x s) :=
  h.congr (by rw [moveTo_frame o x .roster (by decide)]) (moveTo_loader o x) (moveTo_frame o x .ident (by decide))

/-- A move that the laws of the train allow: into a state with a latch, out of one without or with none set; into a phase
only from one or with a parameter set; and not into RUNNING, which takes its SP with it. -/
structure MayMove (s : State) (x : Train) : Prop where
  latch : x.mayLatch = true ∨ s.sequencer.train.mayLatch = false ∨ s.protection.latches.any = false
  params : x.needsParams = true →
    s.sequencer.train.needsParams = true ∨ s.configured = true ∨ s.sequencer.rest ≠ .stopped
  running : x ≠ .running

theorem moveTo_sound {x : Train} (o : YieldOutcome) (h : MayMove s x) : Sound s (moveTo o x s) :=
  ⟨moveTo_latch o h.latch, moveTo_speed o h.params, fun _ => moveTo_capacity o h.running, moveTo_demand o x,
    moveTo_roster o x⟩

/-! ## The slot in a move -/

/-- The slot law but for the holdings: no slot is held, and a claim that is pending matches the train. -/
structure Unheld (s : State) : Prop where
  pending : ∀ q, s.slot.view = .ownPending q →
    match q.intent with
    | .start => s.sequencer.train = .ready
    | .stop => s.sequencer.train = .running
  free : s.slot.view.isOwnHeld = false
  loading : s.loader.phase = .loading → s.loader.params = none ∧ s.slot.view.isOwn = false

theorem Unheld.congr (h : Unheld s) (view : t.slot.view = s.slot.view) (train : t.sequencer.train = s.sequencer.train)
    (loader : t.loader = s.loader) : Unheld t := by
  obtain ⟨a, b, c⟩ := h
  constructor <;> simp only [view, train, loader] at * <;> assumption

theorem SlotLaw.free_of (h : SlotLaw s) (start : s.sequencer.train.isStarting = false)
    (stop : ¬(s.sequencer.train = .unload ∧ s.sequencer.staged = true)) : Unheld s := by
  refine ⟨h.pending, ?_, h.loading⟩
  cases view : s.slot.view with
  | ownHeld k x =>
    have held := h.held k x view
    cases k with
    | start => rw [start] at held; cases held
    | stop => exact absurd held stop
  | _ => rfl

theorem Unheld.law (h : Unheld s) (start : s.sequencer.train.isStarting = false)
    (stop : ¬(s.sequencer.train = .unload ∧ s.sequencer.staged = true)) : SlotLaw s := by
  refine ⟨h.pending, fun k x view => ?_, fun k => ?_, fun a b => absurd ⟨a, b⟩ stop, h.loading⟩
  · have free := h.free
    rw [view] at free
    cases free
  · rw [start] at k
    cases k

/-- A view that is neither claimed nor held. -/
theorem Unheld.of_not_own (own : s.slot.view.isOwn = false) (loading : s.loader.phase = .loading → s.loader.params = none) :
    Unheld s := by
  refine ⟨fun q view => ?_, ?_, fun k => ⟨loading k, own⟩⟩
  · rw [view] at own
    cases own
  · cases view : s.slot.view <;> simp_all [View.isOwn, View.isOwnHeld]

theorem release_view (o : YieldOutcome) :
    (release o s).slot.view = if s.slot.view.isOwnHeld then .free else s.slot.view := by
  unfold release
  split
  · next k x view =>
    rw [show (queueYield o k (viewFree s)).slot = (viewFree s).slot from queueYield_frame o k .slot (by decide)]
    simp [view, View.isOwnHeld]
  · next other =>
    split
    · next held =>
      cases view : s.slot.view with
      | ownHeld k x => exact absurd view (other k x)
      | _ => simp [view, View.isOwnHeld] at held
    · rfl

theorem SlotLaw.loadingUnset (h : SlotLaw s) : s.loader.phase = .loading → s.loader.params = none := fun k => (h.loading k).1

/-- A release leaves no slot held. -/
theorem SlotLaw.release (h : SlotLaw s) (o : YieldOutcome) : Unheld (release o s) := by
  have frame := release_frame (s := s) o
  have sequencer : (Machine.release o s).sequencer = s.sequencer := frame .sequencer (by decide)
  have loader : (Machine.release o s).loader = s.loader := frame .loader (by decide)
  cases held : s.slot.view.isOwnHeld with
  | false =>
    rw [release_of_not_held o held]
    exact ⟨h.pending, held, h.loading⟩
  | true => exact .of_not_own (by rw [release_view, held]; rfl) (by rw [loader]; exact h.loadingUnset)

theorem Unheld.release (h : Unheld s) (o : YieldOutcome) : Unheld (release o s) := by
  rw [release_of_not_held o h.free]
  exact h

theorem SlotLaw.viewFree (h : SlotLaw s) : Unheld (viewFree s) := .of_not_own rfl h.loadingUnset

theorem SlotLaw.viewHeld (h : SlotLaw s) (v : HeldView) : Unheld (viewHeld v s) := .of_not_own rfl h.loadingUnset

theorem cancelRequest_view (o : Option YieldOutcome) :
    (cancelRequest o s).slot.view = match s.slot.view with
      | .ownPending _ => .free
      | v => v := by
  cases view : s.slot.view with
  | ownPending p =>
    simp only [cancelRequest, view]
    split
    · exact congrArg Slot.view (queueYield_frame _ _ .slot (by decide))
    · rfl
  | _ => simp only [cancelRequest, view]

/-- A move out of its state finds no claim of that state left. -/
theorem leaving_view_of_unheld {x : Train} (o : YieldOutcome) (h : Unheld s) (out : x ≠ s.sequencer.train) :
    (leaving o x s).slot.view.isOwn = false := by
  have free := h.free
  unfold leaving
  rw [if_neg out]
  unfold cancelOnLeaving
  split
  · next view _ =>
    rw [cancelRequest_view, view]
    rfl
  · next view _ =>
    rw [cancelRequest_view, view]
    rfl
  · next noStart noStop =>
    cases view : s.slot.view with
    | ownPending q =>
      have match_ := h.pending q view
      obtain ⟨intent, key, cause, sent, window⟩ := q
      cases intent with
      | start => exact absurd match_ (noStart _ _ _ _ view)
      | stop => exact absurd match_ (noStop _ _ _ _ view)
    | ownHeld k y => rw [view] at free; cases free
    | _ => rfl

theorem moveTo_unheld {x : Train} (o : YieldOutcome) (h : Unheld s) : Unheld (moveTo o x s) := by
  have slot := moveTo_slot (s := s) o x
  have loader := moveTo_loader (s := s) o x
  by_cases same : x = s.sequencer.train
  · refine h.congr ?_ (by rw [moveTo_train, same]) loader
    rw [slot, leaving, if_pos same]
  · exact .of_not_own (by rw [slot]; exact leaving_view_of_unheld o h same) (by rw [loader]; exact fun k => (h.loading k).1)

/-- Out of a state without a holding the train moves to any state but STARTING. -/
theorem Unheld.moveTo {x : Train} (h : Unheld s) (o : YieldOutcome) (there : x.isStarting = false) :
    SlotLaw (moveTo o x s) :=
  (moveTo_unheld o h).law (by rw [moveTo_train]; exact there) fun k => by
    rw [moveTo_staged] at k
    cases k.2

/-- With the slot held for a start the train moves to a phase of STARTING. -/
theorem moveTo_slot_of_start {x : Train} {hold : Timer} (o : YieldOutcome) (view : s.slot.view = .ownHeld .start hold)
    (there : x.isStarting = true) (loading : s.loader.phase ≠ .loading) : SlotLaw (moveTo o x s) := by
  have kept : (leaving o x s).slot.view = .ownHeld .start hold := by
    unfold leaving
    split
    · exact view
    · simp [cancelOnLeaving, view]
  have after : (moveTo o x s).slot.view = .ownHeld .start hold := by rw [moveTo_slot, kept]
  have loader := moveTo_loader (s := s) o x
  refine ⟨fun q k => ?_, fun k y held => ?_, fun _ => ⟨hold, after⟩, fun k _ => ?_, fun k => ?_⟩
  · rw [after] at k
    cases k
  · rw [after] at held
    cases held
    simpa using there
  · rw [moveTo_train] at k
    rw [k] at there
    cases there
  · rw [loader] at k
    exact absurd k loading

/-! ## Plain moves -/

/-- A move between states without a holding. -/
structure PlainMove (s : State) (x : Train) : Prop extends MayMove s x where
  start : s.sequencer.train.isStarting = false
  unload : s.sequencer.train ≠ .unload
  there : x.isStarting = false

theorem moveTo_lawful {x : Train} (o : YieldOutcome) (h : PlainMove s x) : Lawful s (moveTo o x s) :=
  ⟨moveTo_sound o h.toMayMove, fun _ k => (k.free_of h.start fun e => h.unload e.1).moveTo o h.there⟩

/-- A plain move out of a state that is known, with no latch there. -/
theorem PlainMove.of_train {x y : Train} (train : s.sequencer.train = y) (calm : y.mayLatch = false ∨ x.mayLatch = true)
    (start : y.isStarting = false) (unload : y ≠ .unload) (params : x.needsParams = true → y.needsParams = true)
    (there : x.isStarting = false) (running : x ≠ .running) : PlainMove s x :=
  ⟨⟨calm.elim (fun k => .inr (.inl (by rw [train]; exact k))) .inl, fun k => .inl (by rw [train]; exact params k), running⟩,
    by rw [train]; exact start, by rw [train]; exact unload, there⟩

theorem Lawful.of_sequencer_eq {q : Sequencer} (train : q.train = s.sequencer.train) (valve : q.valve = s.sequencer.valve)
    (rest : q.rest = s.sequencer.rest) (staged : q.staged = s.sequencer.staged) : Lawful s { s with sequencer := q } :=
  Lawful.of_watch (by simp only [State.watch, train, valve, rest, staged]) rfl

/-- An update of the rest timer in a part with a parameter set, or of a timer that is not stopped. -/
theorem Lawful.of_rest {r : RestTimer} (runs : s.loader.params ≠ none ∨ s.sequencer.rest ≠ .stopped) :
    Lawful s { s with sequencer := { s.sequencer with rest := r } } := by
  refine ⟨⟨fun k => k.congr rfl rfl, fun k => ?_, fun _ k => k.congr rfl rfl rfl rfl rfl, fun k => k.congr rfl rfl rfl,
    fun k => k.congr rfl rfl rfl⟩, fun _ k => k.congr rfl rfl rfl rfl⟩
  refine ⟨k.valve, k.off, k.on, k.limits, fun unset => ?_, k.loading⟩
  rcases runs with set | timed
  · exact absurd unset set
  · exact absurd (k.unset unset).2 timed

theorem startRest_lawful : Lawful s (startRest s) := by
  unfold startRest
  split
  · next p params => exact Lawful.of_rest (.inl (by rw [params]; exact Option.some_ne_none p))
  · exact Lawful.refl s

/-- REST, and READY at once with the rest timer expired. -/
theorem enterRest_lawful (h : PlainMove s .rest) : Lawful s (enterRest s) := by
  have rest := moveTo_lawful .aborted h
  unfold enterRest
  dsimp only
  split
  · next expired =>
    refine (moveTo_lawful .aborted ?_).after rest
    exact ⟨⟨.inr (.inl (by rw [moveTo_train]; rfl)), fun _ => .inr (.inr (by rw [expired]; decide)), by decide⟩,
      by rw [moveTo_train]; rfl, by rw [moveTo_train]; decide, rfl⟩
  · exact rest

/-! ## The stop -/

theorem release_sound (o : YieldOutcome) : Sound s (release o s) := Sound.of_frame (release_frame o) (by decide)

theorem release_train (o : YieldOutcome) : (release o s).sequencer = s.sequencer := release_frame o .sequencer (by decide)

theorem unloadTest_lawful : Lawful s (unloadTest s) := by
  unfold unloadTest
  refine Lawful.ite (fun ⟨unload, _⟩ => ?_) fun _ => Lawful.refl s
  have flush : ∀ u : State, u.sequencer = s.sequencer → MayMove u .flush := fun u same =>
    ⟨.inl rfl, fun _ => .inl (by rw [same, unload]; rfl), by decide⟩
  split
  · exact ⟨(moveTo_sound .aborted (flush _ (release_train _))).after (release_sound _),
      fun _ k => (k.release .completed).moveTo .aborted rfl⟩
  · next notStaged =>
    exact ⟨moveTo_sound .aborted (flush s rfl),
      fun _ k => (k.free_of (by rw [unload]; rfl) fun e => notStaged e.2).moveTo .aborted rfl⟩

/-- The run command goes off in UNLOAD. -/
theorem rampOff_lawful (h : s.sequencer.train = .unload) :
    Lawful s (setValve { s.sequencer.valve with run := false } s) := by
  have frame := setValve_frame (s := s) { s.sequencer.valve with run := false }
  have loader : (setValve { s.sequencer.valve with run := false } s).loader = s.loader := frame .loader (by decide)
  have sequencer := setValve_sequencer (s := s) { s.sequencer.valve with run := false }
  refine ⟨⟨fun k => k.congr (setValve_latches _) (by rw [sequencer]), fun k => ?_, fun _ k => ?_,
    fun k => k.congr (by rw [frame .demand (by decide)]) (by rw [frame .demand (by decide)]) loader,
    fun k => k.congr (by rw [frame .roster (by decide)]) loader (frame .ident (by decide))⟩,
    fun _ k => k.congr (by rw [frame .slot (by decide)]) (by rw [sequencer]) (by rw [sequencer]) loader⟩
  · refine k.setValve (q := s.sequencer) rfl (.inr ⟨h, ?_⟩) (fun run => nomatch run) k.unset
    rcases k.valve with word | ⟨-, word⟩
    · rw [word, h]
    · rw [word]
  · exact k.congr (setValve_capacity _).1 (setValve_capacity _).2 (by rw [frame .staging (by decide)])
      (by rw [sequencer]) loader

theorem rampArrived_lawful : Lawful s (rampArrived s) := by
  unfold rampArrived
  split
  · exact Lawful.refl s
  · exact Lawful.ite (fun ⟨unload, _⟩ => unloadTest_lawful.after (rampOff_lawful unload)) fun _ => Lawful.refl s

/-- The staged mark does not matter to the laws but for the slot's. -/
theorem staged_sound (b : Bool) : Sound s { s with sequencer := { s.sequencer with staged := b } } :=
  ⟨fun k => k.congr rfl rfl, fun k => k.congr rfl rfl rfl rfl rfl rfl, fun _ k => k.congr rfl rfl rfl rfl rfl,
    fun k => k.congr rfl rfl rfl, fun k => k.congr rfl rfl rfl⟩

/-- An entry to UNLOAD out of PRESSURIZE, DIVERT or RUNNING. -/
theorem enterUnload_sound (staged : Bool) (calm : s.sequencer.train.mayLatch = false)
    (needs : s.sequencer.train.needsParams = true) : Sound s (enterUnload staged s) :=
  rampArrived_lawful.toSound.after ((staged_sound staged).after
    (moveTo_sound .aborted ⟨.inr (.inl calm), fun _ => .inl needs, by decide⟩))

/-- UNLOAD without the slot. -/
theorem Unheld.enterUnload (h : Unheld s) (latch : LatchLaw (Machine.moveTo .aborted .unload s)) :
    SlotLaw (Machine.enterUnload false s) := by
  refine rampArrived_lawful.slot (latch.congr rfl rfl) ?_
  exact (h.moveTo .aborted rfl).congr rfl rfl (moveTo_staged _ _).symm rfl

theorem moveTo_unload_latch (calm : s.sequencer.train.mayLatch = false) (h : LatchLaw s) :
    LatchLaw (moveTo .aborted .unload s) := moveTo_latch .aborted (.inr (.inl calm)) h

/-- RUNNING to UNLOAD without the slot. -/
theorem enterUnload_of_running (running : s.sequencer.train = .running) : Lawful s (enterUnload false s) :=
  ⟨enterUnload_sound false (by rw [running]; rfl) (by rw [running]; rfl), fun latch k =>
    (k.free_of (by rw [running]; rfl) (by rw [running]; simp)).enterUnload
      (moveTo_unload_latch (by rw [running]; rfl) latch)⟩

/-- A staged stop: UNLOAD with the slot held for it. -/
theorem enterUnload_staged {hold : Timer} (running : s.sequencer.train = .running)
    (view : s.slot.view = .ownHeld .stop hold) (loading : s.loader.phase ≠ .loading) (latch : LatchLaw s) :
    SlotLaw (enterUnload true s) := by
  have kept : (moveTo .aborted .unload s).slot.view = .ownHeld .stop hold := by
    rw [moveTo_slot, leaving, if_neg (by rw [running]; decide)]
    simp [cancelOnLeaving, view]
  have train : (moveTo .aborted .unload s).sequencer.train = .unload := moveTo_train _ _
  refine rampArrived_lawful.slot ((moveTo_unload_latch (by rw [running]; rfl) latch).congr rfl rfl) ?_
  refine ⟨fun q k => ?_, fun k y held => ?_, fun k => ?_, fun _ _ => ⟨hold, kept⟩, fun k => ?_⟩
  · exact absurd (kept.symm.trans k) (by simp)
  · cases (kept.symm.trans held)
    exact ⟨train, rfl⟩
  · simp [Train.isStarting] at k
  · rw [show (_ : State).loader = s.loader from moveTo_loader _ _] at k
    exact absurd k loading

/-! ## Flush, aborts and trips -/

theorem startRest_train : (startRest s).sequencer.train = s.sequencer.train := by
  unfold startRest
  split <;> rfl

theorem startRest_staged : (startRest s).sequencer.staged = s.sequencer.staged := by
  unfold startRest
  split <;> rfl

theorem endFlush_lawful (flush : s.sequencer.train = .flush) : Lawful s (endFlush s) := by
  have train : (startRest s).sequencer.train = .flush := startRest_train.trans flush
  have move : ∀ x : Train, (x.mayLatch = true ∨ s.protection.latches.any = false) → x.isStarting = false → x ≠ .running →
      PlainMove (startRest s) x := fun x latch there running =>
    ⟨⟨latch.imp id fun k => .inr (by rw [startRest_latches]; exact k), fun _ => .inl (by rw [train]; rfl), running⟩,
      by rw [train]; rfl, by rw [train]; decide, there⟩
  have step : ∀ x : Train, (x.mayLatch = true ∨ s.protection.latches.any = false) → x.isStarting = false → x ≠ .running →
      Lawful s (moveTo .aborted x (startRest s)) := fun x latch there running =>
    (moveTo_lawful .aborted (move x latch there running)).after startRest_lawful
  unfold endFlush
  dsimp only
  split
  · exact step _ (.inl rfl) rfl (by decide)
  · split
    · exact step _ (.inl rfl) rfl (by decide)
    · next clear =>
      have none : s.protection.latches.any = false := by simpa using clear
      split
      · exact step _ (.inr none) rfl (by decide)
      · exact (enterRest_lawful (move _ (.inr none) rfl (by decide))).after startRest_lawful

theorem mayLatch_of_starting {x : Train} (h : x.isStarting = true) : x.mayLatch = false := by
  cases x <;> first | rfl | cases h

theorem needsParams_of_starting {x : Train} (h : x.isStarting = true) : x.needsParams = true := by
  cases x <;> first | rfl | cases h

theorem leaveStart_sound (h : s.sequencer.train.isStarting = true) : Sound s (leaveStart s) := by
  have calm := mayLatch_of_starting h
  have needs := needsParams_of_starting h
  unfold leaveStart
  split
  · exact moveTo_sound _ ⟨.inl rfl, fun _ => .inl needs, by decide⟩
  · exact enterUnload_sound false calm needs
  · exact enterUnload_sound false calm needs
  · exact Sound.refl s

theorem Unheld.leaveStart (h : Unheld s) (start : s.sequencer.train.isStarting = true) (latch : LatchLaw s) :
    SlotLaw (leaveStart s) := by
  have unload := moveTo_unload_latch (mayLatch_of_starting start) latch
  unfold Machine.leaveStart
  split
  · exact h.moveTo _ rfl
  · exact h.enterUnload unload
  · exact h.enterUnload unload
  · next fill press divert =>
    revert start fill press divert
    cases s.sequencer.train <;> simp [Train.isStarting]

theorem abortStart_lawful : Lawful s (abortStart s) := by
  unfold abortStart
  refine Lawful.ite (fun start => ?_) fun _ => Lawful.refl s
  have after : (release .aborted s).sequencer.train.isStarting = true := by rw [release_train]; exact start
  exact ⟨(leaveStart_sound after).after (release_sound _),
    fun latch k => (k.release .aborted).leaveStart after ((release_sound _).latch latch)⟩

theorem overflowCheck_lawful : Lawful s (overflowCheck s) := by
  unfold overflowCheck
  refine Lawful.ite (fun _ => Lawful.ite enterUnload_of_running fun _ => abortStart_lawful) fun _ => Lawful.refl s

theorem tripEnd_cases : tripEnd s = .conflict ∨ tripEnd s = .tripped := by
  unfold tripEnd
  split
  · exact .inl rfl
  · exact .inr rfl

/-- Where a trip can take the train. -/
def Train.tripTarget (x : Train) : Prop := x = .flush ∨ x = .conflict ∨ x = .tripped

theorem Train.tripTarget.mayLatch {x : Train} (h : x.tripTarget) : x.mayLatch = true := by
  rcases h with rfl | rfl | rfl <;> rfl

theorem Train.tripTarget.isStarting {x : Train} (h : x.tripTarget) : x.isStarting = false := by
  rcases h with rfl | rfl | rfl <;> rfl

theorem Train.tripTarget.running {x : Train} (h : x.tripTarget) : x ≠ .running := by
  rcases h with rfl | rfl | rfl <;> decide

theorem tripEnd_target : (tripEnd s).tripTarget := .inr tripEnd_cases

theorem afterFlush_target : (if s.flushPermitted then Train.flush else tripEnd s).tripTarget := by
  split
  · exact .inl rfl
  · exact tripEnd_target

theorem sequencerTrip_mayLatch : (sequencerTrip s).sequencer.train.mayLatch = true := by
  unfold sequencerTrip
  split
  iterate 5 rw [moveTo_train]; exact afterFlush_target.mayLatch
  · next flush =>
    split
    · rw [flush]; rfl
    · rw [moveTo_train]; exact tripEnd_target.mayLatch
  iterate 3 rw [moveTo_train]; rfl
  · next train => rw [train]; rfl
  · next train => rw [train]; rfl
  · next train => rw [train]; rfl

/-- The slot given up and the train moved, by a trip. -/
theorem tripMove_sound {x : Train} (o : YieldOutcome) (needs : s.sequencer.train.needsParams = true) (h : x.tripTarget) :
    Sound s (moveTo o x (release .tripped s)) :=
  (moveTo_sound o ⟨.inl h.mayLatch, fun _ => .inl (by rw [release_train]; exact needs), h.running⟩).after (release_sound _)

theorem waitingTrip_sound : Sound s (moveTo .tripped .tripped s) :=
  moveTo_sound _ ⟨.inl rfl, fun k => (nomatch k), by decide⟩

theorem sequencerTrip_sound : Sound s (sequencerTrip s) := by
  unfold sequencerTrip
  split
  · next train => exact tripMove_sound _ (by rw [train]; rfl) afterFlush_target
  · next train => exact tripMove_sound _ (by rw [train]; rfl) afterFlush_target
  · next train => exact tripMove_sound _ (by rw [train]; rfl) afterFlush_target
  · next train => exact tripMove_sound _ (by rw [train]; rfl) afterFlush_target
  · next train => exact tripMove_sound _ (by rw [train]; rfl) afterFlush_target
  · next train =>
    refine Sound.ite (fun _ => Sound.refl s) fun _ => (moveTo_sound _ ?_).after startRest_lawful.toSound
    exact ⟨.inl tripEnd_target.mayLatch, fun _ => .inl (by rw [startRest_train, train]; rfl), tripEnd_target.running⟩
  iterate 3 exact waitingTrip_sound
  iterate 3 exact Sound.refl s

theorem startRest_slotLaw (h : SlotLaw s) : SlotLaw (startRest s) :=
  h.congr (by rw [startRest_frame .slot (by decide)]) startRest_train startRest_staged (startRest_frame .loader (by decide))

theorem sequencerTrip_slot (h : SlotLaw s) : SlotLaw (sequencerTrip s) := by
  have waiting : ∀ {y : Train}, s.sequencer.train = y → y.isStarting = false → y ≠ .unload →
      SlotLaw (moveTo .tripped .tripped s) := fun train start unload =>
    (h.free_of (by rw [train]; exact start) fun e => unload (train ▸ e.1)).moveTo _ rfl
  unfold sequencerTrip
  split
  iterate 5 exact (h.release .tripped).moveTo _ afterFlush_target.isStarting
  · next train =>
    split
    · exact h
    · refine ((startRest_slotLaw h).free_of ?_ fun e => ?_).moveTo _ tripEnd_target.isStarting
      · rw [startRest_train, train]; rfl
      · rw [startRest_train, train] at e; cases e.1
  · next train => exact waiting train rfl (by decide)
  · next train => exact waiting train rfl (by decide)
  · next train => exact waiting train rfl (by decide)
  iterate 3 exact h

/-- A start trips with its slot given up already. -/
theorem Unheld.sequencerTrip (h : Unheld s) (start : s.sequencer.train.isStarting = true) :
    SlotLaw (sequencerTrip s) := by
  unfold Machine.sequencerTrip
  split
  iterate 5 exact (h.release .tripped).moveTo _ afterFlush_target.isStarting
  all_goals next train => rw [train] at start; cases start

/-- The last set latch has been cleared. -/
theorem leaveTripped_lawful (clear : s.protection.latches.any = false) : Lawful s (leaveTripped s) := by
  unfold leaveTripped
  refine Lawful.ite (fun tripped => ?_) fun _ => Lawful.refl s
  have train : (startRest s).sequencer.train = .tripped := startRest_train.trans tripped
  have step : ∀ x : Train, x.needsParams = false → x.isStarting = false → x ≠ .running →
      Lawful s (moveTo .aborted x (startRest s)) := fun x needs there running =>
    (moveTo_lawful .aborted ⟨⟨.inr (.inr (by rw [startRest_latches]; exact clear)), fun k => (by rw [needs] at k; cases k),
      running⟩, by rw [train]; rfl, by rw [train]; decide, there⟩).after startRest_lawful
  dsimp only
  split
  · exact step _ rfl rfl (by decide)
  · split
    · exact step _ rfl rfl (by decide)
    · exact step _ rfl rfl (by decide)

/-! ## The start -/

theorem divertQuality_lawful : Lawful s (divertQuality s) := by
  unfold divertQuality
  split
  · exact Lawful.refl s
  · exact Lawful.ite (fun _ => Lawful.of_sequencer_eq rfl rfl rfl rfl) fun _ => Lawful.refl s

/-- From one phase of STARTING to another. -/
theorem moveTo_starting {x : Train} (o : YieldOutcome) (here : s.sequencer.train.isStarting = true)
    (there : x.isStarting = true) : Lawful s (moveTo o x s) :=
  ⟨moveTo_sound o ⟨.inr (.inl (mayLatch_of_starting here)), fun _ => .inl (needsParams_of_starting here),
    fun k => by rw [k] at there; cases there⟩, fun _ k => by
      obtain ⟨hold, view⟩ := k.starting here
      refine moveTo_slot_of_start o view there fun loading => ?_
      have own := (k.loading loading).2
      rw [view] at own
      cases own⟩

theorem pressurizeTest_lawful : Lawful s (pressurizeTest s) := by
  unfold pressurizeTest
  split
  · exact Lawful.refl s
  · refine Lawful.ite (fun ⟨train, _⟩ => ?_) fun _ => Lawful.refl s
    have move : Lawful s (moveTo .aborted .divert s) := moveTo_starting .aborted (by rw [train]; rfl) rfl
    exact Lawful.ite (fun _ => divertQuality_lawful.after move) fun _ => move

theorem integrate_lawful : Lawful s (integrate s) := by
  unfold integrate
  split
  · exact Lawful.of_sequencer_eq rfl rfl rfl rfl
  · exact Lawful.refl s

/-! ## Entry to RUNNING -/

theorem share_range {p : Params} (ranged : Ranged s) (params : s.loader.params = some p) :
    p.qmin ≤ s.share p ∧ s.share p ≤ s.capability.qmaxAvail := by
  obtain ⟨low, -⟩ := ranged.set p params
  unfold State.share
  dsimp only
  split
  · exact ⟨Nat.le_refl _, low⟩
  · have clamp := clampInt_range p.qmin s.capability.qmaxAvail
      (p.qmin + (s.demand.qReq - s.sMinSum) * (s.capability.qmaxAvail - p.qmin) / s.spanSum : Nat) (by omega)
    omega

/-- The share gives the capacity law in RUNNING, and leaves SP alone elsewhere. -/
theorem computeShare_capacity {p : Params} (params : s.loader.params = some p) (ranged : Ranged s)
    (stopped : s.sequencer.train ≠ .running → s.staging.sp = 0) : CapacityLaw (computeShare s) := by
  simp only [computeShare, params]
  split
  · next running =>
    have capability : (setSp (s.share p) s).capability = s.capability := setSp_capability _
    have after : Ranged (setSp (s.share p) s) := ranged.congr (by rw [capability]) (by rw [capability]) rfl
    obtain ⟨low, high⟩ := share_range ranged params
    exact ⟨after.set, after.unset, fun _ => ⟨p, params, low, by rw [capability]; exact high⟩,
      fun k => absurd running k⟩
  · next other => exact ranged.law_of_stopped other (stopped other)

theorem computeShare_speed : (computeShare s).trim.s = s.trim.s ∧ (computeShare s).trim.mode = s.trim.mode := by
  unfold computeShare
  split
  · split
    · exact setSp_speed _
    · exact ⟨rfl, rfl⟩
  · exact ⟨rfl, rfl⟩

theorem computeShare_lawful : Lawful s (computeShare s) := by
  refine Lawful.of_capacity (computeShare_frame.mono (by decide)) computeShare_speed.1 computeShare_speed.2 fun k => ?_
  cases params : s.loader.params with
  | none =>
    rw [show computeShare s = s by simp [computeShare, params]]
    exact k
  | some p => exact computeShare_capacity params k.ranged k.stopped

end Sys2Proof.Machine
end

section
/-! Requests, views, trips, withhold causes, the roster, the demand period and the arbiter under the laws. -/

namespace Sys2Proof.Machine

open Sys2Proof

variable {s t u : State}

/-! ## Views and requests -/

/-- An update of view, line and stage counters that keeps the slot law. -/
theorem Lawful.of_view {bs : List Block} (h : changesOnly bs s t) (sub : bs ⊆ [.slot, .line, .lport, .queue])
    (slot : SlotLaw s → SlotLaw t) : Lawful s t :=
  ⟨Sound.of_frame h (List.Subset.trans sub (by decide)), fun _ => slot⟩

/-- The view turns to one that is not the own station's, with no slot held before. -/
theorem SlotLaw.of_not_own (h : SlotLaw s) (free : s.slot.view.isOwnHeld = false) (own : t.slot.view.isOwn = false)
    (sequencer : t.sequencer = s.sequencer) (loader : t.loader = s.loader) : SlotLaw t := by
  have notHeld : ∀ k x, s.slot.view ≠ .ownHeld k x := fun k x e => by rw [e] at free; cases free
  refine ⟨fun q e => ?_, fun k x e => ?_, fun start => ?_, fun unload staged => ?_, fun loading => ?_⟩
  · rw [e] at own; cases own
  · rw [e] at own; cases own
  · rw [sequencer] at start
    obtain ⟨x, e⟩ := h.starting start
    exact absurd e (notHeld _ _)
  · rw [sequencer] at unload staged
    obtain ⟨x, e⟩ := h.stopping unload staged
    exact absurd e (notHeld _ _)
  · rw [loader] at loading ⊢
    exact ⟨(h.loading loading).1, own⟩

theorem viewFree_lawful (free : s.slot.view.isOwnHeld = false) : Lawful s (viewFree s) :=
  Lawful.of_view viewFree_frame (by decide) fun k => k.of_not_own free rfl rfl rfl

theorem countersAt_sp (v : View) (st : Staging) : (countersAt v st).sp = st.sp := by
  cases v <;> rfl

theorem viewHeld_sound (h : HeldView) : Sound s (viewHeld h s) :=
  Sound.of_watch (by simp only [State.watch, viewHeld, countersAt_sp])

theorem viewHeld_lawful (h : HeldView) (free : s.slot.view.isOwnHeld = false) : Lawful s (viewHeld h s) :=
  ⟨viewHeld_sound h, fun _ k => k.of_not_own free rfl rfl rfl⟩

theorem refreshHeld_lawful (h : HeldView) (k : Kind) (r : Nat) (free : s.slot.view.isOwnHeld = false) :
    Lawful s (refreshHeld h k r s) :=
  Lawful.of_view (slot_frame _) (by decide) fun k => k.of_not_own free rfl rfl rfl

theorem cancelRequest_lawful (o : Option YieldOutcome) : Lawful s (cancelRequest o s) := by
  refine Lawful.of_view (cancelRequest_frame o) (by decide) fun k => ?_
  have frame := cancelRequest_frame (s := s) o
  have view := cancelRequest_view (s := s) o
  cases at_ : s.slot.view with
  | ownPending q =>
    rw [at_] at view
    exact k.of_not_own (by rw [at_]; rfl) (by rw [view]; rfl) (frame .sequencer (by decide)) (frame .loader (by decide))
  | _ =>
    rw [at_] at view
    exact k.congr (by rw [view, at_]) (by rw [frame .sequencer (by decide)]) (by rw [frame .sequencer (by decide)])
      (frame .loader (by decide))

/-- A frame queued touches nothing a law looks at. -/
theorem queueFrame_lawful (f : TxFrame) : Lawful s (queueFrame f s) :=
  Lawful.of_frame (queueFrame_frame f) (by decide) (by decide)

theorem queueYield_lawful (o : YieldOutcome) (k : Kind) : Lawful s (queueYield o k s) := queueFrame_lawful _

theorem queueOccupied_lawful : Lawful s (queueOccupied s) := Lawful.of_frame queueOccupied_frame (by decide) (by decide)

/-- A request from the state its kind belongs to, in a part whose load has ended. -/
theorem request_lawful (k : Kind) (train : s.sequencer.train = match k with | .start => .ready | .stop => .running)
    (live : s.loader.phase = .loading → s.loader.params ≠ none) : Lawful s (request k s) := by
  unfold request
  refine Lawful.ite (fun _ => (queueFrame_lawful _).after ?_) fun _ => Lawful.refl s
  refine ⟨Sound.of_watch rfl, fun _ law => ⟨fun q e => ?_, fun _ _ e => ?_, fun start => ?_, fun unload => ?_,
    fun loading => absurd (law.loading loading).1 (live loading)⟩⟩
  · cases e
    cases k <;> exact train
  · cases e
  · replace start : s.sequencer.train.isStarting = true := start
    rw [train] at start
    cases k <;> cases start
  · replace unload : s.sequencer.train = .unload := unload
    rw [train] at unload
    cases k <;> cases unload

/-! ## Protection -/

theorem Lawful.of_protection {q : Protection} (latches : q.latches = s.protection.latches) :
    Lawful s { s with protection := q } :=
  Lawful.of_watch (by simp only [State.watch, latches]) rfl

/-- A latch set and its record: the laws but for the latches' own. -/
theorem setLatch_kept (c : Cause) {q : Protection} :
    (SpeedLaw s → SpeedLaw (raiseOwn .trip c.code { s with protection := q })) ∧
      (CapacityLaw s → CapacityLaw (raiseOwn .trip c.code { s with protection := q })) ∧
      (DemandLaw s → DemandLaw (raiseOwn .trip c.code { s with protection := q })) ∧
      (RosterLaw s → RosterLaw (raiseOwn .trip c.code { s with protection := q })) ∧
      (SlotLaw s → SlotLaw (raiseOwn .trip c.code { s with protection := q })) :=
  ⟨fun k => k.congr rfl rfl rfl rfl rfl rfl, fun k => k.congr rfl rfl rfl rfl rfl, fun k => k.congr rfl rfl rfl,
    fun k => k.congr rfl rfl rfl, fun k => k.congr rfl rfl rfl rfl⟩

/-- The state in which a trip with its latch just set reaches the Sequencer (R148). -/
def latched (c : Cause) (s : State) : State :=
  raiseOwn .trip c.code
    { s with protection :=
      { s.protection with
        counts := s.protection.counts.put c (satInc 63 (s.protection.counts.get c))
        latches := s.protection.latches.put c true } }

theorem arrive_of_clear (c : Cause) (clear : s.protection.latches.get c = false) :
    arrive c s = sequencerTrip (latched c s) := by
  unfold arrive
  simp only [clear, Bool.false_eq_true, if_false]
  rfl

/-- A cause that arrives: the trip leaves the train where latches may be set. -/
theorem arrive_lawful (c : Cause) : Lawful s (arrive c s) := by
  cases latch : s.protection.latches.get c with
  | true =>
    rw [arrive_latched c latch]
    exact Lawful.of_protection rfl
  | false =>
    rw [arrive_of_clear c latch]
    obtain ⟨speed, capacity, demand, roster, slot⟩ := setLatch_kept (s := s) c (q := { s.protection with
      counts := s.protection.counts.put c (satInc 63 (s.protection.counts.get c))
      latches := s.protection.latches.put c true })
    have trip := sequencerTrip_sound (s := latched c s)
    refine ⟨⟨fun _ => latchLaw_iff.mpr fun _ => sequencerTrip_mayLatch, trip.speed ∘ speed,
      fun k l => trip.capacity (speed k) (capacity l), trip.demand ∘ demand, trip.roster ∘ roster⟩, fun _ k => sequencerTrip_slot (slot k)⟩

theorem arriveIf_lawful (now before : Bool) (c : Cause) : Lawful s (arriveIf now before c s) :=
  Lawful.ite (fun _ => arrive_lawful c) fun _ => Lawful.refl s

theorem judgeExternal_lawful : Lawful s (judgeExternal s) := (arriveIf_lawful _ _ _).after (Lawful.of_protection rfl)

theorem judgeDriveFault_lawful : Lawful s (judgeDriveFault s) := (arriveIf_lawful _ _ _).after (Lawful.of_protection rfl)

theorem judgePortLoss_lawful : Lawful s (judgePortLoss s) := (arriveIf_lawful _ _ _).after (Lawful.of_protection rfl)

theorem judgeHighPressure_lawful : Lawful s (judgeHighPressure s) := by
  unfold judgeHighPressure
  split
  · exact Lawful.refl s
  · exact (arriveIf_lawful _ _ _).after (Lawful.of_protection rfl)

theorem judgeAfresh_lawful : Lawful s (judgeAfresh s) :=
  judgePortLoss_lawful.after (judgeHighPressure_lawful.after (judgeDriveFault_lawful.after
    (judgeExternal_lawful.after (Lawful.of_protection rfl))))

theorem judgeLowSuction_lawful : Lawful s (judgeLowSuction s) := by
  unfold judgeLowSuction
  split
  · exact Lawful.refl s
  · exact Lawful.of_protection rfl

theorem judgeQualityTrip_lawful : Lawful s (judgeQualityTrip s) := by
  unfold judgeQualityTrip
  split
  · exact Lawful.refl s
  · exact Lawful.of_protection rfl

theorem judgeInstrument_lawful : Lawful s (judgeInstrument s) := by
  unfold judgeInstrument
  split
  · exact Lawful.refl s
  · exact Lawful.of_protection rfl

/-! ## Withhold causes -/

theorem withholdRises_lawful : Lawful s (withholdRises s) := by
  unfold withholdRises
  split
  · next train => exact moveTo_lawful _ (.of_train train (.inl rfl) rfl (by decide) (fun k => nomatch k) rfl (by decide))
  · next train => exact moveTo_lawful _ (.of_train train (.inl rfl) rfl (by decide) (fun k => nomatch k) rfl (by decide))
  iterate 3 exact abortStart_lawful
  · exact Lawful.refl s

theorem withholdFalls_lawful : Lawful s (withholdFalls s) := by
  unfold withholdFalls
  split
  · next train => exact enterRest_lawful (.of_train train (.inl rfl) rfl (by decide) (fun k => nomatch k) rfl (by decide))
  · exact Lawful.refl s

theorem withheldStopRequest_lawful (live : s.loader.phase ≠ .loading) : Lawful s (withheldStopRequest s) :=
  Lawful.ite (fun ⟨running, _⟩ => request_lawful .stop running fun k => absurd k live) fun _ => Lawful.refl s

theorem loadEnded_iff : s.loadEnded = true ↔ s.loader.phase ≠ .loading := by
  simp [State.loadEnded]

theorem withholdChanged_lawful (was arose : Bool) : Lawful s (withholdChanged was arose s) := by
  unfold withholdChanged
  refine Lawful.ite (fun ended => ?_) fun _ => Lawful.refl s
  have live := loadEnded_iff.mp ended
  have acted : Lawful s (if !was && s.withheld then withholdRises s else if was && !s.withheld then withholdFalls s
      else s) :=
    Lawful.ite (fun _ => withholdRises_lawful) fun _ => Lawful.ite (fun _ => withholdFalls_lawful) fun _ => Lawful.refl s
  have loader : (if !was && s.withheld then withholdRises s else if was && !s.withheld then withholdFalls s
      else s).loader = s.loader := by
    split
    · exact withholdRises_frame .loader (by decide)
    · split
      · exact withholdFalls_frame .loader (by decide)
      · rfl
  exact Lawful.ite (fun _ => (withheldStopRequest_lawful (by rw [loader]; exact live)).after acted) fun _ => acted

theorem setMinority_lawful (v : Bool) : Lawful s (setMinority v s) := by
  unfold setMinority
  exact Lawful.ite (fun _ => Lawful.refl s) fun _ =>
    (withholdChanged_lawful _ _).after ((raiseOwn_lawful _ _).after (Lawful.of_watch rfl rfl))

theorem minorityTest_lawful : Lawful s (minorityTest s) :=
  Lawful.ite (fun _ => setMinority_lawful _) fun _ => Lawful.refl s

/-! ## The level and the roster -/

theorem judgeLevel_lawful : Lawful s (judgeLevel s) := by
  refine Lawful.of_demand_eq judgeLevel_frame ?_ ?_ <;>
  · unfold judgeLevel
    split
    · rfl
    · split <;> split <;> rfl

theorem loseLevel_lawful : Lawful s (loseLevel s) := Lawful.of_demand_eq loseLevel_frame rfl rfl

theorem rosterChanged_lawful (changed : Bool) : Lawful s (rosterChanged changed s) :=
  Lawful.ite (fun _ => minorityTest_lawful.after judgeLevel_lawful) fun _ => judgeLevel_lawful

theorem setEntry_entries (i j : Station) (e : Entry) :
    (setEntry i e s).roster.entries[j] = if i = j then e else s.roster.entries[j] := by
  show (s.roster.entries.set i.val e i.isLt)[j.val] = _
  rw [Vector.getElem_set]
  by_cases h : i = j
  · subst h; simp
  · rw [if_neg h, if_neg fun k => h (Fin.ext k)]
    rfl

/-- The standing of one peer entry (R37, R40, R55). -/
structure EntryLaw (signature : Word16) (e : Entry) : Prop where
  live : e.validity = .live → e.tally.matchesSig signature = true
  excluded : e.validity = .excluded → e.tally.matchesSig signature = false ∧ e.snapshot = none
  empty : e.validity = .empty → e = Entry.none

theorem RosterLaw.of_peers {x : Station} (station : s.ident.station = x) (own : s.roster.entries[x].validity = .empty)
    (peers : ∀ i : Station, i ≠ x → EntryLaw s.loader.signature s.roster.entries[i])
    (loading : s.loader.phase = .loading → ∀ i : Station, s.roster.entries[i].validity = .empty) : RosterLaw s := by
  subst station
  refine ⟨fun i live => ?_, fun i excluded => ?_, fun i other => (peers i other).empty, own, loading⟩
  · by_cases e : i = s.ident.station
    · subst e; rw [own] at live; cases live
    · exact (peers i e).live live
  · by_cases e : i = s.ident.station
    · subst e; rw [own] at excluded; cases excluded
    · exact (peers i e).excluded excluded

theorem RosterLaw.peer (h : RosterLaw s) {i : Station} (other : i ≠ s.ident.station) :
    EntryLaw s.loader.signature s.roster.entries[i] := ⟨h.live i, h.excluded i, h.empty i other⟩

/-- One peer entry replaced by one that stands, after the end of the load. -/
theorem setEntry_lawful {i : Station} {e : Entry} (other : i ≠ s.ident.station)
    (live : s.loader.phase ≠ .loading) (stands : EntryLaw s.loader.signature s.roster.entries[i] →
      EntryLaw s.loader.signature e) : Lawful s (setEntry i e s) := by
  refine Lawful.of_roster ((roster_frame _).mono (by decide)) fun k => ?_
  refine .of_peers (x := s.ident.station) rfl ?_ (fun j peer => ?_) fun loading => absurd loading live
  · rw [setEntry_entries, if_neg other]
    exact k.own
  · rw [setEntry_entries]
    split
    · next e' => exact stands (k.peer (e' ▸ peer))
    · exact k.peer peer

end Sys2Proof.Machine
end

section
/-! The roster's changes, the demand period, the entry to RUNNING, the arbiter and the received frames under the laws. -/

namespace Sys2Proof.Machine

open Sys2Proof

variable {s t u : State}

/-! ## The roster -/

theorem raisePeer_lawful (k : EventKind) (i : Station) (detail : Nat) : Lawful s (raisePeer k i detail s) :=
  raise_lawful _ _ _

theorem standing_live {b : Bool} : standing b = .live ↔ b = true := by cases b <;> decide

theorem standing_excluded {b : Bool} : standing b = .excluded ↔ b = false := by cases b <;> decide

theorem standing_not_empty (b : Bool) : standing b ≠ .empty := by cases b <;> decide

/-- The entry that a TALLY is taken into (R41 to R44). -/
def tallyEntry (i : Station) (b : TallyBody) (s : State) : Entry :=
  let e := s.roster.entries[i]
  let after := standing (b.matchesSig s.loader.signature)
  { validity := after, tally := b, silence := some s.time, snapshot := if keepsSnapshot e b after then e.snapshot else none }

theorem tallyEntry_stands (i : Station) (b : TallyBody) (s : State) : EntryLaw s.loader.signature (tallyEntry i b s) := by
  refine ⟨fun k => standing_live.mp k, fun k => ⟨standing_excluded.mp k, ?_⟩, fun k => absurd k (standing_not_empty _)⟩
  replace k : standing (b.matchesSig s.loader.signature) = .excluded := k
  simp [tallyEntry, keepsSnapshot, k]

theorem takeTally_lawful {i : Station} (b : TallyBody) (other : i ≠ s.ident.station) (live : s.loader.phase ≠ .loading) :
    Lawful s (takeTally i b s) := by
  have entry : Lawful s (setEntry i (tallyEntry i b s) s) := setEntry_lawful other live fun _ => tallyEntry_stands i b s
  have arrived : Lawful s (match arrivalKind s.roster.entries[i] b with
      | some k => raisePeer k i b.stateCode (setEntry i (tallyEntry i b s) s)
      | none => setEntry i (tallyEntry i b s) s) := by
    split
    · exact (raisePeer_lawful _ _ _).after entry
    · exact entry
  exact (rosterChanged_lawful _).after (Lawful.ite (fun _ => (raisePeer_lawful _ _ _).after arrived) fun _ => arrived)

theorem RosterLaw.live_of_validity (h : RosterLaw s) {i : Station} (validity : s.roster.entries[i].validity ≠ .empty) :
    s.loader.phase ≠ .loading := fun loading => validity (h.loading loading i)

/-- One peer entry that is not EMPTY replaced by one that stands. -/
theorem setEntry_lawful_of_validity {i : Station} {e : Entry} (other : i ≠ s.ident.station)
    (validity : s.roster.entries[i].validity ≠ .empty)
    (stands : EntryLaw s.loader.signature s.roster.entries[i] → EntryLaw s.loader.signature e) :
    Lawful s (setEntry i e s) :=
  Lawful.of_roster ((roster_frame _).mono (by decide)) fun k =>
    (setEntry_lawful other (k.live_of_validity validity) stands).roster k

/-- An EMPTY entry stands. -/
theorem entryLaw_none (signature : Word16) : EntryLaw signature Entry.none :=
  ⟨fun k => (nomatch k), fun k => (nomatch k), fun _ => rfl⟩

theorem canGoStale_spec {i : Station} (h : s.canGoStale i = true) :
    i ≠ s.ident.station ∧ s.roster.entries[i].validity ≠ .empty := by
  simp only [State.canGoStale, Bool.and_eq_true, Bool.not_eq_true', decide_eq_false_iff_not, Bool.or_eq_true,
    decide_eq_true_eq] at h
  obtain ⟨⟨other, validity⟩, -⟩ := h
  exact ⟨other, fun e => by rcases validity with k | k <;> rw [e] at k <;> cases k⟩

theorem canDrop_spec {i : Station} (h : s.canDrop i = true) :
    i ≠ s.ident.station ∧ s.roster.entries[i].validity ≠ .empty := by
  simp only [State.canDrop, Bool.and_eq_true, Bool.not_eq_true', decide_eq_false_iff_not, decide_eq_true_eq] at h
  obtain ⟨⟨other, validity⟩, -⟩ := h
  exact ⟨other, fun e => by rw [e] at validity; cases validity⟩

theorem goStale_lawful {i : Station} (h : s.canGoStale i = true) : Lawful s (goStale i s) := by
  obtain ⟨other, validity⟩ := canGoStale_spec h
  exact (raisePeer_lawful _ _ _).after (setEntry_lawful_of_validity other validity fun _ =>
    ⟨fun k => (nomatch k), fun k => (nomatch k), fun k => (nomatch k)⟩)

theorem dropPeer_lawful {i : Station} (h : s.canDrop i = true) : Lawful s (dropPeer i s) := by
  obtain ⟨other, validity⟩ := canDrop_spec h
  exact (raisePeer_lawful _ _ _).after (setEntry_lawful_of_validity other validity fun _ => entryLaw_none _)

theorem compareSilence_lawful (i : Station) : Lawful s (compareSilence s i) := by
  unfold compareSilence
  dsimp only
  have stale : Lawful s (if s.canGoStale i && silentFor 4 s.roster.entries[i] s then goStale i s else s) :=
    Lawful.ite (fun k => goStale_lawful (Bool.and_eq_true_iff.mp k).1) fun _ => Lawful.refl s
  exact Lawful.ite (fun k => (dropPeer_lawful (Bool.and_eq_true_iff.mp k).1).after stale) fun _ => stale

theorem Lawful.foldl {α : Type} {f : State → α → State} (h : ∀ s a, Lawful s (f s a)) (l : List α) :
    Lawful s (l.foldl f s) := by
  induction l generalizing s with
  | nil => exact Lawful.refl s
  | cons a l ih => exact (h s a).trans ih

theorem compareSilences_lawful : Lawful s (compareSilences s) := by
  have fold : Lawful s (stations.foldl compareSilence s) := Lawful.foldl (fun _ i => compareSilence_lawful i) _
  exact Lawful.ite (fun _ => fold) fun _ => (rosterChanged_lawful _).after fold

/-! ## Re-judging (R55) -/

/-- One peer entry after it has been re-judged. -/
def rejudged (old now : Word16) (e : Entry) : Entry :=
  match e.validity with
  | .live => if e.tally.matchesSig now then e else { e with validity := .excluded, snapshot := none }
  | .excluded => if e.tally.matchesSig now then { e with validity := .live, snapshot := none } else e
  | .stale => if e.tally.matchesSig old && !e.tally.matchesSig now then { e with snapshot := none } else e
  | .empty => e

theorem rejudgeEntry_frame (old : Word16) (i : Station) :
    changesOnly [.roster, .lport, .queue] s (rejudgeEntry old s i) := by
  have set : ∀ e, changesOnly [.roster, .lport, .queue] s (setEntry i e s) := fun e => (roster_frame _).mono (by decide)
  unfold rejudgeEntry
  dsimp only
  split
  · exact changesOnly_refl _ _
  · split
    · split
      · exact changesOnly_refl _ _
      · exact (set _).trans ((raise_frame _ _ _).mono (by decide))
    · exact changesOnly_ite (set _) (changesOnly_refl _ _)
    · exact changesOnly_ite (set _) (changesOnly_refl _ _)
    · exact changesOnly_refl _ _

/-- Re-judging one entry changes that one, of a peer. -/
theorem rejudgeEntry_entries (old : Word16) (i j : Station) :
    (rejudgeEntry old s i).roster.entries[j] =
      if i = j ∧ j ≠ s.ident.station then rejudged old s.loader.signature s.roster.entries[j]
      else s.roster.entries[j] := by
  have set : ∀ e, (setEntry i e s).roster.entries[j] = if i = j then e else s.roster.entries[j] := fun e =>
    setEntry_entries i j e
  by_cases same : i = j
  · subst same
    by_cases own : i = s.ident.station
    · simp [rejudgeEntry, own]
    · rw [if_pos ⟨rfl, own⟩]
      have put : ∀ e, (setEntry i e s).roster.entries[i] = e := fun e => by rw [set, if_pos rfl]
      unfold rejudgeEntry rejudged
      rw [if_neg own]
      cases validity : s.roster.entries[i].validity with
      | live =>
        dsimp only
        split
        · rfl
        · exact put _
      | excluded =>
        dsimp only
        split
        · exact put _
        · rfl
      | stale =>
        dsimp only
        split
        · exact put _
        · rfl
      | empty => rfl
  · rw [if_neg fun k => same k.1]
    have raised : ∀ e k d, (raisePeer k i d (setEntry i e s)).roster.entries[j] = s.roster.entries[j] := fun e k d => by
      show (setEntry i e s).roster.entries[j] = _
      rw [set, if_neg same]
    unfold rejudgeEntry
    dsimp only
    split
    · rfl
    · split
      · split
        · rfl
        · exact raised _ _ _
      · split
        · rw [set, if_neg same]
        · rfl
      · split
        · rw [set, if_neg same]
        · rfl
      · rfl

theorem rejudge_frame (old : Word16) : changesOnly [.roster, .lport, .queue] s (rejudge old s) := by
  have fold : ∀ (l : List Station) (s : State), changesOnly [.roster, .lport, .queue] s (l.foldl (rejudgeEntry old) s) := by
    intro l
    induction l with
    | nil => exact fun s => changesOnly_refl _ s
    | cons i l ih => exact fun s => (rejudgeEntry_frame old i).trans (ih _)
  exact fold stations s

/-- Re-judging changes every peer entry once. -/
theorem rejudge_entries (old : Word16) (j : Station) :
    (rejudge old s).roster.entries[j] =
      if j = s.ident.station then s.roster.entries[j] else rejudged old s.loader.signature s.roster.entries[j] := by
  have fold : ∀ (l : List Station) (s : State), l.Nodup → (l.foldl (rejudgeEntry old) s).roster.entries[j] =
      if j ∈ l ∧ j ≠ s.ident.station then rejudged old s.loader.signature s.roster.entries[j]
      else s.roster.entries[j] := by
    intro l
    induction l with
    | nil => intro s _; simp
    | cons i l ih =>
      intro s nodup
      obtain ⟨notMem, nodup⟩ := List.nodup_cons.mp nodup
      have frame := rejudgeEntry_frame (s := s) old i
      have ident : (rejudgeEntry old s i).ident = s.ident := frame .ident (by decide)
      have loader : (rejudgeEntry old s i).loader = s.loader := frame .loader (by decide)
      rw [List.foldl_cons, ih _ nodup, ident, loader, rejudgeEntry_entries]
      by_cases same : i = j
      · subst same
        simp [notMem]
      · have : j ≠ i := fun k => same k.symm
        simp [same, this]
  have all : j ∈ stations := by fin_cases j <;> decide
  rw [rejudge, fold stations s (by decide)]
  by_cases own : j = s.ident.station
  · rw [if_neg fun k => k.2 own, if_pos own]
  · rw [if_pos ⟨all, own⟩, if_neg own]

/-- A re-judged entry stands against the new signature, if EMPTY ones held nothing. -/
theorem entryLaw_rejudged (old now : Word16) {e : Entry} (empty : e.validity = .empty → e = Entry.none)
    (excluded : e.validity = .excluded → e.snapshot = none) : EntryLaw now (rejudged old now e) := by
  unfold rejudged
  split
  · next validity =>
    split
    · next m => exact ⟨fun _ => m, fun k => absurd (validity.symm.trans k) (by decide), empty⟩
    · next m => exact ⟨fun k => (nomatch k), fun _ => ⟨by simpa using m, rfl⟩, fun k => (nomatch k)⟩
  · next validity =>
    split
    · next m => exact ⟨fun _ => m, fun k => (nomatch k), fun k => (nomatch k)⟩
    · next m =>
      exact ⟨fun k => absurd (validity.symm.trans k) (by decide), fun _ => ⟨by simpa using m, excluded validity⟩, empty⟩
  · next validity =>
    have stale : ∀ x : Entry, x.validity = .stale → EntryLaw now x := fun x k =>
      ⟨fun e => absurd (k.symm.trans e) (by decide), fun e => absurd (k.symm.trans e) (by decide),
        fun e => absurd (k.symm.trans e) (by decide)⟩
    split
    · exact stale _ validity
    · exact stale _ validity
  · next validity =>
    exact ⟨fun k => absurd (validity.symm.trans k) (by decide), fun k => absurd (validity.symm.trans k) (by decide), empty⟩

/-- Re-judging makes the roster stand against the signature in force, whichever it stood against before. -/
theorem rejudge_rosterLaw (old : Word16) (own : s.roster.entries[s.ident.station].validity = .empty)
    (peers : ∀ i : Station, i ≠ s.ident.station → (s.roster.entries[i].validity = .empty → s.roster.entries[i] = Entry.none) ∧
      (s.roster.entries[i].validity = .excluded → s.roster.entries[i].snapshot = none))
    (live : s.loader.phase ≠ .loading) : RosterLaw (rejudge old s) := by
  have frame := rejudge_frame (s := s) old
  have entries := rejudge_entries (s := s) old
  generalize rejudge old s = r at *
  have ident : r.ident = s.ident := frame .ident (by decide)
  have loader : r.loader = s.loader := frame .loader (by decide)
  refine .of_peers (x := s.ident.station) (by rw [ident]) ?_ (fun i other => ?_) fun loading => absurd (loader ▸ loading) live
  · rw [entries, if_pos rfl]
    exact own
  · rw [entries, if_neg other, loader]
    exact entryLaw_rejudged old _ (peers i other).1 (peers i other).2

/-! ## The demand period -/

theorem limitQreq_demandLaw (none : s.activeProfile = none → s.demand.qReq = 0)
    (loading : s.loader.phase = .loading → s.loader.params = Option.none) : DemandLaw (limitQreq s) := by
  unfold limitQreq
  split
  · next f active =>
    refine ⟨fun g k => ?_, fun k => absurd (active.symm.trans k) (by simp), loading⟩
    cases (active.symm.trans k)
    exact Nat.min_le_right _ _
  · next inactive => exact ⟨fun g k => absurd (inactive.symm.trans k) (by simp), none, loading⟩

theorem activeProfile_none_of_some {n : ProfileName} (h : s.demand.profile = some n) (k : s.activeProfile = none) :
    s.loader.params = none := by
  unfold State.activeProfile at k
  split at k
  · cases k
  · next other =>
    cases params : s.loader.params with
    | none => rfl
    | some p => exact absurd h (other p n params)

theorem activeProfile_of_unset (h : s.loader.params = none) : s.activeProfile = none := by
  simp [State.activeProfile, h]

theorem sampleProfile_lawful : Lawful s (sampleProfile s) :=
  Lawful.of_demand sampleProfile_frame fun k => by
    unfold sampleProfile
    dsimp only
    split
    · exact k
    · refine limitQreq_demandLaw (fun inactive => ?_) k.loading
      exact k.none (activeProfile_of_unset (activeProfile_none_of_some
        (s := raiseOwn .profileChange (profileCode (profileFor s.pins.tariff))
          { s with demand := { s.demand with profile := some (profileFor s.pins.tariff) } }) rfl inactive))

/-- The demand and the snapshots change together in a period. -/
theorem Lawful.of_demand_roster {q : Demand} {r : Roster} (law : DemandLaw s → DemandLaw { s with demand := q })
    (roster : RosterLaw s → RosterLaw { s with roster := r }) : Lawful s { s with demand := q, roster := r } :=
  ⟨⟨fun k => k.congr rfl rfl, fun k => k.congr rfl rfl rfl rfl rfl rfl, fun _ k => k.congr rfl rfl rfl rfl rfl,
    fun k => (law k).congr rfl rfl rfl, fun k => (roster k).congr rfl rfl rfl⟩, fun _ k => k.congr rfl rfl rfl rfl⟩

theorem entry_of_peer {i : Station} (other : i ≠ s.ident.station) : s.entry i = s.roster.entries[i] := by
  rw [State.entry, if_neg other]

theorem counted_iff (e : Entry) : e.counted = true ↔ e.validity = .live ∨ e.validity = .stale := by
  simp [Entry.counted]

theorem ofFn_getElem {α : Type} (f : Station → α) (i : Station) : (Vector.ofFn f)[i] = f i := by
  show (Vector.ofFn f)[i.val] = f i
  rw [Vector.getElem_ofFn]

/-- New snapshots keep the roster law where an EXCLUDED and an EMPTY entry get none. -/
theorem snapshots_rosterLaw {f : Station → Option Nat} (h : RosterLaw s)
    (none : ∀ i : Station, i ≠ s.ident.station → s.roster.entries[i].validity = .excluded ∨ s.roster.entries[i].validity = .empty →
      f i = none) :
    RosterLaw { s with roster :=
      { s.roster with entries := Vector.ofFn fun i : Station => { s.roster.entries[i] with snapshot := f i } } } := by
  refine .of_peers (x := s.ident.station) rfl ?_ (fun i other => ?_) fun loading i => ?_
  · simp only [ofFn_getElem]
    exact h.own
  · simp only [ofFn_getElem]
    have peer := h.peer other
    refine ⟨peer.live, fun k => ⟨(peer.excluded k).1, none i other (.inl k)⟩, fun k => ?_⟩
    have entry := peer.empty k
    simp only [none i other (.inr k), entry]
    rfl
  · simp only [ofFn_getElem]
    exact h.loading loading i

theorem setSnapshots_eq :
    setSnapshots s =
      { s with roster :=
        { s.roster with
          entries := Vector.ofFn fun i : Station =>
            { s.roster.entries[i] with
              snapshot := if (s.entry i).counted then some (s.entry i).tally.totalizer else s.roster.entries[i].snapshot } } } := by
  have same : (fun i : Station => if (s.entry i).counted then
      { s.roster.entries[i] with snapshot := some (s.entry i).tally.totalizer } else s.roster.entries[i]) =
      fun i : Station => { s.roster.entries[i] with
        snapshot := if (s.entry i).counted then some (s.entry i).tally.totalizer else s.roster.entries[i].snapshot } := by
    funext i
    split <;> rfl
  show { s with roster := { s.roster with entries := Vector.ofFn fun i : Station => if (s.entry i).counted then
      { s.roster.entries[i] with snapshot := some (s.entry i).tally.totalizer } else s.roster.entries[i] } } = _
  rw [same]

theorem setSnapshots_rosterLaw (h : RosterLaw s) : RosterLaw (setSnapshots s) := by
  rw [setSnapshots_eq]
  refine snapshots_rosterLaw h fun i other validity => ?_
  have peer := h.peer other
  rw [if_neg]
  · rcases validity with k | k
    · exact (peer.excluded k).2
    · rw [peer.empty k]
      rfl
  · rw [counted_iff, entry_of_peer other]
    rcases validity with k | k <;> rw [k] <;> simp

theorem refreshSnapshots_rosterLaw (h : RosterLaw s) : RosterLaw (refreshSnapshots s) := by
  unfold refreshSnapshots
  refine snapshots_rosterLaw h fun i other validity => ?_
  rw [if_neg]
  rw [counted_iff, entry_of_peer other]
  rcases validity with k | k <;> rw [k] <;> simp

theorem demandPath_lawful : Lawful s (demandPath s) := by
  unfold demandPath
  split
  · next p f params active =>
    have kept : ∀ q : Demand, q.profile = s.demand.profile → q.qReq ≤ f.qPlantMax → DemandLaw s →
        DemandLaw { s with demand := q } := fun q profile le k => by
      have same : State.activeProfile { s with demand := q } = s.activeProfile := by simp [State.activeProfile, profile]
      refine ⟨fun g e => ?_, fun e => ?_, k.loading⟩
      · rw [same, active] at e
        cases e
        exact le
      · rw [same, active] at e
        cases e
    refine Lawful.ite (fun _ => Lawful.refl s) fun _ => ?_
    split
    · refine Lawful.of_demand_roster (fun k => kept _ rfl ?_ k) setSnapshots_rosterLaw
      dsimp only
      split
      · exact Nat.zero_le _
      · exact k.active f active
    · refine Lawful.of_demand_roster (fun k => kept _ rfl ?_ k) refreshSnapshots_rosterLaw
      dsimp only
      split
      · exact Nat.zero_le _
      · have := clampInt_range 0 f.qPlantMax
        have bound : ∀ x : Int, (clampInt 0 f.qPlantMax x).toNat ≤ f.qPlantMax := fun x => by
          have := this x (by omega)
          omega
        exact bound _
  · exact Lawful.refl s

theorem Lawful.of_staging {q : Staging} (sp : q.sp = s.staging.sp) : Lawful s { s with staging := q } :=
  Lawful.of_watch (by simp only [State.watch, sp]) rfl

/-- The own train among the start candidates is in READY, outside CONFLICT. -/
theorem own_startCandidate (h : s.ident.station ∈ s.startCandidates) : s.sequencer.train = .ready := by
  simp only [State.startCandidates, List.mem_filter, Bool.and_eq_true, decide_eq_true_eq] at h
  obtain ⟨-, ⟨validity, code⟩, -⟩ := h
  rw [State.entry, if_pos rfl] at validity code
  dsimp only at validity code
  split at validity
  · next ended =>
    rw [if_pos ended] at code
    replace code : s.ownCode = 2 := code
    unfold State.ownCode at code
    split at code
    · cases code
    · revert code
      cases s.sequencer.train <;> simp [Train.code]
  · cases validity

/-- The own train among the stop candidates is in RUNNING, outside CONFLICT. -/
theorem own_stopCandidate (h : s.ident.station ∈ s.stopCandidates) : s.sequencer.train = .running := by
  simp only [State.stopCandidates, List.mem_filter, Bool.and_eq_true, decide_eq_true_eq] at h
  obtain ⟨-, ⟨validity, code⟩, -⟩ := h
  rw [State.entry, if_pos rfl] at validity code
  dsimp only at validity code
  split at validity
  · next ended =>
    rw [if_pos ended] at code
    replace code : s.ownCode = 4 := code
    unfold State.ownCode at code
    split at code
    · cases code
    · revert code
      cases s.sequencer.train <;> simp [Train.code]
  · cases validity

theorem startRequest_lawful (p : Params) (set : s.loader.params ≠ none) : Lawful s (startRequest p s) := by
  unfold startRequest
  exact Lawful.ite (fun ⟨mem, _⟩ => request_lawful .start (own_startCandidate mem) fun _ => set) fun _ => Lawful.refl s

theorem stopRequest_lawful (p : Params) (set : s.loader.params ≠ none) : Lawful s (stopRequest p s) := by
  unfold stopRequest
  exact Lawful.ite (fun ⟨mem, _⟩ => request_lawful .stop (own_stopCandidate mem) fun _ => set) fun _ => Lawful.refl s

theorem startRequest_loader (p : Params) : (startRequest p s).loader = s.loader := by
  unfold startRequest
  dsimp only
  split
  · exact request_frame _ .loader (by decide)
  · rfl

theorem countStages_sp (up down : Bool) (st : Staging) : (countStages up down st).sp = st.sp := by
  unfold countStages
  split
  · rfl
  · split <;> rfl

theorem stageEvaluation_lawful (p : Params) (f : Profile) (lost : Bool) (set : s.loader.params ≠ none) :
    Lawful s (stageEvaluation p f lost s) := by
  unfold stageEvaluation
  refine Lawful.ite (fun _ => Lawful.of_staging rfl) fun _ => Lawful.ite (fun _ => Lawful.refl s) fun _ => ?_
  have counted : Lawful s { s with staging := countStages (s.upCond p f) (s.downCond p f) s.staging } :=
    Lawful.of_staging (countStages_sp _ _ _)
  refine (stopRequest_lawful p (by rw [startRequest_loader]; exact set)).after (Lawful.trans counted ?_)
  exact startRequest_lawful p set

/-! ## Entry to RUNNING -/

/-- The Sequencer on entry to RUNNING (R116). -/
def runningSequencer (s : State) : Sequencer :=
  { (moveTo .aborted .running s).sequencer with
    minRun := match s.loader.params with
      | some p => startTimer s.time (seconds (p.minRunMin * 60))
      | none => none
    minRunMet := false
    failures := 0
    intPoint := some s.time }

/-- Entry to RUNNING up to the share (R116). -/
def runningEntered (s : State) : State :=
  judgeQualityTrip (release .completed { moveTo .aborted .running s with sequencer := runningSequencer s })

theorem runningSequencer_train : (runningSequencer s).train = .running := by
  unfold runningSequencer
  exact moveTo_train _ _

theorem runningSequencer_lawful :
    Lawful (moveTo .aborted .running s) { moveTo .aborted .running s with sequencer := runningSequencer s } := by
  unfold runningSequencer
  exact Lawful.of_sequencer_eq rfl rfl rfl rfl

theorem runningEntered_sequencer : (runningEntered s).sequencer = runningSequencer s := by
  rw [runningEntered, judgeQualityTrip_frame .sequencer (by decide), release_train]

theorem runningEntered_capability : (runningEntered s).capability = (moveTo .aborted .running s).capability := by
  rw [runningEntered, judgeQualityTrip_frame .capability (by decide), release_frame _ .capability (by decide)]

theorem runningEntered_loader : (runningEntered s).loader = s.loader := by
  rw [runningEntered, judgeQualityTrip_frame .loader (by decide), release_frame _ .loader (by decide)]
  exact moveTo_loader _ _

theorem runningEntered_view :
    (runningEntered s).slot.view =
      if (moveTo .aborted .running s).slot.view.isOwnHeld then .free else (moveTo .aborted .running s).slot.view := by
  rw [runningEntered, judgeQualityTrip_frame .slot (by decide), release_view]

theorem runningEntered_sound : Sound (moveTo .aborted .running s) (runningEntered s) :=
  judgeQualityTrip_lawful.toSound.after ((release_sound _).after runningSequencer_lawful.toSound)

theorem enterRunning_sound (divert : s.sequencer.train = .divert) : Sound s (enterRunning s) := by
  have after := runningEntered_sound (s := s)
  have whole : Sound (runningEntered s) (enterRunning s) :=
    overflowCheck_lawful.toSound.after computeShare_lawful.toSound
  have calm : s.sequencer.train.mayLatch = false := by rw [divert]; rfl
  have needs : s.sequencer.train.needsParams = true := by rw [divert]; rfl
  have speed : SpeedLaw s → SpeedLaw (runningEntered s) := fun k => after.speed (moveTo_speed _ (fun _ => .inl needs) k)
  refine ⟨fun k => whole.latch (after.latch (moveTo_latch _ (.inr (.inl calm)) k)), fun k => whole.speed (speed k),
    fun law k => ?_, fun k => whole.demand (after.demand (moveTo_demand _ _ k)),
    fun k => whole.roster (after.roster (moveTo_roster _ _ k))⟩
  obtain ⟨p, params⟩ : ∃ p, s.loader.params = some p := Option.ne_none_iff_exists'.mp fun unset => by
    rw [(law.unset unset).1] at needs
    cases needs
  have ranged : Ranged (runningEntered s) := (moveTo_ranged .aborted .running k.ranged).congr
    (by rw [runningEntered_capability]) (by rw [runningEntered_capability])
    (by rw [runningEntered_loader, moveTo_loader])
  have share : CapacityLaw (computeShare (runningEntered s)) :=
    computeShare_capacity (by rw [runningEntered_loader, params]) ranged fun other => absurd (by
      rw [runningEntered_sequencer, runningSequencer_train]) other
  exact overflowCheck_lawful.capacity (computeShare_lawful.speed (speed law)) share

/-- In DIVERT no claim is pending. -/
theorem not_pending_of_divert (divert : s.sequencer.train = .divert) (claim : Unheld s ∨ SlotLaw s) (p : PendingView) :
    s.slot.view ≠ .ownPending p := fun view => by
  have kind : match p.intent with
      | .start => s.sequencer.train = .ready
      | .stop => s.sequencer.train = .running := claim.elim (fun k => k.pending p view) fun k => k.pending p view
  rw [divert] at kind
  revert kind
  cases p.intent <;> simp

/-- After the entry to RUNNING no slot is held: a held one is released, and a start has no other. -/
theorem enterRunning_slot (divert : s.sequencer.train = .divert)
    (claim : Unheld s ∨ SlotLaw s) (latch : LatchLaw s) : SlotLaw (enterRunning s) := by
  have noPending := not_pending_of_divert divert claim
  have kept : (moveTo .aborted .running s).slot = s.slot := by
    rw [moveTo_slot, leaving, if_neg (by rw [divert]; decide)]
    unfold cancelOnLeaving
    split
    · next view _ => exact absurd view (noPending _)
    · next view _ => exact absurd view (noPending _)
    · rfl
  have own : (runningEntered s).slot.view.isOwn = false := by
    rw [runningEntered_view, kept]
    cases at_ : s.slot.view with
    | ownPending p => exact absurd at_ (noPending p)
    | _ => rfl
  have unset : s.loader.phase = .loading → s.loader.params = none :=
    claim.elim (fun k l => (k.loading l).1) fun k l => (k.loading l).1
  have running : (runningEntered s).sequencer.train = .running := by
    rw [runningEntered_sequencer, runningSequencer_train]
  have law : SlotLaw (runningEntered s) := (Unheld.of_not_own own (by rw [runningEntered_loader]; exact unset)).law
    (by rw [running]; rfl) (by rw [running]; simp)
  have calm : LatchLaw (runningEntered s) :=
    runningEntered_sound.latch (moveTo_latch _ (.inr (.inl (by rw [divert]; rfl))) latch)
  have share : Lawful (runningEntered s) (enterRunning s) := overflowCheck_lawful.after computeShare_lawful
  exact share.slot calm law

theorem enterRunning_lawful (divert : s.sequencer.train = .divert) : Lawful s (enterRunning s) :=
  ⟨enterRunning_sound divert, fun latch k => enterRunning_slot divert (.inr k) latch⟩

/-! ## The demand period end -/

theorem overflowCheck_loader : (overflowCheck s).loader = s.loader := overflowCheck_frame .loader (by decide)

theorem snapshotPeriod_loader (p : Params) : (snapshotPeriod p s).loader = s.loader := by
  unfold snapshotPeriod
  exact setSnapshots_loader s

theorem fullPeriod_loader (p : Params) (f : Profile) (prev : Nat) : (fullPeriod p f prev s).loader = s.loader := by
  unfold fullPeriod
  exact refreshSnapshots_loader s

theorem demandPath_loader : (demandPath s).loader = s.loader := by
  unfold demandPath
  split
  · split
    · rfl
    · split
      · exact snapshotPeriod_loader _
      · exact fullPeriod_loader _ _ _
  · rfl

theorem stageEvaluation_loader (p : Params) (f : Profile) (lost : Bool) : (stageEvaluation p f lost s).loader = s.loader := by
  unfold stageEvaluation
  split
  · rfl
  · split
    · rfl
    · unfold stopRequest
      dsimp only
      split
      · rw [request_frame _ .loader (by decide), startRequest_loader]
      · rw [startRequest_loader]

theorem demandPeriod_lawful {p : Params} (params : s.loader.params = some p) : Lawful s (demandPeriod p s) := by
  have set : s.loader.params ≠ none := by rw [params]; exact Option.some_ne_none p
  have first : Lawful s (sampleProfile
      { s with demand := { s.demand with periodTimer := startTimer s.time (seconds p.tD) } }) :=
    sampleProfile_lawful.after (Lawful.of_demand_eq ((demand_frame _).mono (by decide)) rfl rfl)
  have loader1 : (sampleProfile
      { s with demand := { s.demand with periodTimer := startTimer s.time (seconds p.tD) } }).loader = s.loader :=
    sampleProfile_frame .loader (by decide)
  unfold demandPeriod
  dsimp only
  generalize sampleProfile { s with demand := { s.demand with periodTimer := startTimer s.time (seconds p.tD) } } = s1 at *
  have second : Lawful s (if (demandPath s1).demand.overflow && !s1.demand.overflow then overflowCheck (demandPath s1)
      else demandPath s1) :=
    Lawful.ite (fun _ => overflowCheck_lawful.after (demandPath_lawful.after first)) fun _ => demandPath_lawful.after first
  have loader2 : (if (demandPath s1).demand.overflow && !s1.demand.overflow then overflowCheck (demandPath s1)
      else demandPath s1).loader = s.loader := by
    split
    · rw [overflowCheck_loader, demandPath_loader, loader1]
    · rw [demandPath_loader, loader1]
  generalize (if (demandPath s1).demand.overflow && !s1.demand.overflow then overflowCheck (demandPath s1)
      else demandPath s1) = s3 at *
  have third : Lawful s (match s3.activeProfile with
      | some f => stageEvaluation p f (decide (s1.demand.source = LevelSource.lost)) s3
      | none => s3) ∧ (match s3.activeProfile with
      | some f => stageEvaluation p f (decide (s1.demand.source = LevelSource.lost)) s3
      | none => s3).loader = s.loader := by
    split
    · exact ⟨(stageEvaluation_lawful p _ _ (by rw [loader2]; exact set)).after second,
        (stageEvaluation_loader _ _ _).trans loader2⟩
    · exact ⟨second, loader2⟩
  obtain ⟨lawful, loader3⟩ := third
  refine computeShare_lawful.after (Lawful.trans lawful ?_)
  refine Lawful.ite (fun ⟨running, _⟩ => request_lawful .stop running fun _ => ?_) fun _ => Lawful.refl _
  rw [loader3]
  exact set

end Sys2Proof.Machine
end

section
/-! Grants, holdings, received frames, CONFLICT and the Train Port under the laws. -/

namespace Sys2Proof.Machine

open Sys2Proof

variable {s t u : State}

/-! ## The grant -/

/-- The slot is held for a kind, in the state from which that kind's grant moves the train. -/
structure Granted (k : Kind) (s : State) : Prop where
  view : ∃ hold, s.slot.view = .ownHeld k hold
  train : s.sequencer.train = match k with | .start => .ready | .stop => .running
  live : s.loader.phase ≠ .loading

theorem takeGrant_sound (k : Kind) : Sound s (takeGrant k s) := by
  unfold takeGrant
  split
  · next train =>
    refine overflowCheck_lawful.toSound.after (moveTo_sound _ ?_)
    exact ⟨.inr (.inl (by rw [train]; rfl)), fun _ => .inl (by rw [train]; rfl), by decide⟩
  · next train =>
    exact Sound.ite (fun _ => enterUnload_sound true (by rw [train]; rfl) (by rw [train]; rfl)) fun _ => release_sound _
  · exact Sound.refl _

/-- A grant restores the slot law, which the holding breaks until the train has moved. -/
theorem takeGrant_slot {k : Kind} (h : Granted k s) (latch : LatchLaw s) : SlotLaw (takeGrant k s) := by
  obtain ⟨⟨hold, view⟩, train, live⟩ := h
  cases k with
  | start =>
    replace train : s.sequencer.train = .ready := train
    simp only [takeGrant, train]
    have move : Sound s (moveTo .aborted .fill s) :=
      moveTo_sound _ ⟨.inr (.inl (by rw [train]; rfl)), fun _ => .inl (by rw [train]; rfl), by decide⟩
    exact overflowCheck_lawful.slot (move.latch latch) (moveTo_slot_of_start _ view rfl live)
  | stop =>
    replace train : s.sequencer.train = .running := train
    simp only [takeGrant, train]
    split
    · exact enterUnload_staged train view live latch
    · have frame := release_frame (s := s) .aborted
      refine (Unheld.of_not_own ?_ fun k => ?_).law ?_ ?_
      · rw [release_view, view]
        rfl
      · rw [frame .loader (by decide)] at k
        exact absurd k live
      · rw [release_train, train]; rfl
      · rw [release_train, train]; simp

theorem winSlot_lawful {q : PendingView} (view : s.slot.view = .ownPending q) : Lawful s (winSlot q s) := by
  have won : Sound s (raiseOwn .slotWon q.intent.code
      { s with
        line := s.line.withdrawBid
        slot := { s.slot with view := .ownHeld q.intent { since := s.time, span := seconds s.tHold } } }) :=
    Sound.of_watch rfl
  have granted : SlotLaw s → Granted q.intent (raiseOwn .slotWon q.intent.code
      { s with
        line := s.line.withdrawBid
        slot := { s.slot with view := .ownHeld q.intent { since := s.time, span := seconds s.tHold } } }) := fun k => by
    refine ⟨⟨_, rfl⟩, ?_, fun loading => ?_⟩
    · have train := k.pending q view
      revert train
      cases q.intent <;> exact id
    · have own := (k.loading loading).2
      rw [view] at own
      cases own
  exact ⟨won.trans (takeGrant_sound _), fun latch k => takeGrant_slot (granted k) (won.latch latch)⟩

theorem recomposeTally_lawful : Lawful s (recomposeTally s) :=
  Lawful.of_frame recomposeTally_frame (by decide) (by decide)

theorem arbitrate_lawful : Lawful s (arbitrate s) := Lawful.of_frame arbitrate_frame (by decide) (by decide)

theorem finish_lawful (before : State) : Lawful s (finish before s) :=
  Lawful.of_frame (finish_frame before) (by decide) (by decide)

/-! ## Withdrawals -/

theorem unstage_sound : Sound s (unstage s) := staged_sound false

/-- A staged stop without its slot stays lawful once it is unstaged. -/
theorem Unheld.unstage (h : Unheld s) (unload : s.sequencer.train = .unload) : SlotLaw (unstage s) :=
  (h.congr (t := Machine.unstage s) rfl rfl rfl).law (by show s.sequencer.train.isStarting = _; rw [unload]; rfl) fun e =>
    nomatch e.2

theorem Unheld.withdrawSlot (h : Unheld s) (latch : LatchLaw s)
    (train : s.sequencer.train = .unload ∨ s.sequencer.train.isStarting = true) : SlotLaw (withdrawSlot s) := by
  unfold Machine.withdrawSlot
  split
  · next unload => exact h.unstage unload
  · next other => exact h.leaveStart (train.resolve_left other) latch

/-- The train whose slot is held: in UNLOAD or STARTING. -/
theorem SlotLaw.holder (h : SlotLaw s) {k : Kind} {hold : Timer} (view : s.slot.view = .ownHeld k hold) :
    s.sequencer.train = .unload ∨ s.sequencer.train.isStarting = true := by
  have held := h.held k hold view
  cases k with
  | start => exact .inr held
  | stop => exact .inl held.1

theorem leaveStart_sound_of_any : Sound s (leaveStart s) := by
  by_cases start : s.sequencer.train.isStarting = true
  · exact leaveStart_sound start
  · have same : leaveStart s = s := by
      unfold leaveStart
      split
      · next train => rw [train] at start; exact absurd rfl start
      · next train => rw [train] at start; exact absurd rfl start
      · next train => rw [train] at start; exact absurd rfl start
      · rfl
    rw [same]
    exact Sound.refl s

theorem withdrawSlot_sound : Sound s (withdrawSlot s) := Sound.ite (fun _ => unstage_sound) fun _ => leaveStart_sound_of_any

theorem twoHolders_lawful {k : Kind} {hold : Timer} (view : s.slot.view = .ownHeld k hold) (x : Station) (uid : UnitId)
    (xk : Kind) (r : Nat) : Lawful s (twoHolders k x uid xk r s) := by
  refine Lawful.ite (fun _ => queueOccupied_lawful) fun _ => ?_
  have lost : Lawful (viewHeld (reportedView x uid xk r s) s) (raise .slotLost (stationNumber x) k.code
      (queueYield .aborted k (viewHeld (reportedView x uid xk r s) s))) :=
    (raise_lawful _ _ _).after (queueYield_lawful _ _)
  have frame : changesOnly [.line, .lport, .queue] (viewHeld (reportedView x uid xk r s) s) (raise .slotLost (stationNumber x) k.code
      (queueYield .aborted k (viewHeld (reportedView x uid xk r s) s))) :=
    ((queueYield_frame _ _).mono (by decide)).trans ((raise_frame _ _ _).mono (by decide))
  refine ⟨withdrawSlot_sound.after (lost.toSound.after (viewHeld_sound _)), fun latch law => ?_⟩
  have unheld : Unheld (raise .slotLost (stationNumber x) k.code
      (queueYield .aborted k (viewHeld (reportedView x uid xk r s) s))) :=
    (law.viewHeld _).congr (by rw [frame .slot (by decide)]) (by rw [frame .sequencer (by decide)])
      (frame .loader (by decide))
  refine unheld.withdrawSlot (lost.latch ((viewHeld_sound _).latch latch)) ?_
  rw [frame .sequencer (by decide)]
  exact law.holder view

theorem loseClaim_lawful {q : PendingView} (view : s.slot.view = .ownPending q) (x : Station) (h : HeldView) :
    Lawful s (loseClaim q x h s) :=
  (raise_lawful _ _ _).after (viewHeld_lawful h (by rw [view]; rfl))

theorem reachRunning_sound : Sound s (reachRunning s) :=
  Sound.ite (fun ⟨divert, _⟩ => enterRunning_sound divert) fun _ => Sound.refl s

theorem overrunSlot_sound : Sound s (overrunSlot s) :=
  Sound.ite (fun _ => (arrive_lawful _).toSound.after reachRunning_sound) fun _ =>
    Sound.ite (fun _ => unstage_sound) fun _ => Sound.refl s

theorem latches_clear_of_starting (latch : LatchLaw s) (start : s.sequencer.train.isStarting = true) (c : Cause) :
    s.protection.latches.get c = false := by
  by_contra set
  have any : s.protection.latches.any = true :=
    s.protection.latches.any_eq_true_iff.mpr ⟨c, by simpa using set⟩
  have may := latchLaw_iff.mp latch any
  rw [mayLatch_of_starting start] at may
  cases may

/-- A start whose slot has been given up trips out of its start, and a staged stop goes on without the slot. -/
theorem Unheld.overrunSlot (h : Unheld s) (latch : LatchLaw s)
    (train : s.sequencer.train = .unload ∨ s.sequencer.train.isStarting = true) : SlotLaw (overrunSlot s) := by
  unfold Machine.overrunSlot
  split
  · next start =>
    unfold Machine.reachRunning
    split
    · next divert =>
      have entered := enterRunning_slot divert.1 (.inl h) latch
      exact (arrive_lawful _).slot ((enterRunning_sound divert.1).latch latch) entered
    · rw [arrive_of_clear _ (latches_clear_of_starting latch start _)]
      exact (h.congr (t := latched .holdOverrun s) rfl rfl rfl).sequencerTrip start
  · next notStart =>
    rw [if_pos (train.resolve_right notStart)]
    exact h.unstage (train.resolve_right notStart)

theorem overrunHold_lawful {k : Kind} {hold : Timer} (view : s.slot.view = .ownHeld k hold) :
    Lawful s (overrunHold k s) := by
  have told : Lawful (viewFree s) (raiseOwn .slotExpired k.code (queueYield .overrun k (viewFree s))) :=
    (raiseOwn_lawful _ _).after (queueYield_lawful _ _)
  have freed : Sound s (viewFree s) := Sound.of_frame viewFree_frame (by decide)
  have frame : changesOnly [.line, .lport, .queue] (viewFree s) (raiseOwn .slotExpired k.code (queueYield .overrun k (viewFree s))) :=
    ((queueYield_frame _ _).mono (by decide)).trans ((raiseOwn_frame _ _).mono (by decide))
  refine ⟨overrunSlot_sound.after (told.toSound.after freed), fun latch law => ?_⟩
  have unheld : Unheld (raiseOwn .slotExpired k.code (queueYield .overrun k (viewFree s))) :=
    law.viewFree.congr (by rw [frame .slot (by decide)]) (by rw [frame .sequencer (by decide)]) (frame .loader (by decide))
  refine unheld.overrunSlot (told.latch (freed.latch latch)) ?_
  rw [frame .sequencer (by decide)]
  exact law.holder view

/-! ## Received frames -/

theorem takeBid_lawful (x : Station) (b : BidBody) : Lawful s (takeBid x b s) := by
  unfold takeBid
  split
  · next view => exact viewHeld_lawful _ (by rw [view]; rfl)
  · exact Lawful.refl s
  · next q view => exact Lawful.ite (fun _ => queueOccupied_lawful) fun _ => loseClaim_lawful view _ _
  · exact queueOccupied_lawful

theorem takeOccupied_lawful (x : Station) (b : OccupiedBody) : Lawful s (takeOccupied x b s) := by
  unfold takeOccupied
  split
  · next view => exact viewHeld_lawful _ (by rw [view]; rfl)
  · next view =>
    exact Lawful.ite (fun _ => refreshHeld_lawful _ _ _ (by rw [view]; rfl)) fun _ => viewHeld_lawful _ (by rw [view]; rfl)
  · next q view => exact loseClaim_lawful view _ _
  · next k hold view => exact twoHolders_lawful view _ _ _ _

theorem takeReport_lawful (x : Station) (b : TallyBody) : Lawful s (takeReport x b s) := by
  unfold takeReport
  split
  · split
    · next view => exact viewHeld_lawful _ (by rw [view]; rfl)
    · next view =>
      refine Lawful.ite (fun _ => refreshHeld_lawful _ _ _ (by rw [view]; rfl)) fun _ => ?_
      exact Lawful.ite (fun _ => viewHeld_lawful _ (by rw [view]; rfl)) fun _ => Lawful.refl s
    · next q view => exact loseClaim_lawful view _ _
    · next k hold view => exact twoHolders_lawful view _ _ _ _
  · split
    · next view => exact Lawful.ite (fun _ => viewFree_lawful (by rw [view]; rfl)) fun _ => Lawful.refl s
    · exact Lawful.refl s

/-- An update of the slot that leaves the view alone. -/
theorem Lawful.of_slot {q : Slot} (view : q.view = s.slot.view) : Lawful s { s with slot := q } :=
  Lawful.of_watch rfl view

theorem takeYield_lawful (x : Station) (b : YieldBody) : Lawful s (takeYield x b s) := by
  have recorded : Lawful s { s with slot :=
      { s.slot with lastYield := some { station := x, outcome := b.outcome, kind := b.kind } } } := Lawful.of_slot rfl
  unfold takeYield
  dsimp only
  split
  · next view =>
    exact Lawful.ite (fun _ => Lawful.trans recorded
      (viewFree_lawful (show s.slot.view.isOwnHeld = false by rw [view]; rfl))) fun _ => recorded
  · exact recorded

theorem bidSent_lawful : Lawful s (bidSent s) := by
  unfold bidSent
  split
  · next q view =>
    refine Lawful.of_view (slot_frame _) (by decide) fun k => ⟨fun r e => ?_, fun _ _ e => (nomatch e), fun start => ?_,
      fun unload staged => ?_, fun loading => ?_⟩
    · cases e
      exact k.pending q view
    · obtain ⟨hold, e⟩ := k.starting start
      rw [view] at e
      cases e
    · obtain ⟨hold, e⟩ := k.stopping unload staged
      rw [view] at e
      cases e
    · have own := (k.loading loading).2
      rw [view] at own
      cases own
  · exact Lawful.refl s

theorem Lawful.of_line {q : Line} : Lawful s { s with line := q } := Lawful.of_frame (line_frame q) (by decide) (by decide)

theorem frameSent_lawful (f : TxFrame) : Lawful s (frameSent f s) := by
  unfold frameSent
  dsimp only
  split
  · exact bidSent_lawful.after Lawful.of_line
  · exact Lawful.of_line

theorem judgeEcho_lawful (rx : Option RxFrame) : Lawful s (judgeEcho rx s) := by
  unfold judgeEcho
  split
  · exact Lawful.ite (fun _ => frameSent_lawful _) fun _ => Lawful.of_line
  · exact Lawful.refl s

theorem countRxError_lawful : Lawful s (countRxError s) := Lawful.of_line

theorem handOnForeign_lawful (f : RxFrame) (other : f.station ≠ s.ident.station) (live : s.loader.phase ≠ .loading) :
    Lawful s (handOnForeign f s) := by
  unfold handOnForeign
  split
  · exact Lawful.ite (fun _ => (takeReport_lawful _ _).after (takeTally_lawful _ other live)) fun _ => countRxError_lawful
  · split
    · exact takeOccupied_lawful _ _
    · exact countRxError_lawful
  · split
    · exact takeYield_lawful _ _
    · exact countRxError_lawful
  · split
    · exact takeBid_lawful _ _
    · exact countRxError_lawful
  · split
    · exact takeBid_lawful _ _
    · exact countRxError_lawful
  · exact Lawful.refl s

/-! ## CONFLICT -/

theorem dropSlot_view : (dropSlot s).slot.view.isOwn = false := by
  unfold dropSlot
  split
  · rfl
  · next own => simpa using own

theorem dropSlot_frame : changesOnly [.slot, .line] s (dropSlot s) := changesOnly_ite viewFree_frame (changesOnly_refl _ _)

theorem windDown_sound : Sound s (windDown s) := by
  unfold windDown
  split
  iterate 4 exact moveTo_sound _ ⟨.inl rfl, fun k => (nomatch k), by decide⟩
  iterate 3 exact leaveStart_sound_of_any
  · next train => exact enterUnload_sound false (by rw [train]; rfl) (by rw [train]; rfl)
  · exact unstage_sound
  iterate 3 exact Sound.refl s

theorem Unheld.windDown (h : Unheld s) (latch : LatchLaw s) : SlotLaw (windDown s) := by
  unfold Machine.windDown
  split
  iterate 4 exact h.moveTo _ rfl
  · next train => exact h.leaveStart (by rw [train]; rfl) latch
  · next train => exact h.leaveStart (by rw [train]; rfl) latch
  · next train => exact h.leaveStart (by rw [train]; rfl) latch
  · next train => exact h.enterUnload (moveTo_unload_latch (by rw [train]; rfl) latch)
  · next train => exact h.unstage train
  · next train => exact h.law (by rw [train]; rfl) (by rw [train]; simp)
  · next train => exact h.law (by rw [train]; rfl) (by rw [train]; simp)
  · next train => exact h.law (by rw [train]; rfl) (by rw [train]; simp)

theorem noteChange_lawful (before : State) : Lawful s (noteChange before s) :=
  Lawful.of_frame (noteChange_frame before) (by decide) (by decide)

theorem silenceLine_lawful : Lawful s (silenceLine s) := Lawful.of_line

theorem enterConflict_lawful (cls : Nat) : Lawful s (enterConflict cls s) := by
  refine Lawful.ite (fun _ => Lawful.refl s) fun _ => ?_
  have marked : Lawful s { raiseOwn .duplicateStation cls s with
      sequencer := { (raiseOwn .duplicateStation cls s).sequencer with conflict := true } } :=
    Lawful.trans (raiseOwn_lawful .duplicateStation cls) (Lawful.of_sequencer_eq rfl rfl rfl rfl)
  have silenced := silenceLine_lawful.after ((noteChange_lawful s).after marked)
  have dropped : Sound s _ := (Sound.of_frame dropSlot_frame (by decide)).after silenced.toSound
  refine ⟨windDown_sound.after dropped, fun latch law => ?_⟩
  have own := silenced.slot latch law
  refine Unheld.windDown (.of_not_own dropSlot_view fun k => ?_) (dropped.latch latch)
  rw [dropSlot_frame .loader (by decide)] at k ⊢
  exact own.loadingUnset k

theorem handOn_lawful (f : RxFrame) : Lawful s (handOn f s) := by
  unfold handOn
  refine Lawful.ite (fun _ => Lawful.refl s) fun ended => ?_
  have live : s.loader.phase ≠ .loading := loadEnded_iff.mp (by simpa using ended)
  refine Lawful.ite (fun _ => Lawful.ite (fun _ => Lawful.refl s) fun _ => enterConflict_lawful _) fun other => ?_
  exact handOnForeign_lawful f other live

theorem receiveFrame_lawful (rx : List RxChar) : Lawful s (receiveFrame rx s) := by
  have idle : Lawful s (lineIdle s) := Lawful.of_line
  unfold receiveFrame
  split
  · exact (finish_lawful s).after ((judgeEcho_lawful _).after idle)
  · exact (finish_lawful s).after ((judgeEcho_lawful _).after (countRxError_lawful.after idle))
  · exact (finish_lawful s).after ((handOn_lawful _).after ((judgeEcho_lawful _).after idle))

theorem queueTally_lawful : Lawful s (queueTally s) := queueFrame_lawful _

theorem sendTally_lawful : Lawful s (sendTally s) := Lawful.of_line.after queueTally_lawful

theorem compareTally_lawful : Lawful s (compareTally s) := by
  unfold compareTally
  split
  · exact Lawful.ite (fun _ => Lawful.refl s) fun _ => Lawful.ite (fun _ => sendTally_lawful) fun _ => Lawful.of_line
  · exact Lawful.refl s

/-! ## The Train Port -/

theorem Lawful.of_port {q : Port} : Lawful s { s with port := q } := Lawful.of_frame (port_frame q) (by decide) (by decide)

theorem stopQuality_lawful : Lawful s (stopQuality s) := Lawful.of_sequencer_eq rfl rfl rfl rfl

theorem handSample_lawful (c : Channel) (valid : Bool) : Lawful s (handSample c valid s) := by
  have flow : Lawful s (rampArrived (trimSample valid s)) := rampArrived_lawful.after (trimSample_lawful valid)
  unfold handSample
  split
  · exact Lawful.ite (fun _ => judgeLowSuction_lawful) fun _ => Lawful.refl s
  · exact judgeInstrument_lawful.after
      (Lawful.ite (fun _ => integrate_lawful.after (pressurizeTest_lawful.after flow)) fun _ => flow)
  · exact Lawful.ite (fun _ => judgeQualityTrip_lawful.after (divertQuality_lawful.after qualitySample_lawful)) fun _ =>
      stopQuality_lawful
  · exact Lawful.ite (fun _ => temperatureSample_lawful) fun _ => Lawful.refl s
  · exact judgeLevel_lawful
  · exact Lawful.ite (fun _ => judgeHighPressure_lawful.after (pressurizeTest_lawful.after pressureSample_lawful)) fun _ =>
      Lawful.refl s
  · exact Lawful.ite (fun _ => judgeDriveFault_lawful.after unloadTest_lawful) fun _ => Lawful.refl s
  · exact Lawful.refl s

theorem channelsLost_lawful : Lawful s (channelsLost s) :=
  judgeInstrument_lawful.after (judgeLevel_lawful.after stopQuality_lawful)

theorem enterLost_lawful (k : TxnKind) : Lawful s (enterLost k s) := by
  have lost : Lawful s (raiseOwn .portLost k.number
      { s with port :=
        { s.port with
          state := .lost none
          channels := s.port.channels.map fun e => e.after s.time none
          retryTimer := startTimer s.time (seconds 1) } }) := (raiseOwn_lawful _ _).after Lawful.of_port
  exact channelsLost_lawful.after (Lawful.ite (fun _ => judgePortLoss_lawful.after lost) fun _ => lost)

theorem portError_lawful (k : TxnKind) : Lawful s (portError k s) := by
  have counted : Lawful s (giveBackWrite k
      { s with port := { s.port with state := .idle, errors := satInc 255 s.port.errors, pendRead := none } }) :=
    Lawful.after (Lawful.of_frame (giveBackWrite_frame k) (by decide) (by decide)) Lawful.of_port
  exact Lawful.ite (fun _ => (enterLost_lawful k).after counted) fun _ => counted

theorem takeWord_lawful (n : Channel) (st : PortSettings) (w : Word16) : Lawful s (takeWord n st w s) := by
  unfold takeWord
  split
  · exact Lawful.of_port
  · next p _ =>
    have stored : Lawful s (setChannel p (s.port.channels[p].after s.time (judgeWord st p w)) s) := Lawful.of_port
    have done : ∀ v : State, Lawful v (readDone n v) := fun v => Lawful.of_port
    exact Lawful.ite (fun _ => (portError_lawful _).after stored) fun _ => (handSample_lawful _ _).after ((done _).after stored)

theorem restorePort_lawful (n : Channel) : Lawful s (restorePort n s) := by
  have restored : Lawful s (raiseOwn .portRestored n.val
      { s with port :=
        { s.port with
          state := .idle
          retryTimer := none
          errors := 0
          pendRead := some n
          pointer := nextEnabled s.portSettings.mask s.port.pointer
          pendValve := some s.sequencer.valve
          pendSpeed := some s.trim.s } }) := (raiseOwn_lawful _ _).after Lawful.of_port
  exact Lawful.ite (fun _ => judgePortLoss_lawful.after restored) fun _ => restored

end Sys2Proof.Machine
end

section
/-! Loads and reloads under the laws of the train. Between the installation of a parameter set and the chain's recomputation
the train is parked with SP 0, which is all that the capacity law needs then. -/

namespace Sys2Proof.Machine

open Sys2Proof

variable {s t u : State}

/-! ## Parked trains -/

/-- The train states without a phase. -/
def Train.isParked : Train → Bool
  | .unconfigured | .rest | .ready | .tripped | .withheld | .conflict => true
  | .fill | .pressurize | .divert | .running | .unload | .flush => false

/-- An operation that leaves a parked train parked, with SP as it was. -/
def Parks (s t : State) : Prop :=
  s.sequencer.train.isParked = true → t.sequencer.train.isParked = true ∧ t.staging.sp = s.staging.sp

theorem Parks.refl (s : State) : Parks s s := fun h => ⟨h, rfl⟩

theorem Parks.trans (h : Parks s t) (k : Parks t u) : Parks s u := fun parked => by
  obtain ⟨there, sp⟩ := h parked
  obtain ⟨end_, sp'⟩ := k there
  exact ⟨end_, sp'.trans sp⟩

theorem Parks.after (k : Parks t u) (h : Parks s t) : Parks s u := h.trans k

theorem Parks.of_eq (train : t.sequencer.train = s.sequencer.train) (sp : t.staging.sp = s.staging.sp) : Parks s t :=
  fun h => ⟨by rw [train]; exact h, sp⟩

theorem Parks.of_frame {bs : List Block} (frame : changesOnly bs s t) (sequencer : Block.sequencer ∉ bs)
    (staging : Block.staging ∉ bs) : Parks s t :=
  Parks.of_eq (congrArg Sequencer.train (frame .sequencer sequencer)) (congrArg Staging.sp (frame .staging staging))

theorem Parks.ite {c : Prop} [Decidable c] (h : Parks s t) (k : Parks s u) : Parks s (if c then t else u) := by
  split
  · exact h
  · exact k

/-- An operation that does nothing to a parked train but what another does that parks it. -/
theorem Parks.of_parked (h : s.sequencer.train.isParked = true → Parks s t) : Parks s t := fun parked => h parked parked

theorem parked_ne {x : Train} (h : s.sequencer.train.isParked = true) (other : x.isParked = false) :
    s.sequencer.train ≠ x := fun e => by
  rw [e, other] at h
  cases h

theorem moveTo_parks {x : Train} (o : YieldOutcome) (there : x.isParked = true) : Parks s (moveTo o x s) := fun h =>
  ⟨by rw [moveTo_train]; exact there, by rw [moveTo_sp, if_neg fun k => parked_ne h rfl k.1]⟩

theorem startRest_parks : Parks s (startRest s) :=
  Parks.of_eq startRest_train (congrArg Staging.sp (startRest_frame .staging (by decide)))

theorem enterRest_parks : Parks s (enterRest s) := by
  have rest : Parks s (moveTo .aborted .rest s) := moveTo_parks .aborted rfl
  unfold enterRest
  dsimp only
  split
  · exact (moveTo_parks .aborted rfl).after rest
  · exact rest

theorem withholdRises_parks : Parks s (withholdRises s) := Parks.of_parked fun parked => by
  unfold withholdRises
  split
  · exact moveTo_parks .aborted rfl
  · exact moveTo_parks .aborted rfl
  iterate 3 next train => exact absurd train (parked_ne parked rfl)
  · exact Parks.refl s

theorem withholdFalls_parks : Parks s (withholdFalls s) := by
  unfold withholdFalls
  split
  · exact enterRest_parks
  · exact Parks.refl s

theorem withheldStopRequest_parks : Parks s (withheldStopRequest s) := Parks.of_parked fun parked => by
  rw [withheldStopRequest, if_neg fun e => parked_ne parked rfl e.1]
  exact Parks.refl s

theorem withholdChanged_parks (was arose : Bool) : Parks s (withholdChanged was arose s) := by
  have acted : Parks s (if !was && s.withheld then withholdRises s else if was && !s.withheld then withholdFalls s
      else s) := Parks.ite withholdRises_parks (Parks.ite withholdFalls_parks (Parks.refl s))
  exact Parks.ite (Parks.ite (withheldStopRequest_parks.after acted) acted) (Parks.refl s)

theorem setMinority_parks (v : Bool) : Parks s (setMinority v s) :=
  Parks.ite (Parks.refl s) (Parks.after (withholdChanged_parks _ _) (Parks.of_eq rfl rfl))

theorem minorityTest_parks : Parks s (minorityTest s) := Parks.ite (setMinority_parks _) (Parks.refl s)

theorem sequencerTrip_parks : Parks s (sequencerTrip s) := Parks.of_parked fun parked => by
  unfold sequencerTrip
  split
  iterate 6 next train => exact absurd train (parked_ne parked rfl)
  iterate 3 exact moveTo_parks _ rfl
  iterate 3 exact Parks.refl s

/-- Protection's timers and flags do not matter to a parked train. -/
theorem protection_parks (q : Protection) : Parks s { s with protection := q } := Parks.of_eq rfl rfl

theorem arrive_parks (c : Cause) : Parks s (arrive c s) := by
  cases latch : s.protection.latches.get c with
  | true =>
    rw [arrive_latched c latch]
    exact protection_parks _
  | false =>
    rw [arrive_of_clear c latch]
    exact sequencerTrip_parks.after (Parks.of_eq rfl rfl)

theorem arriveIf_parks (now before : Bool) (c : Cause) : Parks s (arriveIf now before c s) :=
  Parks.ite (arrive_parks c) (Parks.refl s)

theorem judgeHighPressure_parks : Parks s (judgeHighPressure s) := by
  unfold judgeHighPressure
  split
  · exact Parks.refl s
  · exact (arriveIf_parks _ _ _).after (protection_parks _)

theorem judgeAfresh_parks : Parks s (judgeAfresh s) := by
  have external : ∀ v : State, Parks v (judgeExternal v) := fun v => (arriveIf_parks _ _ _).after (protection_parks _)
  have drive : ∀ v : State, Parks v (judgeDriveFault v) := fun v => (arriveIf_parks _ _ _).after (protection_parks _)
  have port : ∀ v : State, Parks v (judgePortLoss v) := fun v => (arriveIf_parks _ _ _).after (protection_parks _)
  exact (port _).after (judgeHighPressure_parks.after ((drive _).after ((external _).after (protection_parks _))))

/-- A part with a parameter set and a parked train meets the capacity law once the chain has been recomputed. -/
theorem recompute_capacity_of_parked {p : Params} (parked : s.sequencer.train.isParked = true) (sp : s.staging.sp = 0)
    (params : s.loader.params = some p) (qmin : p.qmin ≤ 65535) : CapacityLaw (recompute s) := by
  have stopped : s.sequencer.train ≠ .running := parked_ne parked rfl
  refine (recompute_ranged (fun q k => ?_) fun k => ?_).law_of_stopped ?_ ?_
  · rw [params] at k
    cases k
    exact qmin
  · rw [params] at k
    cases k
  · rw [recompute_sequencer]
    exact stopped
  · rw [recompute_sp_of_not_running stopped]
    exact sp

/-- A train without a phase keeps its run command off. -/
theorem SpeedLaw.stopped (h : SpeedLaw s) (parked : s.sequencer.train.isParked = true) :
    s.sequencer.valve = Valve.atRest := by
  rcases h.valve with word | ⟨unload, -⟩
  · rw [word]
    revert parked
    cases s.sequencer.train <;> first | exact fun _ => rfl | exact fun k => nomatch k
  · rw [unload] at parked
    cases parked

/-- A train that takes a reload, and one without a parameter set, is parked. -/
theorem isParked_of_mayReload {x : Train} (h : x.mayReload = true) : x.isParked = true := by
  cases x <;> first | rfl | cases h

theorem isParked_of_not_needsParams {x : Train} (h : x.needsParams = false) : x.isParked = true := by
  cases x <;> first | rfl | cases h

theorem CapacityLaw.sp_of_parked (h : CapacityLaw s) (parked : s.sequencer.train.isParked = true) : s.staging.sp = 0 :=
  h.stopped (parked_ne parked rfl)

/-! ## A valid image -/

/-- What the laws ask of an image, from its checks (R191). -/
theorem image_limits {image : List Byte} {i : Image} (h : checkImage image = .valid i) :
    (i.params.sStart ≤ i.params.sMin ∧ i.params.sMin ≤ i.params.sMax) ∧ i.params.qmin ≤ 65535 := by
  obtain ⟨rfl, -, cross⟩ := checkImage_valid h
  simp only [crossChecksOk, Bool.and_eq_true, decide_eq_true_eq] at cross
  obtain ⟨⟨⟨⟨-, first⟩, second⟩, -⟩, -⟩ := cross
  exact ⟨⟨first, second.le⟩, Nat.le_of_lt_succ (fieldAt_lt _ _ 2)⟩

theorem install_speedLaw {image : List Byte} {i : Image} (h : SpeedLaw s) (valid : checkImage image = .valid i)
    (stopped : s.sequencer.valve = Valve.atRest) : SpeedLaw (install i s) := by
  refine ⟨h.valve, h.off, fun run => ?_, fun p k => ?_, fun k => (nomatch k), fun k => (nomatch k)⟩
  · replace run : s.sequencer.valve.run = true := run
    rw [stopped] at run
    cases run
  · cases k
    exact (image_limits valid).1

theorem install_slotLaw (i : Image) (h : SlotLaw s) : SlotLaw (install i s) :=
  ⟨h.pending, h.held, h.starting, h.stopping, fun k => nomatch k⟩

/-- With Q_req 0 the demand law holds, whatever the profile. -/
theorem DemandLaw.of_zero (zero : s.demand.qReq = 0) (live : s.loader.phase ≠ .loading) : DemandLaw s :=
  ⟨fun f _ => by rw [zero]; exact Nat.zero_le _, fun _ => zero, fun k => absurd k live⟩

/-! ## The load at device reset -/

/-- The installation of a valid image at device reset, up to the estimator's start. -/
def loadBegun (i : Image) (s : State) : State :=
  startEstimator i.params (startTallyTimer (applyPreload i.preload (raiseOwn .configLoaded 0 (install i s))))

/-- What follows it, up to the chain. -/
def loadJudged (s : State) : State := judgeAfresh (judgeWithheld (startRest (startJoinWait s)))

theorem loadSucceeded_eq (i : Image) :
    loadSucceeded i s = minorityTest (adoptPortSettings (recompute (loadJudged (loadBegun i s)))) := rfl

theorem startJoinWait_lawful : Lawful s (startJoinWait s) := Lawful.of_slot rfl

theorem judgeWithheld_lawful : Lawful s (judgeWithheld s) :=
  Lawful.ite (fun _ => withholdRises_lawful) fun _ => Lawful.refl s

theorem loadJudged_lawful : Lawful s (loadJudged s) :=
  judgeAfresh_lawful.after (judgeWithheld_lawful.after (startRest_lawful.after startJoinWait_lawful))

theorem adoptPortSettings_lawful : Lawful s (adoptPortSettings s) := Lawful.of_port

theorem loadEnding_lawful : Lawful s (minorityTest (adoptPortSettings (recompute s))) :=
  minorityTest_lawful.after (adoptPortSettings_lawful.after recompute_lawful)

theorem loadJudged_parks : Parks s (loadJudged s) := by
  have withheld : ∀ v : State, Parks v (judgeWithheld v) := fun v => Parks.ite withholdRises_parks (Parks.refl v)
  exact judgeAfresh_parks.after ((withheld _).after (startRest_parks.after (Parks.of_eq rfl rfl)))

theorem loadJudged_params : (loadJudged s).loader.params = s.loader.params := by
  unfold loadJudged
  rw [judgeAfresh_frame .loader (by decide)]
  unfold judgeWithheld
  split
  · rw [withholdRises_frame .loader (by decide), startRest_frame .loader (by decide)]
    rfl
  · rw [startRest_frame .loader (by decide)]
    rfl

/-- Before the end of the load the train is parked, its valve word at rest, and Q_req 0. -/
theorem SpeedLaw.parked_of_loading (h : SpeedLaw s) (loading : s.loader.phase = .loading) :
    s.sequencer.train.isParked = true :=
  isParked_of_not_needsParams (h.unset (h.loading loading)).1

theorem DemandLaw.zero_of_loading (h : DemandLaw s) (loading : s.loader.phase = .loading) : s.demand.qReq = 0 :=
  h.none (activeProfile_of_unset (h.loading loading))

/-- A roster of EMPTY peers stands against any signature. -/
theorem RosterLaw.of_loading (h : RosterLaw s) (loading : s.loader.phase = .loading)
    (entries : t.roster.entries = s.roster.entries) (ident : t.ident = s.ident) (live : t.loader.phase ≠ .loading) :
    RosterLaw t := by
  have empty := h.loading loading
  refine .of_peers (x := s.ident.station) (by rw [ident]) (by rw [entries]; exact h.own) (fun i other => ?_)
    fun k => absurd k live
  rw [entries]
  exact ⟨fun k => absurd ((empty i).symm.trans k) (by decide), fun k => absurd ((empty i).symm.trans k) (by decide),
    h.empty i other⟩

theorem loadSucceeded_lawful {image : List Byte} {i : Image} (valid : checkImage image = .valid i)
    (loading : s.loader.phase = .loading) : Lawful s (loadSucceeded i s) := by
  rw [loadSucceeded_eq]
  have judged := loadJudged_lawful (s := loadBegun i s)
  have ending := loadEnding_lawful (s := loadJudged (loadBegun i s))
  have chain := judged.trans ending
  have speed : SpeedLaw s → SpeedLaw (loadBegun i s) := fun k =>
    (install_speedLaw k valid (k.stopped (k.parked_of_loading loading))).congr rfl rfl rfl rfl rfl rfl
  have slot : SlotLaw s → SlotLaw (loadBegun i s) := fun k => (install_slotLaw i k).congr rfl rfl rfl rfl
  refine ⟨⟨fun k => chain.latch (k.congr rfl rfl), fun k => chain.speed (speed k), fun law k => ?_, fun k => ?_, fun k => ?_⟩,
    fun latch k => chain.slot (latch.congr rfl rfl) (slot k)⟩
  · have parked := law.parked_of_loading loading
    obtain ⟨train, sp⟩ := loadJudged_parks (s := loadBegun i s) parked
    have ranged := recompute_capacity_of_parked train (sp.trans (k.sp_of_parked parked)) (by rw [loadJudged_params]; rfl)
      (image_limits valid).2
    have rest : Lawful (recompute (loadJudged (loadBegun i s)))
        (minorityTest (adoptPortSettings (recompute (loadJudged (loadBegun i s))))) :=
      minorityTest_lawful.after adoptPortSettings_lawful
    exact rest.capacity (recompute_lawful.speed (judged.speed (speed law))) ranged
  · exact chain.demand (.of_zero (k.zero_of_loading loading) fun e => nomatch e)
  · exact chain.roster (k.of_loading loading rfl rfl fun e => nomatch e)

/-- The Loader's phase and signature without a parameter set, at the end of a load that failed. -/
theorem unloaded_lawful (loading : s.loader.phase = .loading) :
    Lawful s { s with loader := { s.loader with phase := .idle, params := none, signature := 0 } } := by
  refine ⟨⟨fun k => k.congr rfl rfl, fun k => ?_, fun law k => ?_, fun k => ?_, fun k => ?_⟩, fun _ k => ?_⟩
  · have unset := k.loading loading
    refine ⟨k.valve, k.off, fun run => ?_, fun p e => (nomatch e), fun _ => k.unset unset, fun e => (nomatch e)⟩
    obtain ⟨p, params, -⟩ := k.on run
    rw [unset] at params
    cases params
  · have unset := law.loading loading
    refine ⟨fun p e => (nomatch e), fun _ => k.unset unset, fun run => ?_, k.stopped⟩
    obtain ⟨p, params, -⟩ := k.running run
    rw [unset] at params
    cases params
  · exact .of_zero (k.zero_of_loading loading) fun e => nomatch e
  · exact k.of_loading loading rfl rfl fun e => nomatch e
  · exact ⟨k.pending, k.held, k.starting, k.stopping, fun e => nomatch e⟩

theorem moveTo_unconfigured_sound (o : YieldOutcome) : Sound s (moveTo o .unconfigured s) :=
  moveTo_sound o ⟨.inl rfl, fun k => (nomatch k), by decide⟩

theorem loadFailed_lawful (r : Nat) (loading : s.loader.phase = .loading) : Lawful s (loadFailed r s) := by
  have begun := (raiseOwn_lawful .configFailed r).after (unloaded_lawful loading)
  have moved := moveTo_unconfigured_sound (s := raiseOwn .configFailed r
    { s with loader := { s.loader with phase := .idle, params := none, signature := 0 } }) .aborted
  have rest : Lawful (moveTo .aborted .unconfigured (raiseOwn .configFailed r
      { s with loader := { s.loader with phase := .idle, params := none, signature := 0 } })) (loadFailed r s) :=
    judgePortLoss_lawful.after (judgeExternal_lawful.after Lawful.of_line)
  refine ⟨rest.toSound.after (moved.after begun.toSound), fun latch k => ?_⟩
  have unheld : Unheld (raiseOwn .configFailed r
      { s with loader := { s.loader with phase := .idle, params := none, signature := 0 } }) :=
    .of_not_own (k.loading loading).2 fun e => nomatch e
  exact rest.slot (moved.latch (begun.latch latch)) (unheld.moveTo _ rfl)

/-! ## Reload -/

/-- The Loader ends a reload, or begins one. -/
theorem Lawful.of_phase {x : LoaderPhase} (live : x ≠ .loading) :
    Lawful s { s with loader := { s.loader with phase := x } } :=
  ⟨⟨fun k => k.congr rfl rfl, fun k => ⟨k.valve, k.off, k.on, k.limits, k.unset, fun e => absurd e live⟩,
    fun _ k => ⟨k.set, k.unset, k.running, k.stopped⟩, fun k => ⟨k.active, k.none, fun e => absurd e live⟩,
    fun k => ⟨k.live, k.excluded, k.empty, k.own, fun e => absurd e live⟩⟩,
    fun _ k => ⟨k.pending, k.held, k.starting, k.stopping, fun e => absurd e live⟩⟩

theorem reloadDropped_lawful (r : Nat) : Lawful s (reloadDropped r s) :=
  Lawful.after (raiseOwn_lawful _ _) (Lawful.of_phase (by decide))

theorem compareGap_lawful : Lawful s (compareGap s) := by
  unfold compareGap
  split
  · exact Lawful.of_slot rfl
  · exact Lawful.refl s

theorem resetCounters_lawful : Lawful s (resetCounters s) := Lawful.of_staging rfl

theorem compareRest_lawful (p : Params) : Lawful s (compareRest p s) := by
  unfold compareRest
  split
  · next rest =>
    have timed : s.loader.params ≠ none ∨ s.sequencer.rest ≠ .stopped := .inr (by rw [rest]; exact fun e => nomatch e)
    dsimp only
    split
    · refine Lawful.ite (fun train => ?_) fun _ => Lawful.of_rest timed
      refine Lawful.trans (Lawful.of_rest (r := .expired) timed) (moveTo_lawful _ ?_)
      exact ⟨⟨.inr (.inl (by show s.sequencer.train.mayLatch = false; rw [train]; rfl)),
        fun _ => .inr (.inr fun e => nomatch e), by decide⟩, by show s.sequencer.train.isStarting = false; rw [train]; rfl,
        by show s.sequencer.train ≠ .unload; rw [train]; decide, rfl⟩
    · exact Lawful.of_rest timed
  · exact Lawful.refl s

theorem unconfiguredExit_parked : s.unconfiguredExit.isParked = true := by
  unfold State.unconfiguredExit
  split
  · rfl
  · split <;> rfl

theorem unconfiguredExit_latch : s.unconfiguredExit.mayLatch = true ∨ s.protection.latches.any = false := by
  unfold State.unconfiguredExit
  split
  · exact .inl rfl
  · next clear => exact .inr (by simpa using clear)

theorem unconfiguredExit_not_ready : s.unconfiguredExit.needsParams = false := by
  unfold State.unconfiguredExit
  split
  · rfl
  · split <;> rfl

theorem leaveUnconfigured_lawful (parked : s.sequencer.train.isParked = true) : Lawful s (leaveUnconfigured s) := by
  have begun : Lawful s (startRest (startJoinWait s)) := startRest_lawful.after startJoinWait_lawful
  have train : (startRest (startJoinWait s)).sequencer.train = s.sequencer.train := startRest_train
  unfold leaveUnconfigured
  dsimp only
  refine judgeAfresh_lawful.after ((moveTo_lawful .aborted ?_).after begun)
  have exit := unconfiguredExit_parked (s := startRest (startJoinWait s))
  refine ⟨⟨unconfiguredExit_latch.imp id .inr, fun k => ?_, fun k => ?_⟩, ?_, ?_, ?_⟩
  · rw [unconfiguredExit_not_ready] at k
    cases k
  · rw [k] at exit
    cases exit
  · rw [train]
    revert parked
    cases s.sequencer.train <;> decide
  · rw [train]
    intro k
    rw [k] at parked
    cases parked
  · revert exit
    cases (startRest (startJoinWait s)).unconfiguredExit <;> decide

/-- The level-lost timer and the level do not touch Q_req or the profile. -/
theorem retimeLevelLost_lawful (p : Params) : Lawful s (retimeLevelLost p s) := by
  unfold retimeLevelLost
  split
  · exact Lawful.ite (fun _ => loseLevel_lawful) fun _ => Lawful.of_demand_eq ((demand_frame _).mono (by decide)) rfl rfl
  · exact Lawful.refl s

/-- A reload up to the estimator: the image installed, the roster re-judged, the minority test made. -/
def reloadBegun (i : Image) (s : State) : State :=
  minorityTest (rejudge s.loader.signature (raiseOwn .configLoaded 1 (install i s)))

/-- The estimator in a reload. -/
def reloadEstimated (i : Image) (configured : Bool) (s : State) : State :=
  if configured then reloadEstimator i.params s else judgeLevel (startEstimator i.params s)

/-- What a reload does once the chain has been recomputed. -/
def reloadEnding (i : Image) (configured : Bool) (s : State) : State :=
  let s3 := compareGap (cancelRequest (some .aborted) (resetCounters s))
  compareTally (adoptPortSettings (compareSilences (if configured then compareRest i.params s3 else leaveUnconfigured s3)))

theorem reloadSucceeded_eq (i : Image) :
    reloadSucceeded i s =
      reloadEnding i s.configured (recompute (reloadEstimated i s.configured (reloadBegun i s))) := rfl

theorem reloadBegun_loader (i : Image) :
    (reloadBegun i s).loader = { phase := .idle, params := some i.params, signature := i.signature, succeeded := true } := by
  rw [reloadBegun, minorityTest_frame .loader (by decide), rejudge_frame _ .loader (by decide)]
  rfl

theorem retimeLevelLost_frame (p : Params) : changesOnly [.demand, .lport, .queue] s (retimeLevelLost p s) := by
  unfold retimeLevelLost
  split
  · dsimp only
    split
    · exact loseLevel_frame
    · exact (demand_frame _).mono (by decide)
  · exact changesOnly_refl _ _

theorem reloadEstimator_frame (p : Params) : changesOnly [.demand, .lport, .queue] s (reloadEstimator p s) :=
  changesOnly.trans (changesOnly.trans ((demand_frame
    { s.demand with primed := false, lPrev := none, periodTimer := startTimer s.time (seconds p.tD) }).mono (by decide))
      (limitQreq_frame.mono (by decide))) (retimeLevelLost_frame p)

theorem reloadEstimated_frame (i : Image) (configured : Bool) :
    changesOnly [.demand, .lport, .queue] s (reloadEstimated i configured s) := by
  unfold reloadEstimated
  split
  · exact reloadEstimator_frame _
  · exact changesOnly.trans ((demand_frame
      { s.demand with profile := some (profileFor s.pins.tariff), periodTimer := startTimer s.time (seconds i.params.tD) }).mono
        (by decide)) judgeLevel_frame

theorem reloadEnding_lawful (i : Image) (configured : Bool) (parked : s.sequencer.train.isParked = true) :
    Lawful s (reloadEnding i configured s) := by
  have cancelled := (compareGap_lawful.after ((cancelRequest_lawful (some .aborted)).after (resetCounters_lawful (s := s))))
  have gap : ∀ v : State, (compareGap v).sequencer = v.sequencer := fun v => by
    unfold compareGap
    split <;> rfl
  have train : (compareGap (cancelRequest (some .aborted) (resetCounters s))).sequencer = s.sequencer := by
    rw [gap, cancelRequest_frame _ .sequencer (by decide)]
    rfl
  unfold reloadEnding
  dsimp only
  refine compareTally_lawful.after (adoptPortSettings_lawful.after (compareSilences_lawful.after ?_))
  exact Lawful.ite (fun _ => (compareRest_lawful _).after cancelled) fun _ =>
    (leaveUnconfigured_lawful (by rw [train]; exact parked)).after cancelled

/-- The demand law after the estimator's part of a reload: Q_req limited by the new profile, or 0. -/
theorem reloadEstimated_demandLaw (i : Image) (configured : Bool) (params : s.loader.params = some i.params)
    (live : s.loader.phase ≠ .loading)
    (zero : configured = false ∨ s.demand.profile = none → s.demand.qReq = 0) : DemandLaw (reloadEstimated i configured s) := by
  unfold reloadEstimated
  split
  · next on =>
    refine (retimeLevelLost_lawful _).demand (limitQreq_demandLaw (fun inactive => ?_) fun k => absurd k live)
    refine zero (.inr ?_)
    cases profile : s.demand.profile with
    | none => rfl
    | some n => simp [State.activeProfile, params, profile] at inactive
  · next off =>
    exact judgeLevel_lawful.demand (.of_zero (zero (.inl (by simpa using off))) live)

theorem reloadBegun_parks (i : Image) : Parks s (reloadBegun i s) :=
  minorityTest_parks.after (Parks.trans (Parks.of_eq (t := raiseOwn .configLoaded 1 (install i s)) rfl rfl)
    (Parks.of_frame (rejudge_frame _) (by decide) (by decide)))

theorem reloadBegun_demand (i : Image) : (reloadBegun i s).demand = s.demand := by
  rw [reloadBegun, minorityTest_frame .demand (by decide), rejudge_frame _ .demand (by decide)]
  rfl

theorem reloadBegun_rosterLaw (i : Image) (h : RosterLaw s) : RosterLaw (reloadBegun i s) := by
  have judged : RosterLaw (rejudge s.loader.signature (raiseOwn .configLoaded 1 (install i s))) :=
    rejudge_rosterLaw _ h.own (fun j other => ⟨h.empty j other, fun e => (h.excluded j e).2⟩) fun e => nomatch e
  exact minorityTest_lawful.roster judged

theorem reloadBegun_laws {image : List Byte} {i : Image} (valid : checkImage image = .valid i)
    (parked : s.sequencer.train.isParked = true) :
    (LatchLaw s → LatchLaw (reloadBegun i s)) ∧ (SpeedLaw s → SpeedLaw (reloadBegun i s)) ∧
      (LatchLaw s → SlotLaw s → SlotLaw (reloadBegun i s)) := by
  obtain ⟨latch, speed, -, -, slot⟩ :=
    laws_of_roster (rejudge_frame (s := raiseOwn .configLoaded 1 (install i s)) s.loader.signature)
  have tested : Lawful (rejudge s.loader.signature (raiseOwn .configLoaded 1 (install i s))) (reloadBegun i s) :=
    minorityTest_lawful
  refine ⟨fun k => tested.latch (latch (k.congr rfl rfl)), fun k => ?_, fun l k => ?_⟩
  · exact tested.speed (speed ((install_speedLaw k valid (k.stopped parked)).congr rfl rfl rfl rfl rfl rfl))
  · exact tested.slot (latch (l.congr rfl rfl)) (slot ((install_slotLaw i k).congr rfl rfl rfl rfl))

theorem reloadSucceeded_lawful {image : List Byte} {i : Image} (valid : checkImage image = .valid i)
    (may : s.sequencer.train.mayReload = true) : Lawful s (reloadSucceeded i s) := by
  have parked := isParked_of_mayReload may
  obtain ⟨latch1, speed1, slot1⟩ := reloadBegun_laws valid parked
  have roster1 := reloadBegun_rosterLaw (s := s) i
  have demand1 := reloadBegun_demand (s := s) i
  have loader1 := reloadBegun_loader (s := s) i
  obtain ⟨train1, sp1⟩ := reloadBegun_parks (s := s) i parked
  rw [reloadSucceeded_eq]
  generalize reloadBegun i s = v at *
  have frame := reloadEstimated_frame (s := v) i s.configured
  obtain ⟨latch2, speed2, -, roster2, slot2⟩ := laws_of_demand frame
  have demand2 : DemandLaw s → DemandLaw (reloadEstimated i s.configured v) := fun k => by
    refine reloadEstimated_demandLaw i s.configured (by rw [loader1]) (by rw [loader1]; exact fun e => nomatch e) fun e => ?_
    rw [demand1] at e ⊢
    refine k.none ?_
    rcases e with unset | inactive
    · exact activeProfile_of_unset (by simpa [State.configured] using unset)
    · unfold State.activeProfile
      rw [inactive]
      split
      · next e => cases e
      · rfl
  obtain ⟨train2, sp2⟩ := Parks.of_frame frame (by decide) (by decide) train1
  have loader2 : (reloadEstimated i s.configured v).loader = v.loader := frame .loader (by decide)
  generalize reloadEstimated i s.configured v = w at *
  have chain : Lawful w (recompute w) := recompute_lawful
  have ending : Lawful (recompute w) (reloadEnding i s.configured (recompute w)) :=
    reloadEnding_lawful i _ (by rw [recompute_sequencer]; exact train2)
  have both := chain.trans ending
  refine ⟨⟨fun k => both.latch (latch2 (latch1 k)), fun k => both.speed (speed2 (speed1 k)), fun law k => ?_,
    fun k => both.demand (demand2 k), fun k => both.roster (roster2 (roster1 k))⟩,
    fun l k => both.slot (latch2 (latch1 l)) (slot2 (slot1 l k))⟩
  refine ending.capacity (chain.speed (speed2 (speed1 law))) (recompute_capacity_of_parked train2 ?_ ?_ (image_limits valid).2)
  · rw [sp2, sp1]
    exact k.sp_of_parked parked
  · rw [loader2, loader1]

end Sys2Proof.Machine
end

section
/-! A failed reload under the laws of the train, every command, and the laws that every step keeps. -/

namespace Sys2Proof.Machine

open Sys2Proof

variable {s t u : State} {c : Instr}

/-! ## Entry into UNCONFIGURED -/

theorem setMinority_roster (v : Bool) : (setMinority v s).roster = { s.roster with minority := v } := by
  unfold setMinority
  split
  · next same => rw [same]
  · rw [withholdChanged_frame _ _ .roster (by decide)]
    rfl

/-- A parked train with its valve word at rest moves to another parked state without a change of Flow Trim. -/
theorem moveTo_trim_of_parked {x : Train} (o : YieldOutcome) (here : s.sequencer.train.isParked = true)
    (word : s.sequencer.valve = Valve.atRest) (there : x.isParked = true) : (moveTo o x s).trim = s.trim := by
  have valve : valveOf x = Valve.atRest := by revert there; cases x <;> decide
  have follows : ∀ u : State, (trimFor x u).trim = u.trim := fun u => by
    revert there
    cases x <;> first | exact fun _ => rfl | exact fun k => nomatch k
  have frame := leaving_frame (s := s) o x
  rw [moveTo_eq, noteChange_frame s .trim (by decide), if_neg fun k => parked_ne here rfl k.1]
  unfold entering
  rw [follows, setValve_trim, valve, frame .sequencer (by decide)]
  simp only [word, if_true]
  exact frame .trim (by decide)

/-- The Loader has lost the parameter set of a configured part, with its record (R194). -/
def unloaded (r : Nat) (s : State) : State :=
  raiseOwn .configFailed r { s with loader := { s.loader with phase := .idle, params := none, signature := 0 } }

/-- The estimator stopped, with the roster re-judged against signature 0 and without snapshots (R20, R55). -/
def estimatorStopped (old : Word16) (s : State) : State := stopEstimator (rejudge old s)

/-- The train UNCONFIGURED without a request or the minority cause. -/
def trainStopped (s : State) : State := setMinority false (cancelRequest (some .aborted) (trainUnconfigured s))

/-- Capability, stage counters, Protection's timers and join wait on entering UNCONFIGURED. -/
def blocksStopped (s : State) : State := dropJoinWait (stopProtection (resetCounters (stopCapability s)))

theorem enterUnconfigured_eq (r : Nat) :
    enterUnconfigured r s =
      compareTally (compareSilences (blocksStopped (estimatorStopped s.loader.signature (trainStopped (unloaded r s))))) := rfl

theorem trainUnconfigured_train : (trainUnconfigured s).sequencer.train = .unconfigured := moveTo_train _ _

theorem trainUnconfigured_loader : (trainUnconfigured s).loader = s.loader := moveTo_loader _ _

theorem trainUnconfigured_roster : (trainUnconfigured s).roster = s.roster := moveTo_frame _ _ .roster (by decide)

theorem trainUnconfigured_sp (parked : s.sequencer.train.isParked = true) :
    (trainUnconfigured s).staging.sp = s.staging.sp := (moveTo_parks .aborted rfl parked).2

theorem unloaded_speedLaw (r : Nat) (parked : s.sequencer.train.isParked = true) (h : SpeedLaw s) :
    SpeedLaw (trainUnconfigured (unloaded r s)) := by
  have word := h.stopped parked
  have trim : (trainUnconfigured (unloaded r s)).trim = s.trim :=
    moveTo_trim_of_parked (s := unloaded r s) .aborted parked word rfl
  obtain ⟨zero, off⟩ := h.off (by rw [word]; rfl)
  have valve : (trainUnconfigured (unloaded r s)).sequencer.valve = Valve.atRest := moveTo_valve _ _
  have loader : (trainUnconfigured (unloaded r s)).loader = (unloaded r s).loader := trainUnconfigured_loader
  refine ⟨.inl (by rw [trainUnconfigured_train]; exact valve), fun _ => ⟨by rw [trim, zero], by rw [trim, off]⟩,
    fun run => ?_, fun p k => ?_, fun _ => ⟨by rw [trainUnconfigured_train]; rfl, rfl⟩, fun k => ?_⟩
  · rw [valve] at run
    cases run
  · rw [loader] at k
    cases k
  · rw [loader] at k
    cases k

theorem unloaded_slotLaw (r : Nat) (parked : s.sequencer.train.isParked = true) (h : SlotLaw s) :
    SlotLaw (trainUnconfigured (unloaded r s)) := by
  have start : s.sequencer.train.isStarting = false := by
    revert parked
    cases s.sequencer.train <;> decide
  have free := h.free_of start fun e => parked_ne parked rfl e.1
  have unheld : Unheld (unloaded r s) := ⟨free.pending, free.free, fun e => nomatch e⟩
  exact (unheld.moveTo .aborted (x := .unconfigured) rfl).congr rfl rfl rfl rfl

theorem unloaded_latchLaw (r : Nat) (h : LatchLaw s) : LatchLaw (trainUnconfigured (unloaded r s)) := by
  have moved : LatchLaw (moveTo .aborted .unconfigured (unloaded r s)) := moveTo_latch _ (.inl rfl) (h.congr rfl rfl)
  exact moved.congr rfl rfl

theorem trainStopped_lawful : Lawful (trainUnconfigured s) (trainStopped s) :=
  (setMinority_lawful _).after (cancelRequest_lawful _)

theorem cancelRequest_parks (o : Option YieldOutcome) : Parks s (cancelRequest o s) :=
  Parks.of_frame (cancelRequest_frame o) (by decide) (by decide)

theorem trainStopped_parks : Parks (trainUnconfigured s) (trainStopped s) :=
  (setMinority_parks _).after (cancelRequest_parks _)

theorem trainStopped_loader : (trainStopped s).loader = s.loader := by
  rw [trainStopped, setMinority_frame _ .loader (by decide), cancelRequest_frame _ .loader (by decide),
    trainUnconfigured_loader]

theorem trainUnconfigured_ident : (trainUnconfigured s).ident = s.ident := moveTo_frame _ _ .ident (by decide)

theorem trainStopped_ident : (trainStopped s).ident = s.ident := by
  rw [trainStopped, setMinority_frame _ .ident (by decide), cancelRequest_frame _ .ident (by decide),
    trainUnconfigured_ident]

theorem trainStopped_entries : (trainStopped s).roster.entries = s.roster.entries := by
  rw [trainStopped, setMinority_roster, cancelRequest_frame _ .roster (by decide), trainUnconfigured_roster]

/-- The roster stands against signature 0, without snapshots. -/
theorem estimatorStopped_rosterLaw (old : Word16) (own : s.roster.entries[s.ident.station].validity = .empty)
    (peers : ∀ i : Station, i ≠ s.ident.station → (s.roster.entries[i].validity = .empty → s.roster.entries[i] = Entry.none) ∧
      (s.roster.entries[i].validity = .excluded → s.roster.entries[i].snapshot = none))
    (live : s.loader.phase ≠ .loading) : RosterLaw (estimatorStopped old s) :=
  (snapshots_rosterLaw (f := fun _ => none) (rejudge_rosterLaw old own peers live) fun _ _ _ => rfl).congr rfl rfl rfl

theorem estimatorStopped_laws (old : Word16) :
    (LatchLaw s → LatchLaw (estimatorStopped old s)) ∧ (SpeedLaw s → SpeedLaw (estimatorStopped old s)) ∧
      (SlotLaw s → SlotLaw (estimatorStopped old s)) ∧ Parks s (estimatorStopped old s) ∧
      (estimatorStopped old s).loader = s.loader ∧ (estimatorStopped old s).demand.qReq = 0 := by
  have frame := rejudge_frame (s := s) old
  obtain ⟨latch, speed, -, -, slot⟩ := laws_of_roster frame
  have parks : Parks s (rejudge old s) := Parks.of_frame frame (by decide) (by decide)
  have loader : (rejudge old s).loader = s.loader := frame .loader (by decide)
  unfold estimatorStopped
  generalize rejudge old s = v at *
  exact ⟨fun k => (latch k).congr rfl rfl, fun k => (speed k).congr rfl rfl rfl rfl rfl rfl,
    fun k => (slot k).congr rfl rfl rfl rfl, Parks.after (Parks.of_eq rfl rfl) parks, loader, rfl⟩

theorem enterUnconfigured_lawful (r : Nat) (may : s.sequencer.train.mayReload = true) : Lawful s (enterUnconfigured r s) := by
  have parked := isParked_of_mayReload may
  have latch1 := unloaded_latchLaw (s := s) r
  have speed1 := unloaded_speedLaw r parked
  have slot1 := unloaded_slotLaw r parked
  have sp1 : (trainUnconfigured (unloaded r s)).staging.sp = s.staging.sp := trainUnconfigured_sp (s := unloaded r s) parked
  have train1 : (trainUnconfigured (unloaded r s)).sequencer.train.isParked = true := by rw [trainUnconfigured_train]; rfl
  have stopped := trainStopped_lawful (s := unloaded r s)
  obtain ⟨train2, sp2⟩ := trainStopped_parks (s := unloaded r s) train1
  have loader2 : (trainStopped (unloaded r s)).loader = (unloaded r s).loader := trainStopped_loader
  have entries2 : (trainStopped (unloaded r s)).roster.entries = s.roster.entries := trainStopped_entries
  have ident2 : (trainStopped (unloaded r s)).ident = s.ident := trainStopped_ident
  rw [enterUnconfigured_eq]
  generalize trainStopped (unloaded r s) = v at *
  have roster3 : RosterLaw s → RosterLaw (estimatorStopped s.loader.signature v) := fun k => by
    refine estimatorStopped_rosterLaw _ ?_ (fun i other => ?_) (by rw [loader2]; exact fun e => nomatch e)
    · simp only [entries2, ident2]
      exact k.own
    · rw [ident2] at other
      simp only [entries2]
      exact ⟨k.empty i other, fun e => (k.excluded i e).2⟩
  obtain ⟨latch3, speed3, slot3, parks3, loader3, zero3⟩ := estimatorStopped_laws (s := v) s.loader.signature
  obtain ⟨train3, sp3⟩ := parks3 train2
  generalize estimatorStopped s.loader.signature v = w at *
  have unset : w.loader.params = none := by rw [loader3, loader2]; rfl
  have live : w.loader.phase ≠ .loading := by rw [loader3, loader2]; exact fun e => nomatch e
  have ending : Lawful (blocksStopped w) (compareTally (compareSilences (blocksStopped w))) :=
    compareTally_lawful.after compareSilences_lawful
  have speed : SpeedLaw s → SpeedLaw (blocksStopped w) := fun k =>
    (speed3 (stopped.speed (speed1 k))).congr rfl rfl rfl rfl rfl rfl
  have latch : LatchLaw s → LatchLaw (blocksStopped w) := fun k => (latch3 (stopped.latch (latch1 k))).congr rfl rfl
  refine ⟨⟨fun k => ending.latch (latch k), fun k => ending.speed (speed k), fun law k => ending.capacity (speed law) ?_,
    fun _ => ending.demand (.of_zero zero3 live), fun k => ending.roster ((roster3 k).congr rfl rfl rfl)⟩,
    fun l k => ending.slot (latch l) ((slot3 (stopped.slot (latch1 l) (slot1 k))).congr rfl rfl rfl rfl)⟩
  refine Ranged.law_of_stopped ⟨fun p e => absurd (unset.symm.trans e) (by simp), fun _ => ⟨rfl, rfl⟩⟩
    (parked_ne (s := blocksStopped w) train3 rfl) ?_
  show w.staging.sp = 0
  rw [sp3, sp2, sp1]
  exact k.sp_of_parked parked

theorem endReload_lawful (image : List Byte) : Lawful s (endReload image s) := by
  unfold endReload
  refine Lawful.ite (fun _ => reloadDropped_lawful _) fun may => ?_
  have may : s.sequencer.train.mayReload = true := by
    cases e : s.sequencer.train.mayReload with
    | true => rfl
    | false => exact absurd (.inl e) may
  split
  · next valid => exact reloadSucceeded_lawful valid may
  · exact Lawful.ite (fun _ => enterUnconfigured_lawful _ may) fun _ => reloadDropped_lawful _

/-! ## The commands -/

theorem Lawful.of_pins {q : Pins} : Lawful s { s with pins := q } := Lawful.of_watch rfl rfl

theorem Lawful.of_lport {q : LocalPort} : Lawful s { s with lport := q } := Lawful.of_watch rfl rfl

theorem answer_lawful (reply : List Byte) : Lawful s (answer reply s) := Lawful.of_lport

theorem execConfigLoadEnd_lawful (image : List Byte) (tariff : Bool) (h : execConfigLoadEnd image tariff s = .next t) :
    Lawful s t := by
  unfold execConfigLoadEnd at h
  dsimp only at h
  split at h
  · next loading =>
    cases h
    refine (finish_lawful s).after (Lawful.trans (Lawful.of_pins (q := { s.pins with tariff := tariff })) ?_)
    split
    · next valid => exact loadSucceeded_lawful valid loading
    · exact loadFailed_lawful _ loading
  all_goals cases h; exact Lawful.refl _

theorem execReloadEnd_lawful (image : List Byte) (tariff : Bool) (h : execReloadEnd image tariff s = .next t) : Lawful s t := by
  unfold execReloadEnd at h
  split at h
  · cases h
    exact (finish_lawful s).after (Lawful.trans (Lawful.of_pins (q := { s.pins with tariff := tariff })) (endReload_lawful image))
  all_goals cases h; exact Lawful.refl _

theorem clearLatch_lawful (k : Cause) : Lawful s (clearLatch s k) := by
  unfold clearLatch
  refine Lawful.ite (fun _ => (raiseOwn_lawful _ _).after ?_) fun _ => Lawful.refl s
  refine ⟨⟨fun law => ?_, fun k => k.congr rfl rfl rfl rfl rfl rfl, fun _ k => k.congr rfl rfl rfl rfl rfl,
    fun k => k.congr rfl rfl rfl, fun k => k.congr rfl rfl rfl⟩, fun _ k => k.congr rfl rfl rfl rfl⟩
  rw [latchLaw_iff] at law ⊢
  refine fun any => law ?_
  obtain ⟨x, set⟩ := (PerCause.any_eq_true_iff _).mp any
  refine (PerCause.any_eq_true_iff _).mpr ⟨x, ?_⟩
  by_cases same : x = k
  · subst same
    simp at set
  · simpa [same] using set

theorem clearLatches_lawful : Lawful s (clearLatches s) := Lawful.foldl (fun _ k => clearLatch_lawful k) _

theorem execClearTrips_lawful (h : execClearTrips s = .next t) : Lawful s t := by
  have looked : Lawful s (clearLatches (answer [] s)) := clearLatches_lawful.after (answer_lawful [])
  unfold execClearTrips at h
  cases h
  refine (finish_lawful s).after (Lawful.ite (fun _ => looked.trans Lawful.of_lport) fun clear => ?_)
  refine looked.trans (Lawful.trans Lawful.of_lport (leaveTripped_lawful ?_))
  simpa using clear

theorem withholdCmd_lawful (b arose : Bool) : Lawful s (finish s (withholdChanged s.withheld arose
    (answer replyDone { s with lport := { s.lport with withholdCmd := b } }))) :=
  (finish_lawful s).after ((withholdChanged_lawful _ _).after (Lawful.trans Lawful.of_lport (answer_lawful replyDone)))

/-- A command that finds its timer stopped, or its state another, does nothing. -/
theorem Lawful.of_next {x : State} (h : (.next x : Host.Outcome State Fault Refusal) = .next t) (k : Lawful s x) : Lawful s t := by
  cases h
  exact k

/-- Every command but DEVICE_RESET keeps the laws of the train. -/
theorem exec_lawful (h : exec c s = .next t) (running : ∀ stn rate, c ≠ .deviceReset stn rate) : Lawful s t := by
  cases c with
  | deviceReset stn rate => exact absurd rfl (running stn rate)
  | configLoadEnd image tariff => exact execConfigLoadEnd_lawful image tariff h
  | setIndex i j => cases h; exact (answer_lawful _).after Lawful.of_lport
  | readItem tariff => cases h; exact (answer_lawful _).after Lawful.of_pins
  | popEvent =>
    simp only [exec, execPopEvent] at h
    split at h <;> exact .of_next h Lawful.of_lport
  | popEventEnd =>
    simp only [exec, execPopEventEnd] at h
    split at h
    · exact .of_next h (Lawful.of_watch rfl rfl)
    · exact .of_next h Lawful.of_lport
    · exact .of_next h (Lawful.refl s)
  | withhold => cases h; exact withholdCmd_lawful _ _
  | returnCmd => cases h; exact withholdCmd_lawful _ _
  | clearTrips => exact execClearTrips_lawful h
  | clearCounters => cases h; exact Lawful.of_watch rfl rfl
  | reloadConfig =>
    simp only [exec, execReloadConfig] at h
    split at h
    · exact .of_next h ((answer_lawful _).after (Lawful.of_phase (by decide)))
    · exact .of_next h (answer_lawful _)
  | unknownCommand op => cases h; exact answer_lawful _
  | reloadEnd image tariff => exact execReloadEnd_lawful image tariff h
  | withholdLineChange level =>
    cases h
    exact (finish_lawful s).after ((withholdChanged_lawful _ _).after Lawful.of_pins)
  | tripInChange level =>
    cases h
    dsimp only
    exact Lawful.ite (fun _ => (finish_lawful s).after (judgeExternal_lawful.after Lawful.of_pins)) fun _ => Lawful.of_pins
  | tallyReceived rx => cases h; exact receiveFrame_lawful rx
  | bidReceived rx => cases h; exact receiveFrame_lawful rx
  | occupiedReceived rx => cases h; exact receiveFrame_lawful rx
  | yieldReceived rx => cases h; exact receiveFrame_lawful rx
  | frameDiscarded rx => cases h; exact receiveFrame_lawful rx
  | duplicateStation rx => cases h; exact receiveFrame_lawful rx
  | ownEcho rx => cases h; exact receiveFrame_lawful rx
  | transmitBegin recessive =>
    simp only [exec, execTransmitBegin] at h
    split at h
    · refine .of_next h (Lawful.ite (fun _ => ?_) fun _ => ?_) <;> exact Lawful.of_line
    · exact .of_next h (Lawful.refl s)
  | contentionLost =>
    simp only [exec, execContentionLost] at h
    split at h
    · exact .of_next h Lawful.of_line
    · exact .of_next h (Lawful.refl s)
  | lineFault =>
    simp only [exec, execLineFault] at h
    split at h
    · exact .of_next h Lawful.of_line
    · exact .of_next h (Lawful.refl s)
  | demandPeriodEnd tariff =>
    simp only [exec, execDemandPeriodEnd] at h
    split at h
    · next params =>
      exact .of_next h ((finish_lawful s).after (Lawful.trans (Lawful.of_pins (q := { s.pins with tariff := tariff }))
        (demandPeriod_lawful params)))
    · exact .of_next h (Lawful.refl s)
  | levelLost =>
    simp only [exec, execLevelLost] at h
    split at h
    · exact .of_next h loseLevel_lawful
    · exact .of_next h (Lawful.refl s)
  | classHoldExpiry =>
    simp only [exec, execClassHoldExpiry] at h
    split at h
    · exact .of_next h (recompute_lawful.after (Lawful.of_capability_eq rfl rfl))
    · exact .of_next h (Lawful.refl s)
  | peerStale i =>
    simp only [exec, execPeerStale] at h
    split at h
    · next can => exact .of_next h ((finish_lawful s).after ((rosterChanged_lawful _).after (goStale_lawful can)))
    · exact .of_next h (Lawful.refl s)
  | peerDropped i =>
    simp only [exec, execPeerDropped] at h
    split at h
    · next can => exact .of_next h ((finish_lawful s).after ((rosterChanged_lawful _).after (dropPeer_lawful can)))
    · exact .of_next h (Lawful.refl s)
  | confirmationWindowExpiry =>
    simp only [exec, execConfirmationWindowExpiry] at h
    split at h
    · next view =>
      split at h
      · exact .of_next h (arbitrate_lawful.after (recomposeTally_lawful.after (winSlot_lawful view)))
      · exact .of_next h (Lawful.refl s)
    · exact .of_next h (Lawful.refl s)
  | ownHoldExpiry =>
    simp only [exec, execOwnHoldExpiry] at h
    split at h
    · next view => exact .of_next h ((finish_lawful s).after (overrunHold_lawful view))
    · exact .of_next h (Lawful.refl s)
  | heldViewExpiry =>
    simp only [exec, execHeldViewExpiry] at h
    split at h
    · next view => exact .of_next h ((raise_lawful _ _ _).after (viewFree_lawful (by rw [view]; rfl)))
    · exact .of_next h (Lawful.refl s)
  | settleGapExpiry => cases h; exact Lawful.of_slot rfl
  | joinWaitExpiry =>
    simp only [exec, execJoinWaitExpiry] at h
    split at h
    · exact .of_next h (Lawful.of_slot rfl)
    · exact .of_next h (Lawful.refl s)
  | claimGraceExpiry =>
    simp only [exec, execClaimGraceExpiry] at h
    split at h
    · next view =>
      refine .of_next h (Lawful.of_view (slot_frame _) (by decide) fun k => ?_)
      exact k.of_not_own (by rw [view]; rfl) rfl rfl rfl
    · exact .of_next h (Lawful.refl s)
  | restTimerExpiry =>
    simp only [exec, execRestTimerExpiry] at h
    split at h
    · next rest =>
      have timed : s.loader.params ≠ none ∨ s.sequencer.rest ≠ .stopped := .inr (by rw [rest]; exact fun e => nomatch e)
      refine .of_next h ((finish_lawful s).after (Lawful.ite (fun train => ?_) fun _ => Lawful.of_rest timed))
      refine Lawful.trans (Lawful.of_rest (r := .expired) timed) (moveTo_lawful _ ?_)
      exact ⟨⟨.inr (.inl (by show s.sequencer.train.mayLatch = false; rw [train]; rfl)),
        fun _ => .inr (.inr fun e => nomatch e), by decide⟩, by show s.sequencer.train.isStarting = false; rw [train]; rfl,
        by show s.sequencer.train ≠ .unload; rw [train]; decide, rfl⟩
    · exact .of_next h (Lawful.refl s)
  | fillExpiry =>
    simp only [exec, execFillExpiry] at h
    split at h
    · next phase =>
      have train : s.sequencer.train = .fill := by
        simp only [State.inPhase, Bool.and_eq_true, decide_eq_true_eq] at phase
        exact phase.1
      refine .of_next h ((finish_lawful s).after (pressurizeTest_lawful.after (Lawful.trans
        (Lawful.of_sequencer_eq (q := { s.sequencer with starts := satInc 65535 s.sequencer.starts }) rfl rfl rfl rfl) ?_)))
      exact moveTo_starting _ (by show s.sequencer.train.isStarting = true; rw [train]; rfl) rfl
    · exact .of_next h (Lawful.refl s)
  | pressurizeTimeout =>
    simp only [exec, execPressurizeTimeout] at h
    split at h
    · exact .of_next h ((finish_lawful s).after ((arrive_lawful _).after (Lawful.of_sequencer_eq rfl rfl rfl rfl)))
    · exact .of_next h (Lawful.refl s)
  | qualityTimerExpiry =>
    simp only [exec, execQualityTimerExpiry] at h
    split at h
    · next train _ => exact .of_next h ((finish_lawful s).after (enterRunning_lawful train))
    · exact .of_next h (Lawful.refl s)
  | divertTimeout =>
    simp only [exec, execDivertTimeout] at h
    split at h
    · exact .of_next h ((finish_lawful s).after ((arrive_lawful _).after (Lawful.of_sequencer_eq rfl rfl rfl rfl)))
    · exact .of_next h (Lawful.refl s)
  | minRunExpiry =>
    simp only [exec, execMinRunExpiry] at h
    split at h
    · exact .of_next h (Lawful.of_sequencer_eq rfl rfl rfl rfl)
    · exact .of_next h (Lawful.refl s)
  | unloadTimeout =>
    simp only [exec, execUnloadTimeout] at h
    split at h
    · refine .of_next h ((finish_lawful s).after ?_)
      exact (arrive_lawful _).after (Lawful.of_sequencer_eq rfl rfl rfl rfl)
    · exact .of_next h (Lawful.refl s)
  | flushExpiry =>
    simp only [exec, execFlushExpiry] at h
    split at h
    · next phase =>
      simp only [State.inPhase, Bool.and_eq_true, decide_eq_true_eq] at phase
      exact .of_next h ((finish_lawful s).after (endFlush_lawful phase.1))
    · exact .of_next h (Lawful.refl s)
  | settleTimerExpiry =>
    simp only [exec, execSettleTimerExpiry] at h
    split at h
    · exact .of_next h (Lawful.of_trim_eq rfl rfl)
    · exact .of_next h (Lawful.refl s)
  | saturationTimerExpiry =>
    simp only [exec, execSaturationTimerExpiry] at h
    split at h
    · exact .of_next h (Lawful.trans (takeSaturation_lawful (s.chan 1)) (Lawful.of_trim_eq rfl rfl))
    · exact .of_next h (Lawful.refl s)
  | lowSuctionExpiry =>
    simp only [exec, execLowSuctionExpiry] at h
    split at h
    · refine .of_next h ((finish_lawful s).after ?_)
      exact (arrive_lawful _).after (Lawful.of_protection rfl)
    · exact .of_next h (Lawful.refl s)
  | qualityTripExpiry =>
    simp only [exec, execQualityTripExpiry] at h
    split at h
    · refine .of_next h ((finish_lawful s).after ?_)
      exact (arrive_lawful _).after (Lawful.of_protection rfl)
    · exact .of_next h (Lawful.refl s)
  | instrumentExpiry =>
    simp only [exec, execInstrumentExpiry] at h
    split at h
    · refine .of_next h ((finish_lawful s).after ?_)
      exact (arrive_lawful _).after (Lawful.of_protection rfl)
    · exact .of_next h (Lawful.refl s)
  | tallyTimerExpiry =>
    simp only [exec, execTallyTimerExpiry] at h
    split at h
    · exact .of_next h sendTally_lawful
    · exact .of_next h (Lawful.refl s)
  | scanPaceExpiry =>
    simp only [exec, execScanPaceExpiry] at h
    split at h
    · exact .of_next h (arbitrate_lawful.after Lawful.of_port)
    · exact .of_next h (Lawful.refl s)
  | retryTimerExpiry =>
    simp only [exec, execRetryTimerExpiry] at h
    split at h
    · exact .of_next h Lawful.of_port
    · exact .of_next h (Lawful.refl s)
  | readComplete w =>
    simp only [exec, execReadComplete] at h
    split at h
    · exact .of_next h ((finish_lawful s).after (takeWord_lawful _ _ _))
    · exact .of_next h (Lawful.refl s)
  | writeComplete =>
    simp only [exec, execWriteComplete] at h
    split at h
    · exact .of_next h ((finish_lawful s).after Lawful.of_port)
    · exact .of_next h ((finish_lawful s).after Lawful.of_port)
    · exact .of_next h (Lawful.refl s)
  | transactionError =>
    simp only [exec, execTransactionError] at h
    split at h
    · exact .of_next h ((finish_lawful s).after (portError_lawful _))
    · exact .of_next h Lawful.of_port
    · exact .of_next h (Lawful.refl s)
  | retryReadComplete w =>
    simp only [exec, execRetryReadComplete] at h
    split at h
    · exact .of_next h ((finish_lawful s).after (restorePort_lawful _))
    · exact .of_next h (Lawful.refl s)
  | headerWon =>
    simp only [exec, execHeaderWon] at h
    split at h
    · exact .of_next h Lawful.of_line
    · exact .of_next h (Lawful.refl s)
  | lastCrcBitSent =>
    simp only [exec, execLastCrcBitSent] at h
    split at h
    · exact .of_next h Lawful.of_line
    · exact .of_next h (Lawful.refl s)

/-! ## Every step -/

theorem tick_watch (s : State) : (tick s).watch = s.watch := by
  show ({ s.watch with
    train := (tick s).sequencer.train, valve := (tick s).sequencer.valve, rest := (tick s).sequencer.rest,
    staged := (tick s).sequencer.staged } : Watch) = s.watch
  rw [tick_sequencer]
  rfl

theorem tick_lawful : Lawful s (tick s) := Lawful.of_watch (tick_watch s) rfl

theorem afterReset_speedLaw (i : Ident) (p : Pins) : SpeedLaw (State.afterReset i p) :=
  ⟨.inl rfl, fun _ => ⟨rfl, rfl⟩, fun k => (nomatch k), fun _ k => (nomatch k), fun _ => ⟨rfl, rfl⟩, fun _ => rfl⟩

theorem afterReset_capacityLaw (i : Ident) (p : Pins) : CapacityLaw (State.afterReset i p) :=
  ⟨fun _ k => (nomatch k), fun _ => ⟨rfl, rfl⟩, fun k => (nomatch k), fun _ => rfl⟩

theorem afterReset_demandLaw (i : Ident) (p : Pins) : DemandLaw (State.afterReset i p) :=
  ⟨fun _ k => (nomatch k), fun _ => rfl, fun _ => rfl⟩

theorem afterReset_latchLaw (i : Ident) (p : Pins) : LatchLaw (State.afterReset i p) := fun k => nomatch k

theorem afterReset_slotLaw (i : Ident) (p : Pins) : SlotLaw (State.afterReset i p) :=
  ⟨fun _ k => (nomatch k), fun _ _ k => (nomatch k), fun k => (nomatch k), fun k => (nomatch k), fun _ => ⟨rfl, rfl⟩⟩

theorem afterReset_entries (i : Ident) (p : Pins) (j : Station) : (State.afterReset i p).roster.entries[j] = Entry.none := by
  show (Vector.replicate 16 Entry.none)[j.val] = Entry.none
  exact Vector.getElem_replicate _

theorem afterReset_rosterLaw (i : Ident) (p : Pins) : RosterLaw (State.afterReset i p) := by
  have empty := afterReset_entries i p
  refine .of_peers (x := i.station) rfl (by rw [empty]; rfl) (fun j _ => ?_) fun _ j => by rw [empty]; rfl
  rw [empty]
  exact entryLaw_none _

/-- A law that the operations keep, and that device reset gives, is kept by every step. -/
theorem StepLaw.of_lawful {L : State → Prop} (kept : ∀ {s t : State}, Lawful s t → L s → L t)
    (reset : ∀ ident pins, L (State.afterReset ident pins)) : StepLaw L where
  pending _ _ := kept (Lawful.of_watch rfl rfl)
  arbitrate _ := kept arbitrate_lawful
  tick _ := kept tick_lawful
  reset := reset
  commands _ _ _ h running := kept (exec_lawful h running)

/-- Settles O8. -/
theorem everyStepKeepsSpeedLaw : Obligations.EveryStepKeepsSpeedLaw := fun _ _ law h =>
  (StepLaw.of_lawful (L := SpeedLaw) (fun k => k.speed) afterReset_speedLaw).step law h

/-- Settles O9: the speed law goes along, as the capacity law's own steps need it. -/
theorem everyStepKeepsCapacityLaw : Obligations.EveryStepKeepsCapacityLaw := fun _ _ speed law h =>
  ((StepLaw.of_lawful (L := fun s => SpeedLaw s ∧ CapacityLaw s) (fun k l => ⟨k.speed l.1, k.capacity l.1 l.2⟩)
    fun i p => ⟨afterReset_speedLaw i p, afterReset_capacityLaw i p⟩).step ⟨speed, law⟩ h).2

/-- Settles O10. -/
theorem everyStepKeepsDemandLaw : Obligations.EveryStepKeepsDemandLaw := fun _ _ law h =>
  (StepLaw.of_lawful (L := DemandLaw) (fun k => k.demand) afterReset_demandLaw).step law h

/-- Settles O11. -/
theorem everyStepKeepsLatchLaw : Obligations.EveryStepKeepsLatchLaw := fun _ _ law h =>
  (StepLaw.of_lawful (L := LatchLaw) (fun k => k.latch) afterReset_latchLaw).step law h

/-- Settles O12: the latch law goes along, as a trip of a start needs its latch clear. -/
theorem everyStepKeepsSlotLaw : Obligations.EveryStepKeepsSlotLaw := fun _ _ latch law h =>
  ((StepLaw.of_lawful (L := fun s => LatchLaw s ∧ SlotLaw s) (fun k l => ⟨k.latch l.1, k.slot l.1 l.2⟩)
    fun i p => ⟨afterReset_latchLaw i p, afterReset_slotLaw i p⟩).step ⟨latch, law⟩ h).2

/-- Settles O14. -/
theorem everyStepKeepsRosterLaw : Obligations.EveryStepKeepsRosterLaw := fun _ _ law h =>
  (StepLaw.of_lawful (L := RosterLaw) (fun k => k.roster) afterReset_rosterLaw).step law h

/-- Settles O18. -/
theorem lawsHoldAtReset : Obligations.LawsHoldAtReset :=
  ⟨afterReset_speedLaw _ _, afterReset_capacityLaw _ _, afterReset_demandLaw _ _, afterReset_latchLaw _ _,
    afterReset_slotLaw _ _, afterReset_conflictLaw _ _, afterReset_rosterLaw _ _, afterReset_portLaw _ _,
    afterReset_queueLaw _ _, afterReset_counterLaw _ _⟩

end Sys2Proof.Machine
end

section
/-! The settling of the statements that one equation of the model gives: device reset, the operations of the local port
that read or clear, the line's four ends of sending, the TALLY schedule and the small timers. -/

namespace Sys2Proof.Machine

open Sys2Proof

variable {s t u : State} {c : Instr}

/-! ## What the arbiter and the end of a taking leave -/

@[simp] theorem arbitrate_time : (arbitrate s).time = s.time := arbitrate_frame .time (by decide)
@[simp] theorem arbitrate_ident : (arbitrate s).ident = s.ident := arbitrate_frame .ident (by decide)
@[simp] theorem arbitrate_pins : (arbitrate s).pins = s.pins := arbitrate_frame .pins (by decide)
@[simp] theorem arbitrate_demand : (arbitrate s).demand = s.demand := arbitrate_frame .demand (by decide)
@[simp] theorem arbitrate_capability : (arbitrate s).capability = s.capability := arbitrate_frame .capability (by decide)
@[simp] theorem arbitrate_roster : (arbitrate s).roster = s.roster := arbitrate_frame .roster (by decide)
@[simp] theorem arbitrate_staging : (arbitrate s).staging = s.staging := arbitrate_frame .staging (by decide)
@[simp] theorem arbitrate_slot : (arbitrate s).slot = s.slot := arbitrate_frame .slot (by decide)
@[simp] theorem arbitrate_trim : (arbitrate s).trim = s.trim := arbitrate_frame .trim (by decide)
@[simp] theorem arbitrate_line : (arbitrate s).line = s.line := arbitrate_frame .line (by decide)
@[simp] theorem arbitrate_loader : (arbitrate s).loader = s.loader := arbitrate_frame .loader (by decide)
@[simp] theorem arbitrate_lport : (arbitrate s).lport = s.lport := arbitrate_frame .lport (by decide)
@[simp] theorem arbitrate_pending : (arbitrate s).pending = s.pending := arbitrate_frame .pending (by decide)

@[simp] theorem finish_time (before : State) : (finish before s).time = s.time := finish_frame before .time (by decide)
@[simp] theorem finish_ident (before : State) : (finish before s).ident = s.ident := finish_frame before .ident (by decide)
@[simp] theorem finish_pins (before : State) : (finish before s).pins = s.pins := finish_frame before .pins (by decide)
@[simp] theorem finish_demand (before : State) : (finish before s).demand = s.demand := finish_frame before .demand (by decide)
@[simp] theorem finish_capability (before : State) : (finish before s).capability = s.capability := finish_frame before .capability (by decide)
@[simp] theorem finish_roster (before : State) : (finish before s).roster = s.roster := finish_frame before .roster (by decide)
@[simp] theorem finish_staging (before : State) : (finish before s).staging = s.staging := finish_frame before .staging (by decide)
@[simp] theorem finish_slot (before : State) : (finish before s).slot = s.slot := finish_frame before .slot (by decide)
@[simp] theorem finish_trim (before : State) : (finish before s).trim = s.trim := finish_frame before .trim (by decide)
@[simp] theorem finish_lport (before : State) : (finish before s).lport = s.lport := finish_frame before .lport (by decide)
@[simp] theorem finish_pending (before : State) : (finish before s).pending = s.pending := finish_frame before .pending (by decide)

/-- A taking that leaves the slot as it was ends with the arbiter alone. -/
theorem finish_of_slot_kept {before : State} (h : s.slot = before.slot) : finish before s = arbitrate s :=
  finish_of_same_holding (by rw [h])

theorem finish_line_of_slot_kept {before : State} (h : s.slot = before.slot) : (finish before s).line = s.line := by
  rw [finish_of_slot_kept h, arbitrate_line]

/-- The frame of a taking that leaves the slot as it was: its own and the port. -/
theorem finish_changes {before : State} {bs cs : List Block} (frame : changesOnly bs s t) (slot : t.slot = before.slot)
    (sub : bs ⊆ cs) (port : Block.port ∈ cs) : changesOnly cs s (finish before t) := by
  rw [finish_of_slot_kept slot]
  exact (frame.mono sub).trans (arbitrate_frame.mono (by simpa using port))

/-! ## Device reset -/

/-- With the port IDLE and a valve word waiting, the arbiter writes it. -/
theorem arbitrate_of_valve {v : Valve} (idle : s.port.state = .idle) (waits : s.port.pendValve = some v) :
    arbitrate s = { s with port :=
      { s.port with
        state := .inTransaction { kind := .valve v, settings := s.portSettings }, pendValve := none } } := by
  simp [arbitrate, idle, waits]

/-- The state that DEVICE_RESET answers: the reset values, with the valve word's write under way. -/
def resetWriting (i : Ident) (s : State) : State :=
  { State.afterReset i s.pins with
    pending := s.pending
    port :=
      { (State.afterReset i s.pins).port with
        state := .inTransaction { kind := .valve Valve.atRest, settings := fixedPortSettings }, pendValve := none } }

theorem exec_deviceReset_eq (stn : BitVec 4) (rate : BitVec 2) (s : State) :
    exec (.deviceReset stn rate) s =
      .next (resetWriting { uid := s.ident.uid, station := stn.toFin, rate := rate } s) := by
  rw [exec_deviceReset, arbitrate_of_valve rfl rfl]
  rfl

theorem resetWriting_changes (i : Ident) :
    changesOnly
      [.time, .ident, .demand, .capability, .roster, .staging, .slot, .sequencer, .trim, .protection, .line, .port,
        .loader, .lport, .queue] s (resetWriting i s) := fun b hb => by
  cases b <;> first | rfl | exact absurd (by decide) hb

/-- Settles O19: block by block the values of State.afterReset, the port's with the valve word's write taken. -/
theorem deviceResetGivesResetValues : Obligations.DeviceResetGivesResetValues := by
  intro stn rate s
  refine ⟨_, exec_deviceReset_eq stn rate s, resetWriting_changes _, rfl, rfl, rfl, rfl,
    afterReset_entries { uid := s.ident.uid, station := stn.toFin, rate := rate } s.pins, rfl, rfl, rfl, rfl, rfl, rfl, rfl, fun k => ?latches, ⟨rfl, rfl, rfl, rfl⟩, rfl, rfl, rfl,
    rfl, rfl, rfl, rfl, rfl, rfl, rfl, rfl, rfl, rfl, rfl, rfl⟩
  case latches => cases k <;> exact ⟨rfl, rfl⟩

/-! ## Operations of the local port -/

/-- Settles O26. -/
theorem setIndexStoresEachByte : Obligations.SetIndexStoresEachByte := fun _ _ _ => rfl

/-- An operation byte outside the table's eight picks the unknown command. -/
theorem operation_unknown {op : Byte} (i j : Option Byte) (tariff : Bool)
    (h : op ∉ ([0x01, 0x02, 0x03, 0x10, 0x11, 0x12, 0x13, 0x14] : List Byte)) :
    operation op i j tariff = .unknownCommand op := by
  have other : ∀ b ∈ ([0x01, 0x02, 0x03, 0x10, 0x11, 0x12, 0x13, 0x14] : List Byte), op.toNat ≠ b.toNat :=
    fun b listed e => h (BitVec.eq_of_toNat_eq e ▸ listed)
  unfold operation
  split
  case h_1 e => exact absurd e (other 0x01 (by decide))
  case h_2 e => exact absurd e (other 0x02 (by decide))
  case h_3 e => exact absurd e (other 0x03 (by decide))
  case h_4 e => exact absurd e (other 0x10 (by decide))
  case h_5 e => exact absurd e (other 0x11 (by decide))
  case h_6 e => exact absurd e (other 0x12 (by decide))
  case h_7 e => exact absurd e (other 0x13 (by decide))
  case h_8 e => exact absurd e (other 0x14 (by decide))
  case h_9 => rfl

/-- Settles O32. -/
theorem clearCountersAndUnknownCommand : Obligations.ClearCountersAndUnknownCommand := by
  intro op s
  refine ⟨rfl, rfl, fun i j tariff => ⟨rfl, rfl, rfl, rfl, rfl, rfl, rfl, rfl, fun h => ?_⟩⟩
  rw [operation_unknown i j tariff h]

/-! ## TRIP-IN -/

/-- EXTERNAL's judging where no arrival is made takes the flag alone. -/
theorem judgeExternal_of_no_arrival (h : s.pins.tripIn = false ∨ s.protection.extFlag = true) :
    judgeExternal s = { s with protection := { s.protection with extFlag := s.pins.tripIn } } := by
  have none : (s.pins.tripIn && !s.protection.extFlag) = false := by rcases h with h | h <;> simp [h]
  simp only [judgeExternal, arriveIf, none, Bool.false_eq_true, if_false]

/-- Settles O36: before the load's end the level alone is taken, from then on the flag with it. -/
theorem tripInReleaseOnlyFollowsTheLine : Obligations.TripInReleaseOnlyFollowsTheLine := by
  intro level s quiet
  cases ended : s.loadEnded with
  | false =>
    refine ⟨{ s with pins := { s.pins with tripIn := level } }, ?_, rfl, rfl, fun b hb => ?_⟩
    · simp [exec, execTripInChange, ended]
    · cases b <;> first | rfl | exact absurd (by decide) hb
  | true =>
    have calm : level = false ∨ s.protection.extFlag = true := by simpa [ended] using quiet
    let taken : State := { s with pins := { s.pins with tripIn := level } }
    have judged : judgeExternal taken = { taken with protection := { taken.protection with extFlag := level } } :=
      judgeExternal_of_no_arrival calm
    refine ⟨finish s (judgeExternal taken), ?_, ?_, ?_, ?_⟩
    · simp [exec, execTripInChange, ended, taken]
    · rw [finish_pins, judged]
    · rw [finish_protection, judged]
      rfl
    · rw [judged]
      refine finish_changes (bs := [.pins, .protection]) (fun b hb => ?_) rfl (by decide) (by decide)
      cases b <;> first | rfl | exact absurd (by decide) hb

/-! ## The line -/

/-- A transmitter that is not in ECHO judges nothing. -/
theorem judgeEcho_of_not_echo (rx : Option RxFrame) (h : ∀ f, s.line.tx ≠ .echo f) : judgeEcho rx s = s := by
  unfold judgeEcho
  split
  · next f echo => exact absurd echo (h f)
  · rfl

/-- Settles O41: the transmitter out of ECHO judges nothing. -/
theorem discardedFrameIsCounted : Obligations.DiscardedFrameIsCounted := by
  intro rx s quiet
  refine ⟨fun discarded => ?_, fun nothing => ?_⟩
  · have run : exec (.frameDiscarded rx) s = .next (finish s (countRxError (lineIdle s))) := by
      simp only [exec, execFrameDiscarded, receiveFrame, discarded]
      rw [judgeEcho_of_not_echo (s := countRxError (lineIdle s)) none quiet]
    refine ⟨_, run, ?_, finish_changes (line_frame _) rfl (by decide) (by decide)⟩
    refine (finish_line_of_slot_kept (s := countRxError (lineIdle s)) rfl).trans ?_
    rw [countRxError, satInc_eq_min]
    rfl
  · have run : exec (.frameDiscarded rx) s = .next (finish s (lineIdle s)) := by
      simp only [exec, execFrameDiscarded, receiveFrame, nothing]
      rw [judgeEcho_of_not_echo (s := lineIdle s) none quiet]
    refine ⟨_, run, ?_, finish_changes (line_frame _) rfl (by decide) (by decide)⟩
    exact finish_line_of_slot_kept (s := lineIdle s) rfl

/-- The four ends of sending leave a transmitter that waits, as the frame has come back to the set. -/
theorem PendingSet.giveBack_isEmpty (p : PendingSet) (f : TxFrame) : (p.giveBack f).isEmpty = false := by
  cases f <;> simp [PendingSet.giveBack, PendingSet.isEmpty]

/-- Settles O45. -/
theorem sendingEndsMoveTheTransmitter : Obligations.SendingEndsMoveTheTransmitter := by
  intro f s
  refine ⟨fun contend => ⟨?lost, ?fault, ?won⟩, fun send => ?_⟩
  case lost => simp [exec, execContentionLost, contend, Line.release, PendingSet.giveBack_isEmpty, satInc_eq_min]
  case fault =>
    simp [exec, execLineFault, contend, damagedAttempt, Line.release, PendingSet.giveBack_isEmpty, satInc_eq_min, deferralAfter]
  case won => simp [exec, execHeaderWon, contend]
  · simp [exec, execLastCrcBitSent, send]

/-! ## TRANSMIT_BEGIN -/

theorem bitsPerSecond_eq (rate : BitVec 2) : [19200, 38400, 57600, 115200].getD rate.toNat 0 = bitsPerSecond rate := by
  revert rate
  decide

theorem holdsBitTimes_iff (rate : BitVec 2) (bits ns : Nat) :
    holdsBitTimes rate bits ns = true ↔ bits * 1000000000 ≤ ns * [19200, 38400, 57600, 115200].getD rate.toNat 0 := by
  rw [bitsPerSecond_eq, holdsBitTimes, decide_eq_true_iff]

/-- The deferral has run: 11 bit times and, with a deferral set, its own. -/
theorem deferralRun_iff (n : Nat) :
    s.deferralRun n = true ↔
      (s.line.deferral = none → holdsBitTimes s.ident.rate 11 n = true) ∧
        ∀ d, s.line.deferral = some d → holdsBitTimes s.ident.rate (11 + d) n = true := by
  cases h : s.line.deferral <;> simp [State.deferralRun, h]

/-- The sight of a line leaves the state with the receiver it sees. -/
theorem seeLine_of {n : Nat} {r : Receiver} (h : s.line.rx.see (holdsBitTimes s.ident.rate 11 n) = r) :
    seeLine n s = { s with line := { s.line with rx := r } } := by
  rw [← h]
  rfl

/-- Settles O44: the model's own condition for beginning is the readiness written out; the frame taken first is that of
lowest class. -/
theorem transmitBeginTakesLowestClass : Obligations.TransmitBeginTakesLowestClass := by
  intro n s wait rate holds ready begun
  have holds_iff : ∀ bits, holdsBitTimes s.ident.rate bits n = true ↔ holds bits := fun bits =>
    holdsBitTimes_iff s.ident.rate bits n
  have ready_iff : ((seeLine n s).line.rx = .idle ∧ s.deferralRun n = true) ↔ ready := by
    rw [seeLine_line, Receiver.see_eq_idle, deferralRun_iff, holds_iff]
    simp only [holds_iff]
    exact ⟨fun ⟨⟨idle, open_⟩, _, run⟩ => ⟨open_, idle, run⟩, fun ⟨open_, idle, run⟩ => ⟨⟨idle, open_⟩, fun _ => idle, run⟩⟩
  refine ⟨fun is => ?_, fun isNot waits => ?_⟩
  · obtain ⟨idle, run⟩ := ready_iff.mpr is
    have takes : ∀ (rest : PendingSet) (f : TxFrame), s.line.set.takeFirst = some (f, rest) →
        exec (.transmitBegin n) s = begun rest f := fun rest f first => execTransmitBegin_of_ready wait first idle run
    refine ⟨fun b hb => takes _ _ ?_, fun b ho hb => takes _ _ ?_, fun b ho hy hb => takes _ _ ?_,
      fun b ho hy hd hb => takes _ _ ?_⟩ <;> simp [PendingSet.takeFirst, *]
  · obtain ⟨⟨f, rest⟩, first⟩ : ∃ x, s.line.set.takeFirst = some x := Option.ne_none_iff_exists'.mp fun none => by
      rw [PendingSet.takeFirst_eq_none.mp none] at waits
      cases waits
    have seen : exec (.transmitBegin n) s = .next (seeLine n s) :=
      execTransmitBegin_of_not_ready wait first fun k => isNot (ready_iff.mp k)
    rw [seen]
    refine ⟨fun eleven open_ => ?_, fun short idle => ?_, fun stays => ?_⟩
    · rw [seeLine_of (Receiver.see_eq_idle.mpr ⟨(holds_iff 11).mpr eleven, open_⟩)]
    · rw [seeLine_of (r := .receiving) (by simp [idle, Receiver.see, mt (holds_iff 11).mp short])]
    · rw [seeLine_of (r := s.line.rx) ?_]
      rcases stays with receiving | ⟨short, unsettled⟩
      · rw [receiving]
        rfl
      · simp [unsettled, Receiver.see, mt (holds_iff 11).mp short]

/-! ## The TALLY schedule -/

/-- Settles O46. -/
theorem tallyTimerQueuesTheOwnEntry : Obligations.TallyTimerQueuesTheOwnEntry := by
  intro s running clear
  obtain ⟨timer, runs⟩ := Option.isSome_iff_exists.mp running
  simp only [exec, execTallyTimerExpiry, runs, sendTally, queueTally, queueFrame, clear, Bool.false_eq_true, if_false,
    PendingSet.join]
  rw [Line.follow_eq]
  cases s.line.tx <;> simp [Line.follow, PendingSet.isEmpty, startTimer]

/-! ## The small timers -/

/-- Settles O53. -/
theorem smallTimersActExactly : Obligations.SmallTimersActExactly := by
  intro s
  refine ⟨rfl, fun join => ?_, fun h held => ⟨?_, ?_⟩, fun run => ?_, fun settle => ?_⟩
  · obtain ⟨timer, runs⟩ := Option.isSome_iff_exists.mp join
    simp only [exec, execJoinWaitExpiry, runs]
  · simp only [exec, execClaimGraceExpiry, held]
  · simp [exec, execHeldViewExpiry, held, viewFree, lineLeaving, View.isOwn, raise, stationNumber, State.gapStarted]
  · obtain ⟨timer, runs⟩ := Option.isSome_iff_exists.mp run
    simp only [exec, execMinRunExpiry, runs]
  · obtain ⟨timer, runs⟩ := Option.isSome_iff_exists.mp settle
    simp only [exec, execSettleTimerExpiry, runs]

end Sys2Proof.Machine
end

section
/-! What the updates of the slot's view do to slot, line and records, and the reception of a frame of another station:
the statements on BID and YIELD. -/

namespace Sys2Proof.Machine

open Sys2Proof

variable {s t u : State}

/-! ## The view and the line's set -/

theorem viewFree_slot : (viewFree s).slot = { s.slot with view := .free, gap := s.gapStarted } := rfl

theorem lineLeaving_set (v : View) (l : Line) :
    (lineLeaving v l).set = if v.isOwn then { l.set with bid := none, occupied := none } else l.set := by
  unfold lineLeaving
  split
  · exact Line.withdrawClaims_set l
  · rfl

theorem viewHeld_slot (h : HeldView) : (viewHeld h s).slot = { s.slot with view := .held h, gap := none } := rfl

theorem viewHeld_bid_of_own (h : HeldView) (own : s.slot.view.isOwn = true) : (viewHeld h s).line.set.bid = none := by
  show (lineLeaving s.slot.view s.line).set.bid = none
  rw [lineLeaving_set, if_pos own]

theorem viewFree_bid_of_own (own : s.slot.view.isOwn = true) : (viewFree s).line.set.bid = none := by
  show (lineLeaving s.slot.view s.line).set.bid = none
  rw [lineLeaving_set, if_pos own]

theorem viewFree_yield : (viewFree s).line.set.yield = s.line.set.yield := by
  show (lineLeaving s.slot.view s.line).set.yield = s.line.set.yield
  rw [lineLeaving_set]
  split <;> rfl

/-- A frame that joins the set outside CONFLICT. -/
theorem queueFrame_set (f : TxFrame) (clear : s.sequencer.conflict = false) :
    (queueFrame f s).line.set = s.line.set.join f := by
  unfold queueFrame
  rw [if_neg (by simp [clear])]
  dsimp only
  rw [Line.follow_eq]

theorem queueYield_yield (o : YieldOutcome) (k : Kind) (clear : s.sequencer.conflict = false) :
    (queueYield o k s).line.set.yield = some { uid := s.ident.uid, outcome := o, kind := k } := by
  rw [queueYield, queueFrame_set _ clear]
  rfl

theorem queueYield_bid (o : YieldOutcome) (k : Kind) : (queueYield o k s).line.set.bid = s.line.set.bid := by
  unfold queueYield queueFrame
  split
  · rfl
  · dsimp only
    rw [Line.follow_eq]
    rfl

theorem queueYield_slot (o : YieldOutcome) (k : Kind) : (queueYield o k s).slot = s.slot :=
  queueYield_frame o k .slot (by decide)

/-- A claim that waits or has been sent answers with the holding time. -/
theorem queueOccupied_of_pending {q : PendingView} (view : s.slot.view = .ownPending q) (clear : s.sequencer.conflict = false) :
    (queueOccupied s).line.set.occupied =
      some { uid := s.ident.uid, station := s.own, kind := q.intent, remaining := s.tHold } := by
  simp only [queueOccupied, view]
  rw [queueFrame_set _ clear]
  rfl

/-- A holder answers with the remaining seconds of its hold. -/
theorem queueOccupied_of_held {k : Kind} {hold : Timer} (view : s.slot.view = .ownHeld k hold)
    (clear : s.sequencer.conflict = false) :
    (queueOccupied s).line.set.occupied =
      some { uid := s.ident.uid, station := s.own, kind := k, remaining := timerLeft (some hold) s.time } := by
  simp only [queueOccupied, view]
  rw [queueFrame_set _ clear]
  rfl

/-! ## Records of a taking, exactly -/

theorem queueAfter_one (k : EventKind) (station detail : Nat) :
    (raise k station detail s).queue = s.queueAfter [(k, station, detail)] := rfl

/-! ## A frame heard -/

/-- The state in which an accepted frame is handed on: the line idle, an echo judged. -/
def heard (f : RxFrame) (s : State) : State := judgeEcho (some f) (lineIdle s)

theorem receiveFrame_of_accepted {rx : List RxChar} {f : RxFrame} (h : receive rx = .accepted f) :
    receiveFrame rx s = finish s (handOn f (heard f s)) := by
  simp only [receiveFrame, h, heard]

/-- A state with another line. -/
def State.withLine (l : Line) (s : State) : State := { s with line := l }

theorem withLine_frame (l : Line) : changesOnly [.line] s (s.withLine l) := line_frame l

/-- A frame of another part changes the line alone before it is handed on, and no counter of errors. -/
theorem heard_of_other {f : RxFrame} (other : s.isOwnEcho f = false) :
    ∃ l : Line, heard f s = s.withLine l ∧ l.rxErr = s.line.rxErr := by
  unfold heard judgeEcho
  split
  · next g echo =>
    have other' : (lineIdle s).isOwnEcho f = false := other
    rw [if_neg (by simp [other'])]
    exact ⟨_, rfl, rfl⟩
  · exact ⟨_, rfl, rfl⟩

theorem isOwnEcho_of_other_station {f : RxFrame} (h : f.station ≠ s.ident.station) : s.isOwnEcho f = false := by
  simp [State.isOwnEcho, h]

theorem handOn_of_foreign {f : RxFrame} (ended : s.loadEnded = true) (h : f.station ≠ s.ident.station) :
    handOn f s = handOnForeign f s := by
  simp [handOn, ended, h]

/-- The taking of a frame of another station. -/
theorem receive_foreign {rx : List RxChar} {f : RxFrame} (h : receive rx = .accepted f) (ended : s.loadEnded = true)
    (foreign : f.station ≠ s.ident.station) :
    ∃ l : Line, l.rxErr = s.line.rxErr ∧
      (Host.Outcome.next (receiveFrame rx s) : Host.Outcome State Fault Refusal) =
        .next (finish s (handOnForeign f (s.withLine l))) := by
  obtain ⟨l, hl, err⟩ := heard_of_other (isOwnEcho_of_other_station foreign)
  refine ⟨l, err, ?_⟩
  rw [receiveFrame_of_accepted h, hl, handOn_of_foreign (s := s.withLine l) ended foreign]

theorem handOnForeign_bid {f : RxFrame} {b : BidBody} (cls : f.cls = 3 ∨ f.cls = 4) (body : bidOf f = some b) :
    handOnForeign f s = takeBid f.station b s := by
  unfold handOnForeign
  rcases cls with cls | cls <;> simp only [cls, body]

theorem handOnForeign_yield {f : RxFrame} {b : YieldBody} (cls : f.cls = 2) (body : yieldOf f = some b) :
    handOnForeign f s = takeYield f.station b s := by
  unfold handOnForeign
  simp only [cls, body]

theorem handOnForeign_occupied {f : RxFrame} {b : OccupiedBody} (cls : f.cls = 1) (body : occupiedOf f = some b) :
    handOnForeign f s = takeOccupied f.station b s := by
  unfold handOnForeign
  simp only [cls, body]

theorem handOnForeign_tally {f : RxFrame} (cls : f.cls = 8) :
    handOnForeign f s =
      if (tallyOf f.body).inRange then takeReport f.station (tallyOf f.body) (takeTally f.station (tallyOf f.body) s)
      else countRxError s := by
  unfold handOnForeign
  simp only [cls]

/-! ## YIELD -/

/-- The view held by the very unit that yields becomes FREE. -/
theorem takeYield_of_holder {x : Station} {b : YieldBody} {h : HeldView} (view : s.slot.view = .held h) (at_ : h.station = x)
    (unit : h.uid = b.uid) :
    takeYield x b s = viewFree { s with slot :=
      { s.slot with lastYield := some { station := x, outcome := b.outcome, kind := b.kind } } } := by
  simp [takeYield, view, at_, unit]

/-- In any other view the YIELD is recorded and no more. -/
theorem takeYield_of_other {x : Station} {b : YieldBody}
    (other : ∀ h, s.slot.view = .held h → ¬(h.station = x ∧ h.uid = b.uid)) :
    takeYield x b s = { s with slot :=
      { s.slot with lastYield := some { station := x, outcome := b.outcome, kind := b.kind } } } := by
  unfold takeYield
  dsimp only
  split
  · next h view => rw [if_neg (other h view)]
  · rfl

theorem takeYield_frame (x : Station) (b : YieldBody) : changesOnly [.slot, .line] s (takeYield x b s) := by
  unfold takeYield
  dsimp only
  split
  · exact changesOnly_ite (((slot_frame _).mono (by decide)).trans viewFree_frame) ((slot_frame _).mono (by decide))
  · exact (slot_frame _).mono (by decide)

/-- A taking's frame, from the heard state on to the end of the taking. -/
theorem heard_changes {l : Line} {bs cs : List Block} (frame : changesOnly bs (s.withLine l) t) (sub : bs ⊆ cs)
    (line : Block.line ∈ cs) (port : Block.port ∈ cs) : changesOnly cs s (finish s t) :=
  (((withLine_frame l).mono (by simpa using line)).trans (frame.mono sub)).trans
    ((finish_frame s).mono (by simpa using ⟨line, port⟩))

/-- Settles O40. -/
theorem yieldFreesTheViewOfItsHolder : Obligations.YieldFreesTheViewOfItsHolder := by
  intro rx f b s accepted cls body ended foreign
  obtain ⟨l, -, run⟩ := receive_foreign accepted ended foreign
  rw [handOnForeign_yield cls body] at run
  refine ⟨_, run, heard_changes (takeYield_frame _ _) (by decide) (by decide) (by decide), ?_⟩
  rw [finish_slot]
  by_cases holder : ∃ h, s.slot.view = .held h ∧ h.station = f.station ∧ h.uid = b.uid
  · obtain ⟨h, view, at_, unit⟩ := holder
    rw [takeYield_of_holder (s := s.withLine l) view at_ unit, viewFree_slot]
    exact ⟨rfl, rfl, rfl, fun _ => ⟨rfl, rfl⟩, fun other => absurd ⟨at_, unit⟩ (other h view)⟩
  · have other : ∀ h, s.slot.view = .held h → ¬(h.station = f.station ∧ h.uid = b.uid) := fun h view k =>
      holder ⟨h, view, k⟩
    rw [takeYield_of_other (s := s.withLine l) other]
    exact ⟨rfl, rfl, rfl, fun k => absurd k holder, fun _ => ⟨rfl, rfl⟩⟩

/-! ## BID -/

theorem loseClaim_queue (q : PendingView) (x : Station) (h : HeldView) :
    (loseClaim q x h s).queue = s.queueAfter [(.slotLost, stationNumber x, q.intent.code)] := by
  rw [loseClaim, queueAfter_one]
  exact raiseAll_queue_congr _ rfl rfl

/-- The blocks of the slot, the counters, the line, and the records of one taking. -/
theorem takeBid_frame (x : Station) (b : BidBody) :
    changesOnly [.staging, .slot, .line, .lport, .queue] s (takeBid x b s) := by
  unfold takeBid
  split
  · exact (viewHeld_frame _).mono (by decide)
  · exact changesOnly_refl _ _
  · exact changesOnly_ite (queueOccupied_frame.mono (by decide))
      (((viewHeld_frame _).mono (by decide)).trans ((raise_frame _ _ _).mono (by decide)))
  · exact queueOccupied_frame.mono (by decide)

theorem takeBid_sp (x : Station) (b : BidBody) : (takeBid x b s).staging.sp = s.staging.sp := by
  unfold takeBid
  split
  · exact countersAt_sp _ _
  · rfl
  · split
    · exact congrArg Staging.sp (queueOccupied_frame .staging (by decide))
    · exact countersAt_sp _ _
  · exact congrArg Staging.sp (queueOccupied_frame .staging (by decide))

/-- What an own claim or holding that answers a BID leaves: the OCCUPIED has joined the set of the line. -/
theorem takeBid_of_sent {x : Station} {b : BidBody} {q : PendingView} (view : s.slot.view = .ownPending q)
    (sent : q.sent = true) : takeBid x b s = queueOccupied s := by
  simp [takeBid, view, sent]

theorem takeBid_of_holder {x : Station} {b : BidBody} {k : Kind} {hold : Timer} (view : s.slot.view = .ownHeld k hold) :
    takeBid x b s = queueOccupied s := by
  simp [takeBid, view]

theorem takeBid_of_unsent {x : Station} {b : BidBody} {q : PendingView} (view : s.slot.view = .ownPending q)
    (sent : q.sent = false) : takeBid x b s = loseClaim q x (bidView x b s) s := by
  simp [takeBid, view, sent]

theorem takeBid_of_free {x : Station} {b : BidBody} (view : s.slot.view = .free) :
    takeBid x b s = viewHeld (bidView x b s) s := by
  simp [takeBid, view]

theorem takeBid_of_held {x : Station} {b : BidBody} {h : HeldView} (view : s.slot.view = .held h) : takeBid x b s = s := by
  simp [takeBid, view]

theorem queueOccupied_slot : (queueOccupied s).slot = s.slot := queueOccupied_frame .slot (by decide)

theorem queueOccupied_queue : (queueOccupied s).queue = s.queue := queueOccupied_frame .queue (by decide)

/-- The line at the end of a taking that keeps the slot's holding. -/
theorem finish_line_of_same_holding {before : State} (h : s.slot.view.isOwnHeld = before.slot.view.isOwnHeld) :
    (finish before s).line = s.line := by
  rw [finish_of_same_holding h, arbitrate_line]

/-- Settles O38: the model's four views, one by one. -/
theorem bidActsByTheView : Obligations.BidActsByTheView := by
  intro rx f b s accepted cls body ended foreign taken
  obtain ⟨l, -, run⟩ := receive_foreign accepted ended foreign
  rw [handOnForeign_bid cls body] at run
  refine ⟨_, run, heard_changes (takeBid_frame _ _) (by decide) (by decide) (by decide), ?_, ?_⟩
  · rw [finish_staging, takeBid_sp]
    rfl
  simp only [finish_slot, finish_staging, finish_queue]
  refine ⟨fun view => ?free, fun h view => ?held, fun q view sent => ?unsent, fun q view sent clear => ?sent,
    fun k hold view clear => ?holder⟩
  case free =>
    rw [takeBid_of_free (s := s.withLine l) view, viewHeld_slot]
    have counters : (viewHeld (bidView f.station b (s.withLine l)) (s.withLine l)).staging = { s.staging with up := 0, down := 0 } := by
      show countersAt s.slot.view s.staging = _
      rw [view]
      rfl
    rw [counters]
    exact ⟨rfl, rfl, rfl, rfl⟩
  case held =>
    rw [takeBid_of_held (s := s.withLine l) view]
    exact ⟨rfl, rfl, rfl⟩
  case unsent =>
    rw [takeBid_of_unsent (s := s.withLine l) view sent, loseClaim_queue]
    refine ⟨rfl, ?_, rfl⟩
    rw [finish_line_of_same_holding (by rw [view]; rfl)]
    exact viewHeld_bid_of_own (s := s.withLine l) (bidView f.station b (s.withLine l)) (by show s.slot.view.isOwn = true; rw [view]; rfl)
  case sent =>
    rw [takeBid_of_sent (s := s.withLine l) view sent, queueOccupied_slot, queueOccupied_queue]
    refine ⟨rfl, rfl, ?_⟩
    rw [finish_line_of_same_holding (by rw [queueOccupied_slot]; rfl)]
    exact queueOccupied_of_pending (s := s.withLine l) view clear
  case holder =>
    rw [takeBid_of_holder (s := s.withLine l) view, queueOccupied_slot, queueOccupied_queue]
    refine ⟨rfl, rfl, ?_⟩
    rw [finish_line_of_same_holding (by rw [queueOccupied_slot]; rfl)]
    exact queueOccupied_of_held (s := s.withLine l) view clear

end Sys2Proof.Machine
end

section
/-! Fields in bytes: what is read back where a number was written, and the flags of a packed number; with the statements
on the records of a pop transfer and on the frames of the line. -/

namespace Sys2Proof.Machine

open Sys2Proof

variable {s t u : State}

/-! ## Numbers in bytes -/

@[simp] theorem length_beBytes (n v : Nat) : (beBytes n v).length = n := by
  induction n with
  | zero => rfl
  | succ n ih => simp [beBytes, ih]

theorem foldl_beNat (l : List Byte) (a : Nat) :
    l.foldl (fun acc b => acc * 256 + b.toNat) a = a * 256 ^ l.length + beNat l := by
  induction l generalizing a with
  | nil => simp [beNat]
  | cons b l ih =>
    simp only [List.foldl_cons, beNat, List.length_cons]
    rw [ih, ih (0 * 256 + b.toNat)]
    ring

theorem beNat_append (a b : List Byte) : beNat (a ++ b) = beNat a * 256 ^ b.length + beNat b := by
  rw [beNat, List.foldl_append]
  exact foldl_beNat b _

theorem beNat_cons (b : Byte) (l : List Byte) : beNat (b :: l) = b.toNat * 256 ^ l.length + beNat l := by
  have one : beNat [b] = b.toNat := by simp [beNat]
  rw [← one]
  exact beNat_append [b] l

/-- A number in n bytes reads back modulo 256 ^ n. -/
theorem beNat_beBytes (n v : Nat) : beNat (beBytes n v) = v % 256 ^ n := by
  induction n with
  | zero => simp [beBytes, beNat, Nat.mod_one]
  | succ n ih =>
    rw [beBytes, beNat_cons, ih, length_beBytes, Nat.pow_succ, Nat.mod_mul, BitVec.toNat_ofNat]
    ring

/-! ## A field at its place -/

@[simp] theorem fieldAt_cons_succ (b : Byte) (l : List Byte) (off n : Nat) :
    fieldAt (b :: l) (off + 1) n = fieldAt l off n := rfl

theorem fieldAt_append_of_le {a : List Byte} (b : List Byte) {off : Nat} (n : Nat) (h : a.length ≤ off) :
    fieldAt (a ++ b) off n = fieldAt b (off - a.length) n := by
  simp [fieldAt, List.drop_append, List.drop_eq_nil_of_le h]

/-- Past a number written before it. -/
theorem fieldAt_skip {m off : Nat} (v : Nat) (l : List Byte) (n : Nat) (h : m ≤ off) :
    fieldAt (beBytes m v ++ l) off n = fieldAt l (off - m) n := by
  simpa using fieldAt_append_of_le (a := beBytes m v) l n (by simpa using h)

/-- The number written there. -/
@[simp] theorem fieldAt_here (n v : Nat) (l : List Byte) : fieldAt (beBytes n v ++ l) 0 n = v % 256 ^ n := by
  rw [fieldAt, List.drop_zero, List.take_append_of_le_length (by simp), List.take_of_length_le (by simp), beNat_beBytes]

@[simp] theorem fieldAt_last (n v : Nat) : fieldAt (beBytes n v) 0 n = v % 256 ^ n := by
  simpa using fieldAt_here n v []

/-- Two fields read as one. -/
theorem fieldAt_add (l : List Byte) (off m n : Nat) (h : off + m + n ≤ l.length) :
    fieldAt l off (m + n) = fieldAt l off m * 256 ^ n + fieldAt l (off + m) n := by
  have split : (l.drop off).take (m + n) = (l.drop off).take m ++ (l.drop (off + m)).take n := by
    rw [List.take_add, List.drop_drop]
  rw [fieldAt, split, beNat_append]
  simp only [fieldAt, List.length_take, List.length_drop]
  rw [Nat.min_eq_left (by omega)]

/-! ## Packed flags -/

theorem packFlags_cons (b : Bool) (l : List Bool) : packFlags (b :: l) = flagNat b + 2 * packFlags l := rfl

theorem packFlags_testBit (l : List Bool) (i : Nat) : (packFlags l).testBit i = l[i]?.getD false := by
  induction l generalizing i with
  | nil => simp [packFlags]
  | cons b l ih =>
    have bit : packFlags (b :: l) = Nat.bit b (packFlags l) := by
      cases b <;> simp [packFlags_cons, flagNat, Nat.bit_val] <;> omega
    rw [bit]
    cases i with
    | zero => simp
    | succ i => simp [Nat.testBit_bit_succ, ih]

theorem packFlags_lt (l : List Bool) : packFlags l < 2 ^ l.length := by
  induction l with
  | nil => simp [packFlags]
  | cons b l ih =>
    have flag : flagNat b ≤ 1 := by cases b <;> decide
    rw [packFlags_cons, List.length_cons, Nat.pow_succ]
    omega

/-- The flag of a cause stands in the bit of its code. -/
theorem PerCause.bits_testBit (p : PerCause Bool) (k : Cause) : p.bits.testBit (k.code - 1) = p.get k := by
  rw [PerCause.bits, packFlags_testBit]
  cases k <;> rfl

theorem PerCause.bits_lt (p : PerCause Bool) : p.bits < 512 := by
  have nine : (causes.map p.get).length = 9 := by simp [causes]
  simpa [nine, PerCause.bits] using packFlags_lt (causes.map p.get)

/-! ## A pop transfer -/

theorem Record.bytes_length (r : Record) : r.bytes.length = 10 := by simp [Record.bytes]

theorem Record.bytes_eq (r : Record) :
    r.bytes =
      beBytes 1 r.seq.toNat ++ (beBytes 4 (r.time / 1024) ++ (beBytes 1 (128 * flagNat r.loss + r.time % 1024 / 256) ++
        (beBytes 1 (r.time % 1024) ++ (beBytes 1 r.kind.code ++ (beBytes 1 r.station ++ beBytes 1 r.detail))))) := by
  simp only [Record.bytes, List.append_assoc]

theorem Record.bytes_time (r : Record) : fieldAt r.bytes 1 4 = r.time / 1024 % 2 ^ 32 := by
  rw [r.bytes_eq, fieldAt_skip _ _ _ (by decide)]
  exact fieldAt_here 4 _ _

/-- The loss flag and the ticks of the second share two bytes. -/
theorem Record.bytes_ticks (r : Record) : fieldAt r.bytes 5 2 = (if r.loss then 32768 else 0) + r.time % 1024 := by
  have high : fieldAt r.bytes 5 1 = (128 * flagNat r.loss + r.time % 1024 / 256) % 256 := by
    rw [r.bytes_eq, fieldAt_skip _ _ _ (by decide), fieldAt_skip _ _ _ (by decide)]
    exact fieldAt_here 1 _ _
  have low : fieldAt r.bytes 6 1 = r.time % 1024 % 256 := by
    rw [r.bytes_eq, fieldAt_skip _ _ _ (by decide), fieldAt_skip _ _ _ (by decide), fieldAt_skip _ _ _ (by decide)]
    exact fieldAt_here 1 _ _
  rw [fieldAt_add _ 5 1 1 (r.bytes_length ▸ by decide), high, low, flagNat]
  have ticks : r.time % 1024 < 1024 := Nat.mod_lt _ (by decide)
  split <;> omega

/-- The record's kind, station and detail stand in its last three bytes. -/
theorem Record.bytes_ends (r : Record) :
    r.bytes[0]? = some r.seq ∧ r.bytes[7]? = some (BitVec.ofNat 8 r.kind.code) ∧
      r.bytes[8]? = some (BitVec.ofNat 8 r.station) ∧ r.bytes[9]? = some (BitVec.ofNat 8 r.detail) := by
  simp [Record.bytes, beBytes]

/-- Settles O28: the record's layout field by field; the end of the transfer removes the record that the pop named
still first, and none that has gone. -/
theorem popTransferRemovesItsRecordAtItsEnd : Obligations.PopTransferRemovesItsRecordAtItsEnd := by
  intro s
  refine ⟨fun r rest records => ?held, fun empty => ?empty, fun r k station detail pop full => ?removed⟩
  case held =>
    have run : exec .popEvent s = .next { s with lport := { s.lport with reply := r.bytes, pop := some (.copy r true) } } := by
      simp only [exec, execPopEvent, records]
    obtain ⟨seq, kind, station, detail⟩ := r.bytes_ends
    refine ⟨_, run, rfl, fun b hb => ?_, r.bytes_length, seq, r.bytes_time, r.bytes_ticks, kind, station, detail, ?_⟩
    · cases b <;> first | rfl | exact absurd (by decide) hb
    · simp only [exec, execPopEventEnd, records, List.tail_cons]
  case empty =>
    have run : exec .popEvent s = .next { s with lport := { s.lport with reply := List.replicate 10 0, pop := some .marker } } := by
      simp only [exec, execPopEvent, empty]
    refine ⟨_, run, rfl, fun b hb => ?_, rfl⟩
    cases b <;> first | rfl | exact absurd (by decide) hb
  case removed =>
    have gone : (raise k station detail s).lport.pop = some (.copy r false) := by simp [raise, full, pop]
    simp only [exec, execPopEventEnd, gone]

end Sys2Proof.Machine
end

section
/-! A frame sent and received: header, length, body and CRC read back, and each body field by field. -/

namespace Sys2Proof.Machine

open Sys2Proof

/-! ## The characters -/

/-- Clean characters are taken as they are. -/
theorem receive_clean {l : List Byte} {f : RxFrame} (h : acceptChars l = some f) :
    receive (l.map cleanChar) = .accepted f := by
  have taken : (l.map cleanChar).filter (·.startDominant) = l.map cleanChar := by simp [cleanChar]
  have stops : (l.map cleanChar).all (·.stopRecessive) = true := by simp [cleanChar]
  have data : (l.map cleanChar).map (·.data) = l := by simp [cleanChar, Function.comp_def]
  have begun : (l.map cleanChar).isEmpty = false := by
    cases l with
    | nil => simp [acceptChars] at h
    | cons b l => rfl
  simp only [receive, taken, begun, stops, data, h, Bool.false_eq_true, if_false, if_true]

/-- The characters that the CRC covers. -/
def coveredChars (cls key : Nat) (x : Station) (body : List Byte) : List Byte :=
  headerChars cls key x ++ ([BitVec.ofNat 8 body.length] ++ body)

theorem coveredChars_length (cls key : Nat) (x : Station) (body : List Byte) :
    (coveredChars cls key x body).length = 5 + body.length := by
  simp [coveredChars, headerChars]
  omega

theorem frameChars_eq (cls key : Nat) (x : Station) (body : List Byte) :
    frameChars cls key x body =
      coveredChars cls key x body ++ beBytes 2 (crc (coveredChars cls key x body)).toNat := by
  simp only [frameChars, coveredChars, List.append_assoc]

/-- A frame of a class of the table, its body of that class's length, is accepted with its header's fields. -/
theorem receive_frameChars {cls key : Nat} (x : Station) {body : List Byte} (classes : cls < 16) (keys : key < 2 ^ 24)
    (layout : bodyLength cls = some body.length) (short : body.length ≤ 40) :
    receive ((frameChars cls key x body).map cleanChar) =
      .accepted { cls := cls, key := key, station := x, body := body } := by
  refine receive_clean ?_
  have index := x.isLt
  have number : (cls * 2 ^ 28 + key * 16 + x.val) % 256 ^ 4 = cls * 2 ^ 28 + key * 16 + x.val :=
    Nat.mod_eq_of_lt (by omega)
  have header : fieldAt (frameChars cls key x body) 0 4 = cls * 2 ^ 28 + key * 16 + x.val := by
    rw [frameChars_eq, coveredChars, headerChars, List.append_assoc, fieldAt_here, number]
  have len : fieldAt (frameChars cls key x body) 4 1 = body.length := by
    rw [frameChars_eq, coveredChars, headerChars, List.append_assoc, fieldAt_skip _ _ _ (by decide)]
    have byte : (BitVec.ofNat 8 body.length).toNat = body.length := by
      rw [BitVec.toNat_ofNat]
      omega
    simp [fieldAt, beNat, byte]
  have whole : (frameChars cls key x body).length = 7 + body.length := by
    rw [frameChars_eq, List.length_append, coveredChars_length, length_beBytes]
    omega
  have covered : (frameChars cls key x body).take (5 + body.length) = coveredChars cls key x body := by
    rw [frameChars_eq, ← coveredChars_length cls key x body, List.take_left]
  have check : fieldAt (frameChars cls key x body) (5 + body.length) 2 = (crc (coveredChars cls key x body)).toNat := by
    rw [frameChars_eq, fieldAt_append_of_le _ _ (by rw [coveredChars_length]), coveredChars_length, Nat.sub_self,
      fieldAt_last]
    exact Nat.mod_eq_of_lt (BitVec.isLt _)
  have content : ((frameChars cls key x body).drop 5).take body.length = body := by
    have head : (headerChars cls key x ++ [BitVec.ofNat 8 body.length]).length = 5 := by simp [headerChars]
    rw [frameChars_eq, coveredChars, ← List.append_assoc, List.append_assoc, ← head, List.drop_left, List.take_left]
  have cls_eq : (cls * 2 ^ 28 + key * 16 + x.val) / 2 ^ 28 = cls := by omega
  have key_eq : (cls * 2 ^ 28 + key * 16 + x.val) / 16 % 2 ^ 24 = key := by omega
  have station_eq : Fin.ofNat 16 (cls * 2 ^ 28 + key * 16 + x.val) = x := Fin.ext (by simp [Fin.ofNat]; omega)
  simp only [acceptChars]
  rw [header, len, cls_eq, key_eq, station_eq, content, covered, check, if_pos ⟨by omega, layout, short, whole, rfl⟩]

/-! ## The bodies -/

/-- A number that fits n bytes is its own remainder. -/
theorem mod_of_fits (n : Nat) {v : Nat} (h : v < 2 ^ (8 * n)) : v % 256 ^ n = v :=
  Nat.mod_eq_of_lt (by rwa [Nat.pow_mul] at h)

theorem uid_of_body {cls key : Nat} {x : Station} (uid : UnitId) (l : List Byte) :
    RxFrame.uid { cls := cls, key := key, station := x, body := beBytes 4 uid.toNat ++ l } = uid := by
  rw [RxFrame.uid, fieldAt_here]
  exact BitVec.eq_of_toNat_eq (by simpa using uid.isLt)

theorem kindOf_code (k : Kind) : kindOf k.code = some k := by cases k <;> rfl

theorem kind_code_mod (k : Kind) : k.code % 256 ^ 1 = k.code := by cases k <;> rfl

theorem bidCauseOf_code (c : BidCause) : bidCauseOf (c.code % 256 ^ 1) = some c := by cases c <;> rfl

theorem yieldOutcomeOf_code (o : YieldOutcome) : yieldOutcomeOf (o.code % 256 ^ 1) = some o := by cases o <;> rfl

theorem BidBody.chars_eq (b : BidBody) :
    b.chars = beBytes 4 b.uid.toNat ++ (beBytes 1 b.intent.code ++ beBytes 1 b.cause.code) := by
  simp only [BidBody.chars, List.append_assoc]

theorem OccupiedBody.chars_eq (b : OccupiedBody) :
    b.chars = beBytes 4 b.uid.toNat ++ (beBytes 1 b.station ++ (beBytes 1 b.kind.code ++ beBytes 2 b.remaining)) := by
  simp only [OccupiedBody.chars, List.append_assoc]

theorem YieldBody.chars_eq (b : YieldBody) :
    b.chars = beBytes 4 b.uid.toNat ++ (beBytes 1 b.outcome.code ++ beBytes 1 b.kind.code) := by
  simp only [YieldBody.chars, List.append_assoc]

/-- The flags character reads back flag by flag. -/
theorem TallyBody.flags_testBit (b : TallyBody) :
    b.flags % 256 ^ 1 = b.flags ∧ b.flags.testBit 0 = b.withheld ∧ b.flags.testBit 1 = b.settled ∧
      b.flags.testBit 2 = b.minRunMet ∧ b.flags.testBit 3 = b.levelValid ∧ b.flags.testBit 4 = b.unfit ∧
        b.flags.testBit 5 = b.holdsSlot := by
  have small : b.flags < 64 := packFlags_lt [b.withheld, b.settled, b.minRunMet, b.levelValid, b.unfit, b.holdsSlot]
  refine ⟨Nat.mod_eq_of_lt (by omega), ?_⟩
  simp only [TallyBody.flags, packFlags_testBit]
  exact ⟨rfl, rfl, rfl, rfl, rfl, rfl⟩

/-- A TALLY's body in the widths of its layout reads back as it was. -/
theorem tallyOf_chars (b : TallyBody) (stateCode : b.stateCode < 2 ^ 8) (phaseCode : b.phaseCode < 2 ^ 8)
    (health : b.health < 2 ^ 8) (failures : b.failures < 2 ^ 8) (flow : b.flow < 2 ^ 16) (qmin : b.qmin < 2 ^ 16)
    (qmaxAvail : b.qmaxAvail < 2 ^ 16) (totalizer : b.totalizer < 2 ^ 32) (runHours : b.runHours < 2 ^ 32)
    (starts : b.starts < 2 ^ 16) (level : b.level < 2 ^ 16) (slotKind : b.slotKind < 2 ^ 8)
    (slotRemaining : b.slotRemaining < 2 ^ 16) : tallyOf b.chars = b := by
  obtain ⟨flags, f0, f1, f2, f3, f4, f5⟩ := b.flags_testBit
  simp only [tallyOf, TallyBody.chars, List.append_assoc]
  simp only [fieldAt_skip, fieldAt_here, Nat.reduceLeDiff, Nat.reduceSub, Nat.le_refl, Nat.sub_self]
  simp only [flags, f0, f1, f2, f3, f4, f5, mod_of_fits 1 stateCode, mod_of_fits 1 phaseCode, mod_of_fits 1 health,
    mod_of_fits 1 failures, mod_of_fits 2 flow, mod_of_fits 2 qmin, mod_of_fits 2 qmaxAvail, mod_of_fits 4 totalizer,
    mod_of_fits 4 runHours, mod_of_fits 2 starts, mod_of_fits 2 level, mod_of_fits 1 slotKind,
    mod_of_fits 2 slotRemaining, mod_of_fits 2 b.signature.isLt, mod_of_fits 4 b.uid.isLt, BitVec.ofNat_toNat,
    BitVec.setWidth_eq]

/-- Each class's body has that class's length. -/
theorem TxFrame.body_length (f : TxFrame) : f.cls < 16 ∧ bodyLength f.cls = some f.body.length ∧ f.body.length ≤ 40 := by
  cases f with
  | occupied b => simp [TxFrame.cls, TxFrame.body, OccupiedBody.chars, bodyLength]
  | yield b => simp [TxFrame.cls, TxFrame.body, YieldBody.chars, bodyLength]
  | bid b => cases intent : b.intent <;> simp [TxFrame.cls, TxFrame.body, BidBody.chars, bodyLength, intent]
  | tally b => simp [TxFrame.cls, TxFrame.body, TallyBody.chars, bodyLength]

/-- A frame sent is accepted with its class, key and station, and its body's characters. -/
theorem receive_sent (f : TxFrame) (x : Station) (key : f.key < 2 ^ 24) :
    receive ((f.chars x).map cleanChar) = .accepted { cls := f.cls, key := f.key, station := x, body := f.body } := by
  obtain ⟨classes, layout, short⟩ := f.body_length
  exact receive_frameChars x classes key layout short

theorem bidOf_sent (b : BidBody) (x : Station) :
    bidOf { cls := (TxFrame.bid b).cls, key := b.key, station := x, body := b.chars } = some b := by
  have intent : fieldAt b.chars 4 1 = b.intent.code := by
    rw [b.chars_eq, fieldAt_skip _ _ _ (by decide)]
    exact (fieldAt_here 1 _ _).trans (kind_code_mod _)
  have cause : fieldAt b.chars 5 1 = b.cause.code % 256 ^ 1 := by
    rw [b.chars_eq, fieldAt_skip _ _ _ (by decide), fieldAt_skip _ _ _ (by decide)]
    exact fieldAt_last 1 _
  have uid : RxFrame.uid { cls := (TxFrame.bid b).cls, key := b.key, station := x, body := b.chars } = b.uid := by
    rw [b.chars_eq, uid_of_body]
  simp only [bidOf, intent, cause, kindOf_code, bidCauseOf_code, uid]
  rw [if_pos]
  cases h : b.intent <;> simp [TxFrame.cls, h]

theorem occupiedOf_sent (b : OccupiedBody) (x : Station) (station : b.station = x.val + 1) (remaining : b.remaining < 2 ^ 16) :
    occupiedOf { cls := 1, key := 0, station := x, body := b.chars } = some b := by
  have index := x.isLt
  have holder : fieldAt b.chars 4 1 = b.station := by
    rw [b.chars_eq, fieldAt_skip _ _ _ (by decide)]
    exact (fieldAt_here 1 _ _).trans (Nat.mod_eq_of_lt (by omega))
  have kind : fieldAt b.chars 5 1 = b.kind.code := by
    rw [b.chars_eq, fieldAt_skip _ _ _ (by decide), fieldAt_skip _ _ _ (by decide)]
    exact (fieldAt_here 1 _ _).trans (kind_code_mod _)
  have left : fieldAt b.chars 6 2 = b.remaining := by
    rw [b.chars_eq, fieldAt_skip _ _ _ (by decide), fieldAt_skip _ _ _ (by decide), fieldAt_skip _ _ _ (by decide)]
    exact (fieldAt_last 2 _).trans (Nat.mod_eq_of_lt remaining)
  have uid : RxFrame.uid { cls := 1, key := 0, station := x, body := b.chars } = b.uid := by
    rw [b.chars_eq, uid_of_body]
  simp only [occupiedOf, kind, kindOf_code, holder, left, uid, stationNumber, station, if_true]
  rw [← station]

theorem yieldOf_sent (b : YieldBody) (x : Station) :
    yieldOf { cls := 2, key := 0, station := x, body := b.chars } = some b := by
  have outcome : fieldAt b.chars 4 1 = b.outcome.code % 256 ^ 1 := by
    rw [b.chars_eq, fieldAt_skip _ _ _ (by decide)]
    exact fieldAt_here 1 _ _
  have kind : fieldAt b.chars 5 1 = b.kind.code := by
    rw [b.chars_eq, fieldAt_skip _ _ _ (by decide), fieldAt_skip _ _ _ (by decide)]
    exact (fieldAt_last 1 _).trans (kind_code_mod _)
  have uid : RxFrame.uid { cls := 2, key := 0, station := x, body := b.chars } = b.uid := by
    rw [b.chars_eq, uid_of_body]
  simp only [yieldOf, outcome, kind, yieldOutcomeOf_code, kindOf_code, uid]

/-- Settles O47: every class is accepted alike, and its body reads back by its layout. -/
theorem sentFramesAreReceivedAsTheyAre : Obligations.SentFramesAreReceivedAsTheyAre := by
  intro x
  refine ⟨fun b key => ?bid, fun b station remaining => ?occupied, fun b => ?yield, fun b stateCode phaseCode health
    failures flow qmin qmaxAvail totalizer runHours starts level slotKind slotRemaining => ?tally⟩
  case bid =>
    refine ⟨_, receive_sent (.bid b) x key, rfl, rfl, ?_, ?_, bidOf_sent b x⟩
    · show RxFrame.uid { cls := _, key := _, station := x, body := b.chars } = b.uid
      rw [b.chars_eq, uid_of_body]
    · show (TxFrame.bid b).cls = _
      cases h : b.intent <;> simp [TxFrame.cls, h]
  case occupied =>
    refine ⟨_, receive_sent (.occupied b) x (Nat.two_pow_pos 24), rfl, rfl, ?_, rfl, occupiedOf_sent b x station remaining⟩
    show RxFrame.uid { cls := _, key := _, station := x, body := b.chars } = b.uid
    rw [b.chars_eq, uid_of_body]
  case yield =>
    refine ⟨_, receive_sent (.yield b) x (Nat.two_pow_pos 24), rfl, rfl, ?_, rfl, yieldOf_sent b x⟩
    show RxFrame.uid { cls := _, key := _, station := x, body := b.chars } = b.uid
    rw [b.chars_eq, uid_of_body]
  case tally =>
    refine ⟨_, receive_sent (.tally b) x (Nat.two_pow_pos 24), rfl, rfl, ?_, rfl, tallyOf_chars b stateCode phaseCode health
      failures flow qmin qmaxAvail totalizer runHours starts level slotKind slotRemaining⟩
    show RxFrame.uid { cls := _, key := _, station := x, body := b.chars } = b.uid
    simp only [TallyBody.chars, List.append_assoc]
    exact uid_of_body _ _

end Sys2Proof.Machine
end

section
/-! READ_ITEM: the eleven items field by field. -/

namespace Sys2Proof.Machine

open Sys2Proof

variable {s t u : State}

/-! ## The values that a field holds -/

theorem fieldAt_flag (b : Bool) (l : List Byte) : fieldAt (flagByte b ++ l) 0 1 = flagNat b := by
  rw [flagByte, fieldAt_here]
  cases b <;> rfl

theorem fieldAt_skip_flag {off : Nat} (b : Bool) (l : List Byte) (n : Nat) (h : 1 ≤ off) :
    fieldAt (flagByte b ++ l) off n = fieldAt l (off - 1) n := fieldAt_skip _ _ _ h

theorem fieldAt_last_flag (b : Bool) : fieldAt (flagByte b) 0 1 = flagNat b := by
  simpa using fieldAt_flag b []

/-- A capped number is the number or the largest value of its field. -/
theorem fieldAt_capped (n v : Nat) (l : List Byte) : fieldAt (capped n v ++ l) 0 n = min v (256 ^ n - 1) := by
  rw [capped, fieldAt_here]
  exact Nat.mod_eq_of_lt (Nat.lt_of_le_of_lt (Nat.min_le_right ..) (Nat.sub_lt (Nat.pow_pos (by decide)) (by decide)))

theorem fieldAt_skip_capped {m off : Nat} (v : Nat) (l : List Byte) (n : Nat) (h : m ≤ off) :
    fieldAt (capped m v ++ l) off n = fieldAt l (off - m) n := fieldAt_skip _ _ _ h

theorem fieldAt_last_capped (n v : Nat) : fieldAt (capped n v) 0 n = min v (256 ^ n - 1) := by
  simpa using fieldAt_capped n v []

/-- A code of one byte reads back as it is. -/
theorem train_code_lt (x : Train) : x.code < 256 := by cases x <;> decide

theorem ownCode_lt (s : State) : s.ownCode < 256 := by
  unfold State.ownCode
  split
  · decide
  · exact train_code_lt _

theorem phaseCode_lt (x : Train) : x.phaseCode < 256 := by cases x <;> decide

theorem sourceCode_lt (x : LevelSource) : x.code < 256 := by cases x <;> decide

theorem trimMode_code_lt (x : TrimMode) : x.code < 256 := by cases x <;> decide

theorem pressureHold_code_lt (x : PressureHold) : x.code < 256 := by cases x <;> decide

theorem view_code_lt (x : View) : x.code < 256 := by cases x <;> simp [View.code]

theorem kind_code_lt (x : Kind) : x.code < 256 := by cases x <;> decide

theorem bidCause_code_lt (x : BidCause) : x.code < 256 := by cases x <;> decide

theorem yieldOutcome_code_lt (x : YieldOutcome) : x.code < 256 := by cases x <;> decide

theorem transmitter_code_lt (x : Transmitter) : x.code < 256 := by cases x <;> simp [Transmitter.code]

theorem portState_code_lt (x : PortState) : x.code < 256 := by cases x <;> simp [PortState.code]

theorem validity_code_lt (x : Validity) : x.code < 256 := by cases x <;> decide

theorem station_lt (x : Station) : x.val + 1 < 256 := by omega

theorem channel_lt (c : Channel) : c.val < 256 := by omega

theorem class_lt (c : Fin 4) : c.val < 256 := by omega

/-! ## The reply -/

/-- The reply to an item with contents, its index as a field of one byte. -/
theorem readReply_of_contents {l : List Byte} {n : Nat} (index : s.lport.item = BitVec.ofNat 8 n)
    (h : itemContents s.lport.item.toNat s.lport.second.toNat s = some l) : readReply s = beBytes 1 n ++ l := by
  have contents : readReply s = s.lport.item :: l := by simp only [readReply, h]
  rw [contents, index]
  simp [beBytes]

theorem readReply_of_none (h : itemContents s.lport.item.toNat s.lport.second.toNat s = none) : readReply s = [0xFF] := by
  simp [readReply, h]

/-- A field of flags: each flag its weight. -/
theorem packFlags_mod (l : List Bool) (h : l.length ≤ 8) : packFlags l % 256 = packFlags l :=
  Nat.mod_eq_of_lt (Nat.lt_of_lt_of_le (packFlags_lt l) (Nat.pow_le_pow_right (by decide : 0 < 2) h))

/-! ## The items -/

theorem byte_of_shift {w : Nat} (v : BitVec w) (k : Nat) : BitVec.ofNat 8 (v.toNat / 2 ^ k) = (v >>> k).setWidth 8 :=
  BitVec.eq_of_toNat_eq (by simp [Nat.shiftRight_eq_div_pow])

theorem identityItem_bytes (s : State) :
    beBytes 1 0 ++ identityItem s =
      ([0, (s.ident.uid >>> 24).setWidth 8, (s.ident.uid >>> 16).setWidth 8, (s.ident.uid >>> 8).setWidth 8,
          s.ident.uid.setWidth 8, BitVec.ofNat 8 (s.ident.station.val + 1), s.ident.rate.setWidth 8,
          (if s.loader.params.isSome then 1 else 0), (s.loader.signature >>> 8).setWidth 8,
          s.loader.signature.setWidth 8, BitVec.ofNat 8 s.loader.phase.code] : List Byte) := by
  simp [identityItem, flagByte, beBytes, stationNumber, flagNat, State.configured]
  exact ⟨byte_of_shift _ 24, byte_of_shift _ 16, byte_of_shift _ 8, apply_ite _ _ _ _, byte_of_shift _ 8⟩

theorem stateItem_fields (s : State) :
    let r := beBytes 1 1 ++ stateItem s
    fieldAt r 1 1 = s.ownCode ∧ fieldAt r 2 1 = s.sequencer.train.phaseCode ∧
      fieldAt r 3 2 = min (timerLeft s.sequencer.phase s.time) 65535 ∧
      fieldAt r 5 2 = min (timerLeft s.sequencer.quality s.time) 65535 ∧
      fieldAt r 7 2 =
        (match s.sequencer.rest with
          | .running m => min (timerLeft (some m) s.time) 65535
          | .stopped | .expired => 0) ∧
      fieldAt r 9 2 = min (timerLeft s.sequencer.minRun s.time) 65535 ∧
      fieldAt r 11 1 = flagNat s.pins.withhold + 2 * flagNat s.lport.withholdCmd + 4 * flagNat s.roster.minority := by
  have causes : s.causeBits % 256 =
      flagNat s.pins.withhold + 2 * flagNat s.lport.withholdCmd + 4 * flagNat s.roster.minority := by
    rw [State.causeBits, packFlags_mod _ (by simp)]
    simp only [packFlags]
    omega
  have rest : min (timerLeft s.sequencer.rest.timer s.time) 65535 =
      (match s.sequencer.rest with
          | .running m => min (timerLeft (some m) s.time) 65535
          | .stopped | .expired => 0) := by
    cases s.sequencer.rest <;> rfl
  simp [stateItem, leftBytes, fieldAt_skip, fieldAt_skip_capped, fieldAt_capped, rest, causes,
    Nat.mod_eq_of_lt, ownCode_lt, phaseCode_lt]

theorem flagsItem_fields (s : State) :
    let r := beBytes 1 2 ++ flagsItem s
    fieldAt r 1 1 =
        flagNat s.demand.overflow + 2 * flagNat s.demand.lowLow + 4 * flagNat s.capability.unfit +
          8 * flagNat (s.chanValid 4 && s.loader.params.isSome) + 16 * flagNat s.withheld + 32 * flagNat s.pins.withhold +
          64 * flagNat s.lport.withholdCmd + 128 * flagNat s.roster.minority ∧
      fieldAt r 2 1 =
        flagNat s.trim.settled + 2 * flagNat s.sequencer.minRunMet + 4 * flagNat s.sequencer.conflict +
          8 * flagNat s.runPermit + 16 * flagNat s.attn + 32 * flagNat s.pins.tariff + 64 * flagNat s.pins.tripIn := by
  intro r
  have first : fieldAt r 1 1 = packFlags
      [s.demand.overflow, s.demand.lowLow, s.capability.unfit, s.ownTally.levelValid, s.withheld, s.pins.withhold,
        s.lport.withholdCmd, s.roster.minority] := by
    simp [r, flagsItem, fieldAt_skip, packFlags_mod]
  have second : fieldAt r 2 1 = packFlags
      [s.trim.settled, s.sequencer.minRunMet, s.sequencer.conflict, s.runPermit, s.attn, s.pins.tariff,
        s.pins.tripIn] := by
    simp [r, flagsItem, fieldAt_skip, packFlags_mod]
  rw [first, second]
  simp only [packFlags, State.ownTally, State.configured]
  omega

theorem demandItem_fields (s : State) :
    let r := beBytes 1 3 ++ demandItem s
    fieldAt r 1 2 = s.demand.qReq % 65536 ∧ fieldAt r 3 2 = s.demand.d % 65536 ∧
      fieldAt r 5 1 = flagNat s.demand.primed ∧ fieldAt r 6 2 = s.demand.level % 65536 ∧
      fieldAt r 8 1 = s.demand.source.code ∧ fieldAt r 9 2 = s.demand.lPrev.getD 0 % 65536 ∧
      fieldAt r 11 1 = flagNat s.demand.lPrev.isSome ∧
      fieldAt r 12 1 =
        (match s.demand.profile with
          | some .offPeak => 0
          | some .peak => 1
          | none => 2) := by
  have profile : (s.demand.profile.map profileCode).getD 2 % 256 =
      (match s.demand.profile with
          | some .offPeak => 0
          | some .peak => 1
          | none => 2) := by
    rcases s.demand.profile with _ | _ | _ <;> rfl
  simp [demandItem, fieldAt_skip, fieldAt_skip_flag, fieldAt_flag, Nat.mod_eq_of_lt, sourceCode_lt, profile]

theorem flowItem_fields (s : State) :
    let r := beBytes 1 4 ++ flowItem s
    fieldAt r 1 2 = s.staging.sp % 65536 ∧ fieldAt r 3 2 = s.chan 1 % 65536 ∧ fieldAt r 5 2 = s.trim.s % 65536 ∧
      fieldAt r 7 2 = s.capability.qmaxAvail % 65536 ∧
      fieldAt r 9 1 = (if s.capability.unfit then 3 else s.capability.held.val) ∧
      fieldAt r 10 1 = s.capability.held.val ∧
      fieldAt r 11 2 = s.trim.qEff % 65536 ∧ fieldAt r 13 1 = s.trim.mode.code ∧
      fieldAt r 14 1 = flagNat s.trim.settled ∧ fieldAt r 15 1 = s.trim.hold.code ∧
      fieldAt r 16 2 = min (timerLeft s.trim.settle s.time) 65535 ∧
      fieldAt r 18 2 = min (timerLeft s.trim.sat s.time) 65535 := by
  have health : s.effectiveClass.val = if s.capability.unfit then 3 else s.capability.held.val := apply_ite Fin.val ..
  have small : s.effectiveClass.val < 256 := class_lt _
  rw [health] at small
  simp [flowItem, leftBytes, fieldAt_skip, fieldAt_skip_flag, fieldAt_flag, fieldAt_skip_capped, fieldAt_capped,
    fieldAt_last_capped, Nat.mod_eq_of_lt, small, health, class_lt, trimMode_code_lt, pressureHold_code_lt]

theorem packFlags_first (b : Bool) : packFlags [b, false] % 256 = flagNat b := by cases b <;> rfl

theorem packFlags_second (b : Bool) : packFlags [false, b] % 256 = 2 * flagNat b := by cases b <;> rfl

theorem slotItem_fields (s : State) :
    let r := beBytes 1 5 ++ slotItem s
    fieldAt r 1 1 = s.slot.view.code ∧
      (match s.slot.view with
        | .free => fieldAt r 2 6 = 0
        | .held h =>
          fieldAt r 2 1 = h.station.val + 1 ∧ fieldAt r 3 1 = h.kind.code ∧
            fieldAt r 4 2 = min (timerLeft (some h.expiry) s.time) 65535 ∧
            fieldAt r 6 1 = h.cause.code ∧ fieldAt r 7 1 = 2 * flagNat h.grace.isSome
        | .ownPending q =>
          fieldAt r 2 1 = s.ident.station.val + 1 ∧ fieldAt r 3 1 = q.intent.code ∧ fieldAt r 4 2 = 0 ∧
            fieldAt r 6 1 = q.cause.code ∧ fieldAt r 7 1 = flagNat q.sent
        | .ownHeld k m =>
          fieldAt r 2 1 = s.ident.station.val + 1 ∧ fieldAt r 3 1 = k.code ∧
            fieldAt r 4 2 = min (timerLeft (some m) s.time) 65535 ∧ fieldAt r 6 2 = 0) ∧
      fieldAt r 8 1 = min (timerLeft s.slot.gap s.time) 255 ∧ fieldAt r 9 1 = flagNat s.slot.joinPassed ∧
      (match s.slot.lastYield with
        | some y => fieldAt r 10 1 = y.station.val + 1 ∧ fieldAt r 11 1 = y.outcome.code ∧ fieldAt r 12 1 = y.kind.code
        | none => fieldAt r 10 3 = 0) := by
  intro r
  have six : (viewBytes s).length = 6 := by
    unfold viewBytes
    split <;> simp [leftBytes, capped]
  have past : ∀ (l : List Byte) (off n : Nat), 6 ≤ off → fieldAt (viewBytes s ++ l) off n = fieldAt l (off - 6) n :=
    fun l off n h => by rw [fieldAt_append_of_le l n (by rw [six]; exact h), six]
  refine ⟨?code, ?view, ?gap, ?passed, ?last⟩
  case code => simp [r, slotItem, fieldAt_skip, Nat.mod_eq_of_lt, view_code_lt]
  case gap => simp [r, slotItem, fieldAt_skip, past, leftBytes, fieldAt_capped]
  case passed => simp [r, slotItem, fieldAt_skip, past, leftBytes, fieldAt_skip_capped, fieldAt_flag]
  case last =>
    cases last : s.slot.lastYield <;>
      simp [r, slotItem, fieldAt_skip, past, leftBytes, fieldAt_skip_capped, fieldAt_skip_flag, lastYieldBytes, last,
        stationNumber, Nat.mod_eq_of_lt, station_lt, yieldOutcome_code_lt, kind_code_lt]
  case view =>
    cases view : s.slot.view with
    | free =>
      simp only [r, slotItem, fieldAt_skip, viewBytes, view, List.append_assoc, Nat.reduceLeDiff, Nat.reduceSub, Nat.le_refl]
      rfl
    | held h =>
      simp [r, slotItem, fieldAt_skip, fieldAt_skip_capped, fieldAt_capped, leftBytes, viewBytes, view, stationNumber,
        Nat.mod_eq_of_lt, station_lt, kind_code_lt, bidCause_code_lt, packFlags_second]
    | ownPending q =>
      simp [r, slotItem, fieldAt_skip, viewBytes, view, stationNumber, Nat.mod_eq_of_lt, station_lt, kind_code_lt,
        bidCause_code_lt, packFlags_first]
    | ownHeld k m =>
      simp [r, slotItem, fieldAt_skip, fieldAt_skip_capped, fieldAt_capped, leftBytes, viewBytes, view, stationNumber,
        Nat.mod_eq_of_lt, station_lt, kind_code_lt]

theorem latchItem_fields (s : State) :
    let r := beBytes 1 6 ++ latchItem s
    (∀ k : Cause,
        (fieldAt r 1 2).testBit (k.code - 1) = s.protection.latches.get k ∧
          fieldAt r (2 + k.code) 1 = s.protection.counts.get k % 256 ∧
          (fieldAt r 13 2).testBit (k.code - 1) = s.present k) ∧
      fieldAt r 1 2 < 512 ∧ fieldAt r 13 2 < 512 ∧ fieldAt r 12 1 = flagNat s.runPermit ∧
      fieldAt r 15 2 = min (timerLeft s.protection.lowSuction s.time) 65535 ∧
      fieldAt r 17 2 = min (timerLeft s.protection.qualityTrip s.time) 65535 ∧
      fieldAt r 19 2 = min (timerLeft s.protection.instrument s.time) 65535 := by
  intro r
  have latches : fieldAt r 1 2 = s.protection.latches.bits := by
    have small := s.protection.latches.bits_lt
    simp [r, latchItem, fieldAt_skip]
    omega
  have present : fieldAt r 13 2 = s.presentBits := by
    have small : s.presentBits < 512 := by simpa [State.presentBits, causes] using packFlags_lt (causes.map s.present)
    simp [r, latchItem, fieldAt_skip, fieldAt_skip_flag, causes]
    omega
  refine ⟨fun k => ⟨?_, ?_, ?_⟩, ?_, ?_, ?_, ?_, ?_, ?_⟩
  · rw [latches, PerCause.bits_testBit]
  · cases k <;> simp [r, latchItem, fieldAt_skip, causes, Cause.code]
  · rw [present, State.presentBits, packFlags_testBit]
    cases k <;> rfl
  · rw [latches]
    exact s.protection.latches.bits_lt
  · rw [present]
    simpa [State.presentBits, causes] using packFlags_lt (causes.map s.present)
  all_goals
    simp [r, latchItem, fieldAt_skip, fieldAt_skip_flag, fieldAt_flag, fieldAt_skip_capped, fieldAt_capped,
      fieldAt_last_capped, leftBytes, causes]

theorem stageItem_fields (s : State) :
    let r := beBytes 1 7 ++ stageItem s
    fieldAt r 1 1 = s.staging.up % 256 ∧ fieldAt r 2 1 = s.staging.down % 256 ∧
      fieldAt r 3 3 = s.ownStartKey % 16777216 ∧ fieldAt r 6 3 = s.ownStopKey % 16777216 := by
  simp [stageItem, fieldAt_skip]

theorem packFlags_two (a b : Bool) : packFlags [a, b] % 256 = flagNat a + 2 * flagNat b := by cases a <;> cases b <;> rfl

theorem packFlags_four (a b c d : Bool) :
    packFlags [a, b, c, d] % 256 = flagNat a + 2 * flagNat b + 4 * flagNat c + 8 * flagNat d := by
  rw [packFlags_mod [a, b, c, d] (Nat.le_of_ble_eq_true rfl)]
  simp only [packFlags]
  omega

theorem invalidBytes_length (s : State) (c : Channel) : (invalidBytes s c).length = 2 := by
  unfold invalidBytes
  split <;> simp [capped]

/-- The seconds of a channel's invalid timer, 0 while valid. -/
theorem invalidBytes_value (s : State) (c : Channel) :
    beNat (invalidBytes s c) =
      match s.port.channels[c].invalidSince with
      | some m => min ((s.time - m) / 1024) 65535
      | none => 0 := by
  unfold invalidBytes
  cases s.port.channels[c].invalidSince with
  | none => exact beNat_beBytes 2 0
  | some m => 
    have field := fieldAt_last_capped 2 ((s.time - m) / 1024)
    rwa [fieldAt, List.drop_zero, List.take_of_length_le (by simp [capped])] at field

/-- Two bytes for each element, in order: the two of the element at a place. -/
theorem fieldAt_flatMap {f : Channel → List Byte} (two : ∀ c, (f c).length = 2) (c : Channel) :
    fieldAt (channelList.flatMap f) (2 * c.val) 2 = beNat (f c) := by
  have at_ : (channelList.flatMap f).drop (2 * c.val) = (channelList.drop c.val).flatMap f := by
    have skip : ∀ (l : List Channel) (n : Nat), (l.flatMap f).drop (2 * n) = (l.drop n).flatMap f := by
      intro l n
      induction l generalizing n with
      | nil => simp
      | cons d l ih =>
        cases n with
        | zero => rfl
        | succ n =>
          have more : 2 * (n + 1) = (f d).length + 2 * n := by rw [two]; ring
          rw [List.flatMap_cons, more, List.drop_length_add_append, ih, List.drop_succ_cons]
    exact skip _ _
  have first : channelList.drop c.val = c :: channelList.drop (c.val + 1) := by
    clear at_
    revert c
    decide
  rw [fieldAt, at_, first, List.flatMap_cons, List.take_append_of_le_length (by rw [two]),
    List.take_of_length_le (by rw [two])]

/-- The index and the fields of the error item before the channels' timers. -/
def errorHead (s : State) : List Byte :=
  beBytes 1 8 ++ (beBytes 1 s.line.rxErr ++ (beBytes 1 s.line.txLoss ++ (beBytes 1 s.line.damage ++
    (beBytes 1 s.line.tx.code ++ (beBytes 1
      (packFlags
        [s.line.set.tally.isSome, s.line.set.bid.isSome, s.line.set.occupied.isSome, s.line.set.yield.isSome]) ++
    (beBytes 1 s.port.state.code ++ (flagByte s.port.state.retryFlag ++ (beBytes 1 s.port.errors ++
    (beBytes 1 ((s.port.pendRead.map (·.val)).getD 15) ++ (beBytes 1 s.port.pointer.val ++
    (beBytes 1 (packFlags [s.port.pendValve.isSome, s.port.pendSpeed.isSome]) ++
    beBytes 1 (packFlags (channelList.map s.chanValid)))))))))))))

theorem errorHead_length (s : State) : (errorHead s).length = 13 := by
  simp only [errorHead, List.length_append, length_beBytes, flagByte]

theorem errorItem_eq (s : State) :
    beBytes 1 8 ++ errorItem s = errorHead s ++ channelList.flatMap (invalidBytes s) := by
  unfold errorItem errorHead
  simp only [List.append_assoc]

theorem errorItem_fields (s : State) :
    let r := beBytes 1 8 ++ errorItem s
    fieldAt r 1 1 = s.line.rxErr % 256 ∧ fieldAt r 2 1 = s.line.txLoss % 256 ∧ fieldAt r 3 1 = s.line.damage % 256 ∧
      fieldAt r 4 1 = s.line.tx.code ∧
      fieldAt r 5 1 =
        flagNat s.line.set.tally.isSome + 2 * flagNat s.line.set.bid.isSome + 4 * flagNat s.line.set.occupied.isSome +
          8 * flagNat s.line.set.yield.isSome ∧
      fieldAt r 6 1 = s.port.state.code ∧ fieldAt r 7 1 = flagNat (s.port.state.isLost && s.port.state.inFlight.isSome) ∧
      fieldAt r 8 1 = s.port.errors % 256 ∧
      fieldAt r 9 1 =
        (match s.port.pendRead with
          | some c => c.val
          | none => 15) ∧
      fieldAt r 10 1 = s.port.pointer.val ∧
      fieldAt r 11 1 = flagNat s.port.pendValve.isSome + 2 * flagNat s.port.pendSpeed.isSome ∧
      ∀ c : Channel, (fieldAt r 12 1).testBit c.val = s.chanValid c ∧
        fieldAt r (13 + 2 * c.val) 2 =
          match s.port.channels[c].invalidSince with
          | some m => min ((s.time - m) / 1024) 65535
          | none => 0 := by
  intro r
  have pending : (s.port.pendRead.map (·.val)).getD 15 % 256 =
      (match s.port.pendRead with
          | some c => c.val
          | none => 15) := by
    cases s.port.pendRead with
    | none => rfl
    | some c => exact Nat.mod_eq_of_lt (channel_lt c)
  have retry : s.port.state.retryFlag = (s.port.state.isLost && s.port.state.inFlight.isSome) := by
    rcases s.port.state with _ | _ | _ | _ <;> rfl
  have valid : packFlags (channelList.map s.chanValid) % 256 = packFlags (channelList.map s.chanValid) :=
    packFlags_mod _ (by rw [List.length_map]; decide)
  have txCode : s.line.tx.code % 256 = s.line.tx.code := Nat.mod_eq_of_lt (transmitter_code_lt _)
  have portCode : s.port.state.code % 256 = s.port.state.code := Nat.mod_eq_of_lt (portState_code_lt _)
  have pointer : s.port.pointer.val % 256 = s.port.pointer.val := Nat.mod_eq_of_lt (channel_lt _)
  have reply : r = errorHead s ++ channelList.flatMap (invalidBytes s) := errorItem_eq s
  have timers : ∀ c : Channel, fieldAt r (13 + 2 * c.val) 2 = beNat (invalidBytes s c) := fun c => by
    rw [reply, fieldAt_append_of_le _ _ (by rw [errorHead_length]; omega), errorHead_length, Nat.add_sub_cancel_left,
      fieldAt_flatMap (invalidBytes_length s)]
  have validBits : ∀ c : Channel, (packFlags (channelList.map s.chanValid)).testBit c.val = s.chanValid c := fun c => by
    rw [packFlags_testBit]
    revert c
    simp [channelList, Fin.forall_fin_succ]
  simp only [timers, invalidBytes_value]
  rw [reply]
  clear_value r
  generalize channelList.flatMap (invalidBytes s) = tail
  simp only [errorHead, List.append_assoc, fieldAt_skip, fieldAt_here, fieldAt_skip_flag, fieldAt_flag,
    Nat.reduceLeDiff, Nat.reduceSub, Nat.reducePow, Nat.le_refl, txCode, portCode, pointer, pending, retry, valid,
    validBits, packFlags_four, packFlags_two, and_self, implies_true]

/-- An entry's fields in the layout of the roster item. -/
def entryBytes (number now : Nat) (e : Entry) : List Byte :=
  beBytes 1 number ++ (beBytes 1 e.validity.code ++ (beBytes 4 e.tally.uid.toNat ++ (beBytes 1 e.tally.stateCode ++
    (beBytes 1 e.tally.phaseCode ++ (beBytes 1 e.tally.flags ++ (beBytes 1 e.tally.health ++ (beBytes 1 e.tally.failures ++
    (beBytes 2 e.tally.flow ++ (beBytes 2 e.tally.qmin ++ (beBytes 2 e.tally.qmaxAvail ++ (beBytes 4 e.tally.totalizer ++
    (beBytes 4 e.tally.runHours ++ (beBytes 2 e.tally.starts ++ (beBytes 2 e.tally.signature.toNat ++
    (beBytes 2 e.tally.level ++ (beBytes 1 e.tally.slotKind ++ (beBytes 2 e.tally.slotRemaining ++
    (capped 2 ((e.silence.map fun m => (now - m) / 1024).getD 0) ++ flagByte e.snapshot.isSome))))))))))))))))))

theorem rosterItem_eq (x : Station) (s : State) :
    rosterItem x s = entryBytes (stationNumber x) s.time (s.entry x) := by
  unfold rosterItem entryBytes
  dsimp only
  simp only [List.append_assoc]

theorem rosterItem_fields (x : Station) (s : State) :
    let r := beBytes 1 9 ++ rosterItem x s
    let e := s.entry x
    fieldAt r 1 1 = x.val + 1 ∧ fieldAt r 2 1 = e.validity.code ∧ fieldAt r 3 4 = e.tally.uid.toNat ∧
      fieldAt r 7 1 = e.tally.stateCode % 256 ∧ fieldAt r 8 1 = e.tally.phaseCode % 256 ∧
      fieldAt r 9 1 =
        flagNat e.tally.withheld + 2 * flagNat e.tally.settled + 4 * flagNat e.tally.minRunMet +
          8 * flagNat e.tally.levelValid + 16 * flagNat e.tally.unfit + 32 * flagNat e.tally.holdsSlot ∧
      fieldAt r 10 1 = e.tally.health % 256 ∧ fieldAt r 11 1 = e.tally.failures % 256 ∧
      fieldAt r 12 2 = e.tally.flow % 65536 ∧
      fieldAt r 14 2 = e.tally.qmin % 65536 ∧ fieldAt r 16 2 = e.tally.qmaxAvail % 65536 ∧
      fieldAt r 18 4 = e.tally.totalizer % 2 ^ 32 ∧ fieldAt r 22 4 = e.tally.runHours % 2 ^ 32 ∧
      fieldAt r 26 2 = e.tally.starts % 65536 ∧ fieldAt r 28 2 = e.tally.signature.toNat ∧
      fieldAt r 30 2 = e.tally.level % 65536 ∧ fieldAt r 32 1 = e.tally.slotKind % 256 ∧
      fieldAt r 33 2 = e.tally.slotRemaining % 65536 ∧
      fieldAt r 35 2 =
        (match e.silence with
          | some m => min ((s.time - m) / 1024) 65535
          | none => 0) ∧
      fieldAt r 37 1 = flagNat e.snapshot.isSome := by
  intro r e
  have reply : r = beBytes 1 9 ++ entryBytes (stationNumber x) s.time e := by rw [← rosterItem_eq]
  clear_value e r
  subst reply
  have flags : e.tally.flags % 256 = flagNat e.tally.withheld + 2 * flagNat e.tally.settled + 4 * flagNat e.tally.minRunMet +
          8 * flagNat e.tally.levelValid + 16 * flagNat e.tally.unfit + 32 * flagNat e.tally.holdsSlot := by
    rw [TallyBody.flags, packFlags_mod [_, _, _, _, _, _] (Nat.le_of_ble_eq_true rfl)]
    simp only [packFlags]
    omega
  have silence : min ((e.silence.map fun m => (s.time - m) / 1024).getD 0) 65535 =
      (match e.silence with
          | some m => min ((s.time - m) / 1024) 65535
          | none => 0) := by
    cases e.silence <;> rfl
  have number : stationNumber x % 256 = x.val + 1 := Nat.mod_eq_of_lt (station_lt x)
  have standing : e.validity.code % 256 = e.validity.code := Nat.mod_eq_of_lt (validity_code_lt _)
  have uid : e.tally.uid.toNat % 4294967296 = e.tally.uid.toNat := by
    simpa using mod_of_fits 4 e.tally.uid.isLt
  have signature : e.tally.signature.toNat % 65536 = e.tally.signature.toNat := by
    simpa using mod_of_fits 2 e.tally.signature.isLt
  simp only [entryBytes, fieldAt_skip, fieldAt_here, fieldAt_skip_capped, fieldAt_capped,
    fieldAt_last_flag, Nat.reduceLeDiff, Nat.reduceSub, Nat.reducePow, Nat.le_refl]
  simp only [number, standing, uid, flags, signature, silence, and_self]

theorem queueItem_bytes (s : State) :
    beBytes 1 10 ++ queueItem s =
      ([10, BitVec.ofNat 8 s.queue.records.length, s.queue.seq, if s.queue.pendingLoss then 1 else 0] :
          List Byte) := by
  cases loss : s.queue.pendingLoss <;> simp [queueItem, flagByte, flagNat, beBytes, loss]

/-! ## Lengths -/

theorem errorItem_length (s : State) : (errorItem s).length = 28 := by
  have item := congrArg List.length (errorItem_eq s)
  simp only [List.length_append, length_beBytes, errorHead_length, channelList, List.length_flatMap, invalidBytes_length,
    List.map, List.sum_cons, List.sum_nil] at item
  omega

/-- An item within the table has its contents, with its index of the length of the table. -/
theorem itemContents_of_listed (h : s.lport.item.toNat ≤ 10)
    (second : s.lport.item.toNat = 9 → 1 ≤ s.lport.second.toNat ∧ s.lport.second.toNat ≤ 16) :
    ∃ l, itemContents s.lport.item.toNat s.lport.second.toNat s = some l ∧
      l.length + 1 = itemLength s.lport.item.toNat := by
  have six : (viewBytes s).length = 6 := by
    unfold viewBytes
    split <;> simp [leftBytes, capped]
  have three : (lastYieldBytes s).length = 3 := by
    unfold lastYieldBytes
    split <;> simp
  generalize s.lport.item.toNat = n at h second ⊢
  obtain rfl | notRoster := eq_or_ne n 9
  · refine ⟨_, if_pos (second rfl), ?_⟩
    simp [rosterItem_eq, entryBytes, capped, flagByte, itemLength]
  obtain rfl | notErrors := eq_or_ne n 8
  · exact ⟨_, rfl, congrArg (· + 1) (errorItem_length s)⟩
  interval_cases n
  on_goal 10 => exact absurd rfl notRoster
  on_goal 9 => exact absurd rfl notErrors
  all_goals
    refine ⟨_, rfl, ?_⟩
    simp [identityItem, stateItem, flagsItem, demandItem, flowItem, slotItem, latchItem, stageItem, queueItem, flagByte,
      leftBytes, capped, causes, six, three, itemLength]

/-- An index beyond the table, or a second index that names no station, has none. -/
theorem itemContents_of_unlisted
    (h : 10 < s.lport.item.toNat ∨
      s.lport.item.toNat = 9 ∧ (s.lport.second.toNat = 0 ∨ 16 < s.lport.second.toNat)) :
    itemContents s.lport.item.toNat s.lport.second.toNat s = none := by
  rcases h with beyond | ⟨roster, second⟩
  · unfold itemContents
    split <;> first | omega | rfl
  · rw [roster]
    exact if_neg (by omega)

/-- Settles O27: item by item, each with its fields' lemma. -/
theorem readItemAnswersWholeItem : Obligations.ReadItemAnswersWholeItem := by
  intro tariff s
  let read : State := { s with pins := { s.pins with tariff := tariff } }
  have item : ∀ {n : Nat} {l : List Byte}, s.lport.item = BitVec.ofNat 8 n →
      itemContents s.lport.item.toNat s.lport.second.toNat read = some l → readReply read = beBytes 1 n ++ l :=
    fun index contents => readReply_of_contents (s := read) index contents
  refine ⟨answer (readReply read) read, rfl, rfl, rfl, fun b hb => ?_, ?_⟩
  · cases b <;> first | rfl | exact absurd (by decide) hb
  intro r byte flag left
  have reply : r = readReply read := rfl
  clear_value r
  refine ⟨fun listed second => ?_, fun unlisted => ?_, fun i => ?_, fun i => ?_, fun i => ?_, fun i => ?_, fun i => ?_,
    fun i => ?_, fun i => ?_, fun i => ?_, fun i => ?_, fun i x second => ?_, fun i => ?_⟩
  · obtain ⟨l, contents, len⟩ := itemContents_of_listed (s := read) listed second
    have whole : readReply read = s.lport.item :: l := by simp only [readReply, contents]; rfl
    rw [reply, whole]
    exact ⟨rfl, len⟩
  · rw [reply, readReply_of_none (itemContents_of_unlisted (s := read) unlisted)]
  · rw [reply, item (n := 0) i (by rw [i]; rfl)]
    exact identityItem_bytes read
  · have fields := stateItem_fields read
    rw [← item (n := 1) i (by rw [i]; rfl), ← reply] at fields
    exact fields
  · have fields := flagsItem_fields read
    rw [← item (n := 2) i (by rw [i]; rfl), ← reply] at fields
    exact fields
  · have fields := demandItem_fields read
    rw [← item (n := 3) i (by rw [i]; rfl), ← reply] at fields
    exact fields
  · have fields := flowItem_fields read
    rw [← item (n := 4) i (by rw [i]; rfl), ← reply] at fields
    exact fields
  · have fields := slotItem_fields read
    rw [← item (n := 5) i (by rw [i]; rfl), ← reply] at fields
    exact fields
  · have fields := latchItem_fields read
    rw [← item (n := 6) i (by rw [i]; rfl), ← reply] at fields
    exact fields
  · have fields := stageItem_fields read
    rw [← item (n := 7) i (by rw [i]; rfl), ← reply] at fields
    exact fields
  · have fields := errorItem_fields read
    rw [← item (n := 8) i (by rw [i]; rfl), ← reply] at fields
    exact fields
  · have fields := rosterItem_fields x read
    have station : Fin.ofNat 16 (s.lport.second.toNat - 1) = x := Fin.ext (by simp [Fin.ofNat]; omega)
    have contents : itemContents s.lport.item.toNat s.lport.second.toNat read = some (rosterItem x read) := by
      rw [i, ← station]
      exact if_pos (by omega)
    rw [← item (n := 9) i contents, ← reply] at fields
    exact fields
  · rw [reply, item (n := 10) i (by rw [i]; rfl)]
    exact queueItem_bytes read

end Sys2Proof.Machine
end

section
/-! What a move between states does, block by block: the records it raises, the slot and the line as a cancelled claim
leaves them, and the blocks it leaves alone while the run command stays as it is; with the statements on the local port's
CLEAR TRIPS, a dropped reload, the end of FLUSH and the rest timer. -/

namespace Sys2Proof.Machine

open Sys2Proof

variable {s t u : State}

/-! ## Records, exactly -/

/-- A taking raises exactly a list of records, at one moment. -/
structure Records (l : List (EventKind × Nat × Nat)) (s t : State) : Prop where
  time : t.time = s.time
  queue : t.queue = s.queueAfter l

theorem Records.refl (s : State) : Records [] s s := ⟨rfl, rfl⟩

theorem Records.of_frame {bs : List Block} (h : changesOnly bs s t) (queue : Block.queue ∉ bs) (time : Block.time ∉ bs) :
    Records [] s t := ⟨h .time time, h .queue queue⟩

theorem Records.of_eq (time : t.time = s.time) (queue : t.queue = s.queue) : Records [] s t := ⟨time, queue⟩

theorem Records.raise (k : EventKind) (station detail : Nat) :
    Records [(k, station, detail)] s (raise k station detail s) := ⟨rfl, rfl⟩

theorem Records.raiseOwn (k : EventKind) (detail : Nat) :
    Records [(k, s.own, detail)] s (Machine.raiseOwn k detail s) := ⟨rfl, rfl⟩

theorem Records.trans {l m : List (EventKind × Nat × Nat)} (h : Records l s t) (k : Records m t u) :
    Records (l ++ m) s u := by
  refine ⟨k.time.trans h.time, ?_⟩
  have append : raiseAll (l ++ m) s = raiseAll m (raiseAll l s) := by simp [raiseAll]
  rw [k.queue, State.queueAfter, State.queueAfter, append]
  exact raiseAll_queue_congr m h.queue (by rw [h.time, raiseAll_time])

theorem Records.after {l m : List (EventKind × Nat × Nat)} (k : Records m t u) (h : Records l s t) :
    Records (l ++ m) s u := h.trans k

theorem Records.cast {l m : List (EventKind × Nat × Nat)} (h : Records l s t) (e : l = m) : Records m s t := e ▸ h

theorem Records.finish {l : List (EventKind × Nat × Nat)} {before : State} (h : Records l s t) :
    Records l s (Machine.finish before t) :=
  (h.trans (Records.of_frame (finish_frame before) (by decide) (by decide))).cast (List.append_nil l)

/-! ## The record of a move (R107) -/

/-- The state code that the part reports in a train state (R107). -/
def State.codeIn (x : Train) (s : State) : Nat := if s.sequencer.conflict then 8 else x.code

/-- The records of a move to a train state: one STATE_CHANGE, unless code and phase stay. -/
def State.moveRecords (x : Train) (s : State) : List (EventKind × Nat × Nat) :=
  if s.codeIn x = s.ownCode ∧ x.phaseCode = s.sequencer.train.phaseCode then []
  else [(.stateChange, s.own, s.codeIn x * 16 + x.phaseCode)]

/-- The state of a move before its record. -/
def moved (o : YieldOutcome) (x : Train) (s : State) : State :=
  if s.sequencer.train = .running ∧ x ≠ .running then leaveRunning (entering o x s) else entering o x s

theorem moveTo_eq_moved (o : YieldOutcome) (x : Train) : moveTo o x s = noteChange s (moved o x s) := rfl

theorem moved_frame (o : YieldOutcome) (x : Train) :
    changesOnly [.capability, .staging, .slot, .sequencer, .trim, .protection, .line, .port] s (moved o x s) := by
  have entered : changesOnly [.capability, .slot, .sequencer, .trim, .protection, .line, .port] s (entering o x s) :=
    (((leaving_frame o x).mono (by decide)).trans ((sequencer_frame _).mono (by decide))).trans
      (((setValve_frame _).mono (by decide)).trans ((trimFor_frame x).mono (by decide)))
  exact changesOnly_ite ((entered.mono (by decide)).trans (leaveRunning_frame.mono (by decide))) (entered.mono (by decide))

theorem moved_train (o : YieldOutcome) (x : Train) : (moved o x s).sequencer.train = x := by
  unfold moved
  split
  · rw [leaveRunning_sequencer, entering_sequencer]
  · rw [entering_sequencer]

theorem moved_conflict (o : YieldOutcome) (x : Train) : (moved o x s).sequencer.conflict = s.sequencer.conflict := by
  unfold moved
  split
  · rw [leaveRunning_sequencer, entering_sequencer]
  · rw [entering_sequencer]

theorem moveTo_records (o : YieldOutcome) (x : Train) : Records (s.moveRecords x) s (moveTo o x s) := by
  have frame := moved_frame (s := s) o x
  have silent : Records [] s (moved o x s) := .of_frame frame (by decide) (by decide)
  have code : (moved o x s).ownCode = s.codeIn x := by rw [State.ownCode, moved_conflict, moved_train, State.codeIn]
  have own : (moved o x s).own = s.own := congrArg (fun i : Ident => stationNumber i.station) (frame .ident (by decide))
  rw [moveTo_eq_moved, noteChange, code, moved_train, State.moveRecords]
  split
  · exact silent
  · have noted := silent.trans (Records.raiseOwn (s := moved o x s) .stateChange (s.codeIn x * 16 + x.phaseCode))
    rw [own] at noted
    exact noted

/-! ## The slot and the line in a move -/

theorem moveTo_line (o : YieldOutcome) (x : Train) : (moveTo o x s).line = (leaving o x s).line := by
  have entered : (entering o x s).line = (leaving o x s).line := by
    unfold entering
    rw [trimFor_frame x .line (by decide), setValve_frame _ .line (by decide)]
  rw [moveTo_eq, noteChange_frame s .line (by decide)]
  split
  · rw [leaveRunning_frame .line (by decide), entered]
  · exact entered

/-- Only READY and RUNNING have claims to cancel (R91). -/
theorem leaving_of_no_claim {o : YieldOutcome} {x : Train} (ready : s.sequencer.train ≠ .ready)
    (running : s.sequencer.train ≠ .running) : leaving o x s = s := by
  unfold leaving
  split
  · rfl
  · unfold cancelOnLeaving
    split
    · next train => exact absurd train ready
    · next train => exact absurd train running
    · rfl

/-- A claim is cancelled only where one is pending. -/
theorem leaving_of_not_pending {o : YieldOutcome} {x : Train} (h : ∀ q, s.slot.view ≠ .ownPending q) :
    leaving o x s = s := by
  unfold leaving
  split
  · rfl
  · unfold cancelOnLeaving
    split
    · next view _ => exact absurd view (h _)
    · next view _ => exact absurd view (h _)
    · rfl

/-! ## A move that leaves the run command as it is -/

theorem setValve_frame_of_same_run {v : Valve} (run : v.run = s.sequencer.valve.run) :
    changesOnly [.sequencer, .port] s (setValve v s) := by
  have written : changesOnly [.sequencer, .port] s
      (writeValve v { s with sequencer := { s.sequencer with valve := v } }) :=
    ((sequencer_frame _).mono (by decide)).trans ((port_frame _).mono (by decide))
  unfold setValve
  split
  · exact changesOnly_refl _ _
  · dsimp only
    split
    · next on => simp [run] at on
    · split
      · next off => simp [run] at off
      · exact written

/-- Outside RUNNING and without a claim, a move to a state with the same run command changes the Sequencer, the port's
write and the records, and the trim where it enters RUNNING or UNLOAD. -/
theorem moveTo_frame_of_same_run {o : YieldOutcome} {x : Train} (same : leaving o x s = s)
    (run : (valveOf x).run = s.sequencer.valve.run) (still : s.sequencer.train ≠ .running) :
    changesOnly [.sequencer, .trim, .port, .lport, .queue] s (moveTo o x s) := by
  have set : changesOnly [.sequencer, .port] s (setValve (valveOf x)
      { s with sequencer := { s.sequencer with train := x, phase := phaseTimerOf x s, quality := none, staged := false } }) :=
    ((sequencer_frame _).mono (by decide)).trans (setValve_frame_of_same_run run)
  have entered : changesOnly [.sequencer, .trim, .port] s (entering o x s) := by
    unfold entering
    rw [same]
    exact (set.mono (by decide)).trans ((trimFor_frame x).mono (by decide))
  rw [moveTo_eq, if_neg fun k => still k.1]
  exact (entered.mono (by decide)).trans ((noteChange_frame s).mono (by decide))

/-- A move to a state at rest or in FLUSH, from one with the run command off. -/
theorem moveTo_frame_of_off {o : YieldOutcome} {x : Train} (same : leaving o x s = s) (off : s.sequencer.valve.run = false)
    (there : (valveOf x).run = false) (still : s.sequencer.train ≠ .running) :
    changesOnly [.sequencer, .port, .lport, .queue] s (moveTo o x s) := by
  have frame := moveTo_frame_of_same_run same (there.trans off.symm) still
  intro b hb
  by_cases trim : b = .trim
  · subst trim
    have kept : (entering o x s).trim = s.trim := by
      have set := setValve_frame_of_same_run (v := valveOf x) (s := { s with sequencer :=
        { s.sequencer with train := x, phase := phaseTimerOf x s, quality := none, staged := false } }) (there.trans off.symm)
      have none : ∀ w : State, (trimFor x w).trim = w.trim := fun w => by
        cases x <;> first | rfl | cases there
      unfold entering
      rw [none, same]
      exact set .trim (by decide)
    show (moveTo o x s).trim = s.trim
    rw [moveTo_eq, if_neg fun k => still k.1, noteChange_frame s .trim (by decide)]
    exact kept
  · exact frame b (by revert hb trim; cases b <;> decide)

/-! ## The end of FLUSH (R124) -/

theorem startRest_eq {p : Params} (params : s.loader.params = some p) :
    startRest s = { s with sequencer :=
      { s.sequencer with rest := .running { since := s.time, span := p.minRestMin * 60 * 1024 } } } := by
  simp [startRest, params, seconds]

/-- Where FLUSH ends: the first of the four whose condition holds. -/
def State.flushEnd (s : State) : Train :=
  if s.sequencer.conflict then .conflict
  else if s.protection.latches.any then .tripped
  else if s.withheld then .withheld
  else .rest

/-- The rest timer has just started, so REST does not pass on to READY. -/
theorem enterRest_of_running {timer : Timer} (h : s.sequencer.rest = .running timer) :
    enterRest s = moveTo .aborted .rest s := by
  unfold enterRest
  dsimp only
  rw [moveTo_rest, h]

theorem endFlush_eq {p : Params} (params : s.loader.params = some p) :
    endFlush s = moveTo .aborted s.flushEnd (startRest s) := by
  have rest : enterRest (startRest s) = moveTo .aborted .rest (startRest s) :=
    enterRest_of_running (by rw [startRest_eq params])
  unfold endFlush State.flushEnd
  dsimp only
  rw [rest]
  split
  · rfl
  · split
    · rfl
    · split <;> rfl

theorem inPhase_of {x : Train} (train : s.sequencer.train = x) (phase : s.sequencer.phase.isSome = true) :
    s.inPhase x = true := by
  simp [State.inPhase, train, phase]

/-- A state at rest has no phase timer and no phase code. -/
theorem flushEnd_isParked (s : State) : s.flushEnd.isParked = true := by
  unfold State.flushEnd
  split
  · rfl
  · split
    · rfl
    · split <;> rfl

theorem phaseTimerOf_parked {x : Train} (h : x.isParked = true) : phaseTimerOf x s = none := by
  unfold phaseTimerOf
  split
  · cases x <;> first | rfl | cases h
  · rfl

theorem phaseCode_parked {x : Train} (h : x.isParked = true) : x.phaseCode = 0 := by
  cases x <;> first | rfl | cases h

theorem valveOf_parked {x : Train} (h : x.isParked = true) : valveOf x = Valve.atRest := by
  cases x <;> first | rfl | cases h

/-- Settles O58: the rest timer started, then one move to a state at rest. -/
theorem flushEndsInTheFirstStateThatHolds : Obligations.FlushEndsInTheFirstStateThatHolds := by
  intro p s flush phase params valve
  have parked := flushEnd_isParked s
  have rested := startRest_eq params
  have still : (startRest s).sequencer.train = .flush := by rw [rested]; exact flush
  have same : leaving .aborted s.flushEnd (startRest s) = startRest s :=
    leaving_of_no_claim (by rw [still]; decide) (by rw [still]; decide)
  have off : (startRest s).sequencer.valve.run = false := by rw [rested]; show s.sequencer.valve.run = false; rw [valve]; rfl
  have frame : changesOnly [.sequencer, .port, .lport, .queue] s (endFlush s) := by
    rw [endFlush_eq params]
    exact (startRest_frame.mono (by decide)).trans
      (moveTo_frame_of_off same off (by rw [valveOf_parked parked]; rfl) (by rw [still]; decide))
  have sequencer : (endFlush s).sequencer =
      { s.sequencer with
        train := s.flushEnd, valve := Valve.atRest, phase := none, quality := none, staged := false,
        rest := .running { since := s.time, span := p.minRestMin * 60 * 1024 } } := by
    rw [endFlush_eq params, moveTo_sequencer, if_neg (by rw [still]; exact fun k => nomatch k.1), valveOf_parked parked,
      phaseTimerOf_parked parked, rested]
  have records : Records [(.stateChange, s.own, s.codeIn s.flushEnd * 16)] s (endFlush s) := by
    have started : Records [] s (startRest s) := .of_frame startRest_frame (by decide) (by decide)
    have moved := started.trans (moveTo_records (s := startRest s) .aborted s.flushEnd)
    rw [endFlush_eq params]
    refine moved.cast ?_
    rw [State.moveRecords, if_neg (by rw [still, phaseCode_parked parked]; exact fun k => nomatch k.2),
      phaseCode_parked parked, rested]
    rfl
  have kept : (endFlush s).slot = s.slot := frame .slot (by decide)
  refine ⟨finish s (endFlush s), if_pos (inPhase_of flush phase), finish_changes frame kept (by decide) (by decide), ?_, ?_⟩
  · rw [finish_sequencer, sequencer]
    rfl
  · rw [finish_queue, records.queue, State.ownCode, finish_sequencer, sequencer]
    rfl

/-! ## A dropped reload (R194) -/

/-- Settles O22: both ends of the reading that change no parameter set are the same. -/
theorem reloadDroppedKeepsParameters : Obligations.ReloadDroppedKeepsParameters := by
  intro image tariff r s reloading dropped
  let read : State := { s with pins := { s.pins with tariff := tariff } }
  have ends : endReload image read = reloadDropped r read := by
    rcases dropped with ⟨rfl, forbids⟩ | ⟨failed, unset, may, clear⟩
    · exact if_pos forbids
    · have allowed : ¬(read.sequencer.train.mayReload = false ∨ read.sequencer.conflict = true) := by
        simp [read, may, clear]
      have still : read.configured = false := unset
      simp [endReload, allowed, failed, still]
  have run : exec (.reloadEnd image tariff) s = .next (finish s (reloadDropped r read)) := by
    simp only [exec, execReloadEnd, reloading, ← ends, read]
  refine ⟨_, run, ?_, ?_, ?_, ?_, finish_changes (bs := [.pins, .loader, .lport, .queue]) (fun b hb => ?_) rfl (by decide) (by decide)⟩
  · exact finish_loader s
  · exact finish_queue s
  · exact finish_pins s
  · exact (congrArg (fun u : State => u.port.channels)
      (finish_of_slot_kept (s := reloadDropped r read) (before := s) rfl)).trans arbitrate_channels
  · cases b <;> first | rfl | exact absurd (by decide) hb

/-! ## CLEAR TRIPS (R157) -/

theorem clearLatch_records (k : Cause) :
    Records (if s.protection.latches.get k && !s.present k then [(.latchCleared, s.own, k.code)] else []) s
      (clearLatch s k) := by
  unfold clearLatch
  split
  · exact ⟨rfl, rfl⟩
  · exact Records.refl s

theorem clearLatch_own (k : Cause) : (clearLatch s k).own = s.own :=
  congrArg (fun i : Ident => stationNumber i.station) (clearLatch_frame k .ident (by decide))

/-- The causes of a list without repetition are cleared each by its own latch and presence. -/
theorem foldl_clearLatch_records (l : List Cause) (nodup : l.Nodup) :
    Records ((l.filter fun k => s.protection.latches.get k && !s.present k).map fun k => (.latchCleared, s.own, k.code)) s
      (l.foldl clearLatch s) := by
  induction l generalizing s with
  | nil => exact Records.refl s
  | cons c l ih =>
    obtain ⟨fresh, rest⟩ := List.nodup_cons.mp nodup
    have others : (l.filter fun k => (clearLatch s c).protection.latches.get k && !(clearLatch s c).present k) =
        l.filter fun k => s.protection.latches.get k && !s.present k :=
      List.filter_congr fun k mem => by
        have other : k ≠ c := fun e => fresh (e ▸ mem)
        rw [clearLatch_latches, clearLatch_present]
        simp [other]
    have tail := ih rest (s := clearLatch s c)
    rw [others, clearLatch_own] at tail
    refine ((clearLatch_records c).trans tail).cast ?_
    rw [List.filter_cons]
    split <;> rfl

/-- The records of CLEAR TRIPS: a LATCH_CLEARED for each set latch whose cause is absent, in order of code. -/
theorem clearLatches_records :
    Records ((causes.filter fun k => s.protection.latches.get k && !s.present k).map fun k => (.latchCleared, s.own, k.code))
      s (clearLatches s) := foldl_clearLatch_records causes (by decide)

theorem present_answer (reply : List Byte) (k : Cause) : (answer reply s).present k = s.present k := by cases k <;> rfl

/-- Where a train leaves TRIPPED to (R129). -/
def State.tripExit (s : State) : Train :=
  if s.sequencer.conflict then .conflict else if s.withheld then .withheld else .rest

theorem leaveTripped_eq (tripped : s.sequencer.train = .tripped) :
    leaveTripped s = moveTo .aborted s.tripExit (startRest s) := by
  unfold leaveTripped State.tripExit
  rw [if_pos tripped]
  dsimp only
  split
  · rfl
  · split <;> rfl

end Sys2Proof.Machine
end

section
/-! What the moves of a train leave as it is inside the blocks they change: the counters of the Sequencer, the latches,
counts and conditions of Protection, and the stage counters. -/

namespace Sys2Proof.Machine

open Sys2Proof

variable {s t u : State}

/-- The train moves: of Protection only the three timers change, of Staging only SP, of the Sequencer no counter and not
the conflict mark. -/
structure OnlyMoves (s t : State) : Prop where
  protection : t.protection =
    { s.protection with
      lowSuction := t.protection.lowSuction, qualityTrip := t.protection.qualityTrip, instrument := t.protection.instrument }
  staging : t.staging = { s.staging with sp := t.staging.sp }
  sequencer : t.sequencer =
    { s.sequencer with
      train := t.sequencer.train, phase := t.sequencer.phase, quality := t.sequencer.quality, staged := t.sequencer.staged,
      valve := t.sequencer.valve, minRun := t.sequencer.minRun, minRunMet := t.sequencer.minRunMet,
      intPoint := t.sequencer.intPoint, rest := t.sequencer.rest }

theorem OnlyMoves.refl (s : State) : OnlyMoves s s := ⟨rfl, rfl, rfl⟩

theorem OnlyMoves.trans (h : OnlyMoves s t) (k : OnlyMoves t u) : OnlyMoves s u :=
  ⟨by rw [k.protection, h.protection], by rw [k.staging, h.staging], by rw [k.sequencer, h.sequencer]⟩

theorem OnlyMoves.after (k : OnlyMoves t u) (h : OnlyMoves s t) : OnlyMoves s u := h.trans k

theorem OnlyMoves.ite {c : Prop} [Decidable c] (h : OnlyMoves s t) (k : OnlyMoves s u) :
    OnlyMoves s (if c then t else u) := by
  split
  · exact h
  · exact k

theorem OnlyMoves.of_frame {bs : List Block} (h : changesOnly bs s t)
    (sub : bs ⊆ [.demand, .capability, .roster, .slot, .trim, .line, .port, .lport, .queue]) : OnlyMoves s t := by
  have same : ∀ b : Block, b ∉ [Block.demand, .capability, .roster, .slot, .trim, .line, .port, .lport, .queue] → b.same s t :=
    fun b hb => h b fun k => hb (sub k)
  have protection : t.protection = s.protection := same .protection (by decide)
  have staging : t.staging = s.staging := same .staging (by decide)
  have sequencer : t.sequencer = s.sequencer := same .sequencer (by decide)
  exact ⟨by rw [protection], by rw [staging], by rw [sequencer]⟩

theorem OnlyMoves.latches (h : OnlyMoves s t) : t.protection.latches = s.protection.latches := by rw [h.protection]

theorem OnlyMoves.counts (h : OnlyMoves s t) : t.protection.counts = s.protection.counts := by rw [h.protection]

theorem OnlyMoves.failures (h : OnlyMoves s t) : t.sequencer.failures = s.sequencer.failures := by rw [h.sequencer]

theorem OnlyMoves.starts (h : OnlyMoves s t) : t.sequencer.starts = s.sequencer.starts := by rw [h.sequencer]

theorem OnlyMoves.mark (h : OnlyMoves s t) : t.sequencer.conflict = s.sequencer.conflict := by rw [h.sequencer]

theorem judgeLowSuction_onlyMoves : OnlyMoves s (judgeLowSuction s) := by
  unfold judgeLowSuction
  split
  · exact .refl s
  · exact ⟨rfl, rfl, rfl⟩

theorem judgeQualityTrip_onlyMoves : OnlyMoves s (judgeQualityTrip s) := by
  unfold judgeQualityTrip
  split
  · exact .refl s
  · exact ⟨rfl, rfl, rfl⟩

theorem judgeInstrument_onlyMoves : OnlyMoves s (judgeInstrument s) := by
  unfold judgeInstrument
  split
  · exact .refl s
  · exact ⟨rfl, rfl, rfl⟩

theorem setSp_onlyMoves (v : Nat) : OnlyMoves s (setSp v s) := ⟨rfl, rfl, rfl⟩

theorem recompute_onlyMoves : OnlyMoves s (recompute s) := by
  unfold recompute
  split
  · exact .refl s
  · exact .ite ((setSp_onlyMoves _).after ⟨rfl, rfl, rfl⟩) ⟨rfl, rfl, rfl⟩

theorem clearCap_onlyMoves : OnlyMoves s (clearCap s) := by
  unfold clearCap
  split
  · exact recompute_onlyMoves.after ⟨rfl, rfl, rfl⟩
  · exact .refl s

theorem setValve_onlyMoves (v : Valve) : OnlyMoves s (setValve v s) := by
  have set : OnlyMoves s (writeValve v { s with sequencer := { s.sequencer with valve := v } }) := ⟨rfl, rfl, rfl⟩
  have judged : ∀ w : State, OnlyMoves w (judgeInstrument (judgeLowSuction w)) := fun w =>
    judgeInstrument_onlyMoves.after judgeLowSuction_onlyMoves
  have on : ∀ w : State, OnlyMoves w (afterRunOn w) := fun w =>
    (judged _).after (.of_frame trimStart_frame (by decide))
  have off : ∀ w : State, OnlyMoves w (afterRunOff w) := fun w => (judged _).after ⟨rfl, rfl, rfl⟩
  unfold setValve
  exact .ite (.refl s) (.ite (set.trans (on _)) (.ite (set.trans (off _)) set))

theorem leaveRunning_onlyMoves : OnlyMoves s (leaveRunning s) :=
  judgeQualityTrip_onlyMoves.after (clearCap_onlyMoves.after ⟨rfl, rfl, rfl⟩)

theorem moveTo_onlyMoves (o : YieldOutcome) (x : Train) : OnlyMoves s (moveTo o x s) := by
  have cleared : OnlyMoves s (leaving o x s) := .of_frame (leaving_frame o x) (by decide)
  have entered : OnlyMoves s (entering o x s) := by
    unfold entering
    refine OnlyMoves.trans ?_ ((setValve_onlyMoves _).trans (.of_frame (trimFor_frame x) (by decide)))
    exact cleared.trans ⟨rfl, rfl, rfl⟩
  rw [moveTo_eq]
  exact (OnlyMoves.ite (entered.trans leaveRunning_onlyMoves) entered).trans (.of_frame (noteChange_frame s) (by decide))

theorem startRest_onlyMoves : OnlyMoves s (startRest s) := by
  unfold startRest
  split
  · exact ⟨rfl, rfl, rfl⟩
  · exact .refl s

theorem release_onlyMoves (o : YieldOutcome) : OnlyMoves s (release o s) := .of_frame (release_frame o) (by decide)

theorem unloadTest_onlyMoves : OnlyMoves s (unloadTest s) := by
  unfold unloadTest
  exact .ite ((moveTo_onlyMoves _ _).after (.ite (release_onlyMoves _) (.refl s))) (.refl s)

theorem rampArrived_onlyMoves : OnlyMoves s (rampArrived s) := by
  unfold rampArrived
  split
  · exact .refl s
  · exact .ite ((setValve_onlyMoves _).trans unloadTest_onlyMoves) (.refl s)

theorem enterUnload_onlyMoves (staged : Bool) : OnlyMoves s (enterUnload staged s) :=
  rampArrived_onlyMoves.after ((moveTo_onlyMoves .aborted .unload).trans ⟨rfl, rfl, rfl⟩)

theorem leaveStart_onlyMoves : OnlyMoves s (leaveStart s) := by
  unfold leaveStart
  split
  · exact moveTo_onlyMoves _ _
  · exact enterUnload_onlyMoves _
  · exact enterUnload_onlyMoves _
  · exact .refl s

theorem abortStart_onlyMoves : OnlyMoves s (abortStart s) :=
  .ite (leaveStart_onlyMoves.after (release_onlyMoves _)) (.refl s)

theorem overflowCheck_onlyMoves : OnlyMoves s (overflowCheck s) :=
  .ite (.ite (enterUnload_onlyMoves _) abortStart_onlyMoves) (.refl s)

theorem sequencerTrip_onlyMoves : OnlyMoves s (sequencerTrip s) := by
  unfold sequencerTrip
  split <;> first
    | exact (moveTo_onlyMoves _ _).after (release_onlyMoves _)
    | exact .ite (.refl s) ((moveTo_onlyMoves _ _).after startRest_onlyMoves)
    | exact moveTo_onlyMoves _ _
    | exact .refl s

theorem leaveTripped_onlyMoves : OnlyMoves s (leaveTripped s) := by
  have moved : ∀ x, OnlyMoves s (moveTo .aborted x (startRest s)) := fun x => (moveTo_onlyMoves _ _).after startRest_onlyMoves
  exact .ite (.ite (moved _) (.ite (moved _) (moved _))) (.refl s)

end Sys2Proof.Machine
end

section
/-! CLEAR TRIPS as a whole: the reply, the records and the way out of TRIPPED (R157, R129). -/

namespace Sys2Proof.Machine

open Sys2Proof

variable {s t u : State}

/-- What the reply of CLEAR TRIPS says while latches remain: the code and the latches (R196). -/
theorem latchesRemain_reply (p : PerCause Bool) :
    let reply := replyLatchesRemain ++ beBytes 2 p.bits
    reply.length = 3 ∧ reply.head? = some 2 ∧ ∀ k : Cause, (fieldAt reply 1 2).testBit (k.code - 1) = p.get k := by
  refine ⟨by simp [replyLatchesRemain], rfl, fun k => ?_⟩
  have field : fieldAt (replyLatchesRemain ++ beBytes 2 p.bits) 1 2 = p.bits := by
    refine (fieldAt_append_of_le (a := replyLatchesRemain) (beBytes 2 p.bits) 2 (Nat.le_refl 1)).trans ?_
    refine (fieldAt_last 2 _).trans (Nat.mod_eq_of_lt (Nat.lt_trans p.bits_lt (by decide)))
  rw [field, p.bits_testBit]

/-- The latches as CLEAR TRIPS leaves them, and everything else of the part as it was but reply and records. -/
theorem clearLatches_answer_frame :
    changesOnly [.protection, .lport, .queue] s (clearLatches (answer [] s)) := by
  have fold : ∀ (l : List Cause) (u : State), changesOnly [.protection, .lport, .queue] u (l.foldl clearLatch u) := by
    intro l
    induction l with
    | nil => exact fun u => changesOnly_refl _ u
    | cons k l ih => exact fun u => (clearLatch_frame k).trans (ih _)
  exact ((answer_frame []).mono (by decide)).trans (fold causes _)

/-- The records of the looking. -/
theorem clearLatches_answer_records :
    Records ((causes.filter fun k => s.protection.latches.get k && !s.present k).map fun k => (.latchCleared, s.own, k.code))
      s (clearLatches (answer [] s)) := by
  have looked := clearLatches_records (s := answer [] s)
  simp only [present_answer] at looked
  exact (Records.of_frame (answer_frame (s := s) []) (by decide) (by decide)).trans looked

/-- The record of the way out of TRIPPED: none into train state CONFLICT, whose code the part reports already. -/
theorem moveRecords_of_tripExit (tripped : s.sequencer.train = .tripped) :
    s.moveRecords s.tripExit =
      if s.sequencer.conflict then [] else [(.stateChange, s.own, if s.withheld then 112 else 16)] := by
  cases mark : s.sequencer.conflict <;> cases held : s.withheld <;>
    simp [State.moveRecords, State.tripExit, State.codeIn, State.ownCode, mark, held, tripped, Train.code, Train.phaseCode]

theorem leaveTripped_records (tripped : s.sequencer.train = .tripped) :
    Records (if s.sequencer.conflict then [] else [(.stateChange, s.own, if s.withheld then 112 else 16)]) s
      (leaveTripped s) := by
  have same : ∀ b : Block, b ≠ .sequencer → b.same s (startRest s) := fun b hb => startRest_frame b (by simpa using hb)
  have rest : (startRest s).sequencer = { s.sequencer with rest := (startRest s).sequencer.rest } := by
    unfold startRest
    split <;> rfl
  have started : Records [] s (startRest s) := .of_frame startRest_frame (by decide) (by decide)
  have exit : (startRest s).tripExit = s.tripExit := by
    unfold State.tripExit State.withheld
    rw [rest, same .pins (by decide), same .lport (by decide), same .roster (by decide)]
  have moved := moveTo_records (s := startRest s) .aborted s.tripExit
  rw [← exit, moveRecords_of_tripExit (startRest_train.trans tripped), exit] at moved
  rw [leaveTripped_eq tripped]
  refine (started.trans moved).cast ?_
  unfold State.withheld State.own
  rw [rest, same .pins (by decide), same .lport (by decide), same .roster (by decide), same .ident (by decide)]
  rfl

theorem leaveTripped_rest (tripped : s.sequencer.train = .tripped) :
    (leaveTripped s).sequencer.rest = (startRest s).sequencer.rest := by
  rw [leaveTripped_eq tripped, moveTo_rest]

/-- The local port of a taking that raises records keeps its reply. -/
theorem leaveTripped_reply : (leaveTripped s).lport.reply = s.lport.reply := by
  rw [leaveTripped_offPort.logged.lport_eq]

theorem leaveTripped_of_not_tripped (h : s.sequencer.train ≠ .tripped) : leaveTripped s = s := if_neg h

/-- Settles O31: latch by latch, then the reply and the way out. -/
theorem clearTripsClearsAbsentCauses : Obligations.ClearTripsClearsAbsentCauses := by
  intro s cleared
  let looked := clearLatches (answer [] s)
  have frame : changesOnly [.protection, .lport, .queue] s looked := clearLatches_answer_frame
  have records : Records cleared s looked := clearLatches_answer_records
  have latches : ∀ k, looked.protection.latches.get k = (s.protection.latches.get k && s.present k) := fun k => by
    rw [clearLatches_latches, present_answer]; rfl
  have counts : looked.protection.counts = s.protection.counts := clearLatches_counts
  have absent : s.loader.params = none → s.present .lowSuction = false ∧ s.present .highPressure = false := fun none => by
    simp [State.present, none]
  cases any : looked.protection.latches.any with
  | true =>
    have run : exec .clearTrips s = .next (finish s { looked with lport :=
        { looked.lport with reply := replyLatchesRemain ++ beBytes 2 looked.protection.latches.bits } }) := by
      simp only [exec, execClearTrips]
      exact congrArg (fun u : State => Host.Outcome.next (finish s u)) (if_pos any)
    refine ⟨_, run, fun k => ?_, absent, ?_, fun none => ?_, fun _ => ?_, fun _ => ⟨?_, ?_⟩, fun none => ?_⟩
    · rw [finish_protection]; exact latches k
    · rw [finish_protection]; exact counts
    · rw [finish_protection] at none; exact absurd (any.symm.trans none) (by decide)
    · rw [finish_lport, finish_protection]
      exact latchesRemain_reply looked.protection.latches
    · rw [finish_sequencer]; exact frame .sequencer (by decide)
    · rw [finish_queue]; exact records.queue
    · rw [finish_protection] at none; exact absurd (any.symm.trans none) (by decide)
  | false =>
    let replied : State := { looked with lport := { looked.lport with reply := replyDone } }
    have run : exec .clearTrips s = .next (finish s (leaveTripped replied)) := by
      simp only [exec, execClearTrips]
      exact congrArg (fun u : State => Host.Outcome.next (finish s u)) (if_neg (by rw [any]; decide))
    have outer : changesOnly [.protection, .lport, .queue] s replied :=
      frame.trans fun b hb => by cases b <;> first | rfl | exact absurd (by decide) hb
    have silent : Records cleared s replied := ⟨records.time, records.queue⟩
    have moves : OnlyMoves replied (leaveTripped replied) := leaveTripped_onlyMoves
    have remains : (leaveTripped replied).protection.latches.any = false := by rw [moves.latches]; exact any
    have calm : ∀ x : State, x.protection.latches.any = true → x = finish s (leaveTripped replied) → False := fun x some e => by
      subst e
      rw [finish_protection, remains] at some
      cases some
    have withheld : replied.withheld = s.withheld := by
      unfold State.withheld
      rw [outer .pins (by decide), outer .roster (by decide)]
      rw [show replied.lport.withholdCmd = s.lport.withholdCmd by
        show looked.lport.withholdCmd = _
        rw [(clearLatches_logged (s := answer [] s)).lport_eq]; rfl]
    have sequencer : replied.sequencer = s.sequencer := outer .sequencer (by decide)
    refine ⟨_, run, fun k => ?_, absent, ?_, fun _ => ?_, fun some => ?_, fun stays => ?_, fun _ tripped => ?_⟩
    · rw [finish_protection, moves.latches]; exact latches k
    · rw [finish_protection, moves.counts]; exact counts
    · rw [finish_lport, leaveTripped_reply]; rfl
    · exact (calm _ some rfl).elim
    · have other : s.sequencer.train ≠ .tripped := stays.resolve_left fun some => calm _ some rfl
      rw [finish_sequencer, finish_queue, leaveTripped_of_not_tripped (by rw [sequencer]; exact other)]
      exact ⟨sequencer, silent.queue⟩
    · have here : replied.sequencer.train = .tripped := by rw [sequencer]; exact tripped
      have exit : replied.tripExit = s.tripExit := by
        unfold State.tripExit
        rw [withheld, sequencer]
      refine ⟨?_, fun p params => ?_, ?_⟩
      · rw [finish_sequencer, leaveTripped_eq here, moveTo_train, exit]; rfl
      · rw [finish_sequencer, leaveTripped_rest here,
          startRest_eq (show replied.loader.params = some p from (congrArg Loader.params (outer .loader (by decide))).trans params),
          outer .time (by decide)]
      · have left := silent.trans (leaveTripped_records here)
        rw [sequencer, withheld, State.own, outer .ident (by decide)] at left
        rw [finish_queue]
        exact left.queue

end Sys2Proof.Machine
end

section
/-! A move between states block by block, the way through UNLOAD, the abort of a start and the trip: where the train
goes, what slot and line are left with, and the records. -/

namespace Sys2Proof.Machine

open Sys2Proof

variable {s t u : State}

/-! ## The trim, Staging and the cap in a move -/

/-- The trim as the entry to a state with the run command already on leaves it (R116, R141). -/
def Trim.entering (x : Train) (q : Trim) : Trim :=
  match x with
  | .running => { q with mode := .trimSp, settle := none, settled := false, sat := none }
  | .unload => { q with mode := .rampDown, hold := .clear, settle := none, settled := false, sat := none }
  | _ => q

theorem trimFor_trim (x : Train) : (trimFor x s).trim = s.trim.entering x := by cases x <;> rfl

theorem recompute_of_not_running (h : s.sequencer.train ≠ .running) :
    changesOnly [.capability] s (recompute s) := by
  unfold recompute
  split
  · exact changesOnly_refl _ _
  · rw [if_neg fun k => h k.1]
    exact capability_frame _

theorem clearCap_of_not_running (h : s.sequencer.train ≠ .running) :
    changesOnly [.capability] s (clearCap s) := by
  unfold clearCap
  split
  · exact (capability_frame _).trans (recompute_of_not_running h)
  · exact changesOnly_refl _ _

theorem recompute_cap : (recompute s).capability.cap = s.capability.cap := by
  unfold recompute
  split
  · rfl
  · dsimp only
    split <;> rfl

theorem clearCap_cap : (clearCap s).capability.cap = none := by
  cases cap : s.capability.cap with
  | none => simp only [clearCap, cap]
  | some c =>
    simp only [clearCap, cap]
    rw [recompute_cap]

/-- The way out of RUNNING changes the cap's capacity, min-run, SP and the quality-trip timer, but not the trim. -/
theorem leaveRunning_of_not_running (h : s.sequencer.train ≠ .running) :
    (leaveRunning s).trim = s.trim ∧ (leaveRunning s).staging = { s.staging with sp := 0 } ∧
      (leaveRunning s).capability.cap = none := by
  have cleared : ∀ q r, changesOnly [.capability] { s with sequencer := { s.sequencer with minRun := none, minRunMet := false, intPoint := none }, staging := q, trim := r }
      (clearCap { s with sequencer := { s.sequencer with minRun := none, minRunMet := false, intPoint := none }, staging := q, trim := r }) :=
    fun q r => clearCap_of_not_running h
  unfold leaveRunning
  refine ⟨?_, ?_, ?_⟩
  · rw [judgeQualityTrip_frame .trim (by decide)]
    exact cleared { s.staging with sp := 0 } s.trim .trim (by decide)
  · rw [judgeQualityTrip_frame .staging (by decide)]
    exact cleared { s.staging with sp := 0 } s.trim .staging (by decide)
  · rw [judgeQualityTrip_frame .capability (by decide), clearCap_cap]

theorem entering_train (o : YieldOutcome) (x : Train) : (entering o x s).sequencer.train = x := by rw [entering_sequencer]

theorem trimStart_trim_congr (trim : t.trim = s.trim) (loader : t.loader = s.loader) (port : t.port = s.port)
    (time : t.time = s.time) : (trimStart t).trim = (trimStart s).trim := by
  cases params : s.loader.params with
  | none => rw [trimStart_trim_of_unset params, trimStart_trim_of_unset (by rw [loader]; exact params), trim]
  | some p => simp only [trimStart, loader, params, State.chan, port, time]; rfl

/-- The trim after a change of valve word depends on trim, clock, channels, parameters and the word before. -/
theorem setValve_trim_congr {v : Valve} (trim : t.trim = s.trim) (loader : t.loader = s.loader) (port : t.port = s.port)
    (time : t.time = s.time) (valve : t.sequencer.valve = s.sequencer.valve) :
    (setValve v t).trim = (setValve v s).trim := by
  have stop : (trimStop t).trim = (trimStop s).trim := by
    show ({ t.trim with mode := .off, s := 0, last := none, hold := .clear, settle := none, settled := false, sat := none } : Trim) = _
    rw [trim]
    rfl
  rw [setValve_trim, setValve_trim, trimStart_trim_congr trim loader port time, stop, trim, valve]

/-- The trim in a move: the run command's change, then the mode of the state entered. -/
theorem moveTo_trim (o : YieldOutcome) (x : Train) :
    (moveTo o x s).trim = (setValve (valveOf x) s).trim.entering x := by
  have cleared := leaving_frame (s := s) o x
  have entered : (entering o x s).trim = (setValve (valveOf x) s).trim.entering x := by
    unfold entering
    rw [trimFor_trim]
    refine congrArg _ (setValve_trim_congr ?_ ?_ ?_ ?_ ?_)
    · exact cleared .trim (by decide)
    · exact cleared .loader (by decide)
    · exact cleared .port (by decide)
    · exact cleared .time (by decide)
    · have sequencer : (leaving o x s).sequencer = s.sequencer := cleared .sequencer (by decide)
      show (leaving o x s).sequencer.valve = s.sequencer.valve
      rw [sequencer]
  rw [moveTo_eq, noteChange_frame s .trim (by decide)]
  split
  · next out => rw [(leaveRunning_of_not_running (by rw [entering_train]; exact out.2)).1, entered]
  · exact entered

theorem moveTo_trim_of_same_run {o : YieldOutcome} {x : Train} (run : (valveOf x).run = s.sequencer.valve.run) :
    (moveTo o x s).trim = s.trim.entering x := by
  rw [moveTo_trim, setValve_trim, if_pos run]

theorem entering_staging (o : YieldOutcome) (x : Train) : (entering o x s).staging = s.staging := by
  unfold entering
  rw [trimFor_frame x .staging (by decide), setValve_frame _ .staging (by decide)]
  exact leaving_frame o x .staging (by decide)

theorem moveTo_staging (o : YieldOutcome) (x : Train) :
    (moveTo o x s).staging =
      if s.sequencer.train = .running ∧ x ≠ .running then { s.staging with sp := 0 } else s.staging := by
  rw [moveTo_eq, noteChange_frame s .staging (by decide)]
  split
  · next out => rw [(leaveRunning_of_not_running (by rw [entering_train]; exact out.2)).2.1, entering_staging]
  · exact entering_staging o x

theorem moveTo_cap {o : YieldOutcome} {x : Train} (running : s.sequencer.train = .running) (out : x ≠ .running) :
    (moveTo o x s).capability.cap = none := by
  rw [moveTo_eq, noteChange_frame s .capability (by decide), if_pos ⟨running, out⟩]
  exact (leaveRunning_of_not_running (by rw [entering_train]; exact out)).2.2

/-! ## What the drive's rest depends on -/

theorem OffPort.channels (h : OffPort s t) : t.port.channels = s.port.channels := by rw [h.port]

/-- A valid channel 6 reports the drive at rest (R123). -/
def State.driveRests (s : State) : Bool := s.chanValid 6 && !s.driveRunning

theorem driveRests_iff : s.driveRests = true ↔ s.chanValid 6 = true ∧ s.driveRunning = false := by
  simp [State.driveRests]

theorem driveRests_congr (channels : t.port.channels = s.port.channels) : t.driveRests = s.driveRests := by
  simp only [State.driveRests, State.chanValid, State.driveRunning, State.chan, channels]

theorem unloadsTo_eq (p : Params) :
    s.unloadsTo p = if s.trim.s = p.sStart ∧ s.driveRests = true then .flush else .unload := by
  simp only [State.unloadsTo, driveRests_iff]

theorem unloadsTo_congr {p : Params} (speed : t.trim.s = s.trim.s) (channels : t.port.channels = s.port.channels) :
    t.unloadsTo p = s.unloadsTo p := by
  rw [unloadsTo_eq, unloadsTo_eq, speed, driveRests_congr channels]

theorem abortsTo_congr {p : Params} (train : t.sequencer.train = s.sequencer.train) (speed : t.trim.s = s.trim.s)
    (channels : t.port.channels = s.port.channels) : t.abortsTo p = s.abortsTo p := by
  rw [State.abortsTo, State.abortsTo, train, unloadsTo_congr speed channels]

/-! ## The record of a move to another phase -/

theorem moveRecords_of_phase {x : Train} (h : x.phaseCode ≠ s.sequencer.train.phaseCode) :
    s.moveRecords x = [(.stateChange, s.own, s.codeIn x * 16 + x.phaseCode)] := if_neg fun k => h k.2

theorem codeIn_of_clear {x : Train} (clear : s.sequencer.conflict = false) : s.codeIn x = x.code := by
  rw [State.codeIn, if_neg (by rw [clear]; decide)]

theorem moveRecords_of_code {x : Train} (clear : s.sequencer.conflict = false)
    (h : x.code ≠ s.sequencer.train.code) :
    s.moveRecords x = [(.stateChange, s.own, x.code * 16 + x.phaseCode)] := by
  have own : s.ownCode = s.sequencer.train.code := if_neg (by rw [clear]; decide)
  rw [State.moveRecords, codeIn_of_clear clear, own, if_neg fun k => h k.1]

/-! ## UNLOAD (R122, R123, R141) -/

/-- UNLOAD entered, by a staged stop or not, before the ramp is judged. -/
def unloading (staged : Bool) (s : State) : State :=
  { moveTo .aborted .unload s with sequencer := { (moveTo .aborted .unload s).sequencer with staged := staged } }

/-- The run command off at the end of the ramp. -/
def rampStopped (s : State) : State := setValve { s.sequencer.valve with run := false } s

/-- FLUSH entered from UNLOAD with the drive at rest. -/
def unloadEnded (s : State) : State := moveTo .aborted .flush (if s.sequencer.staged then release .completed s else s)

theorem enterUnload_unloading (staged : Bool) : enterUnload staged s = rampArrived (unloading staged s) := rfl

theorem unloadTest_eq (unload : s.sequencer.train = .unload) (off : s.sequencer.valve.run = false) :
    unloadTest s = if s.driveRests then unloadEnded s else s := by
  unfold unloadTest
  rcases rests : s.driveRests with _ | _
  · rw [if_neg (fun k => by rw [driveRests_iff.mpr ⟨k.2.2.1, k.2.2.2⟩] at rests; cases rests)]
    rfl
  · rw [if_pos ⟨unload, off, (driveRests_iff.mp rests).1, (driveRests_iff.mp rests).2⟩]
    rfl

theorem rampStopped_train : (rampStopped s).sequencer.train = s.sequencer.train := by rw [rampStopped, setValve_sequencer]

theorem rampStopped_off : (rampStopped s).sequencer.valve.run = false := by rw [rampStopped, setValve_sequencer]

theorem rampStopped_driveRests : (rampStopped s).driveRests = s.driveRests :=
  driveRests_congr (setValve_offPort _).channels

theorem rampArrived_eq {p : Params} (params : s.loader.params = some p) (unload : s.sequencer.train = .unload)
    (mode : s.trim.mode = .rampDown) :
    rampArrived s =
      if s.trim.s = p.sStart then if s.driveRests then unloadEnded (rampStopped s) else rampStopped s else s := by
  have tested : unloadTest (rampStopped s) = if s.driveRests then unloadEnded (rampStopped s) else rampStopped s := by
    rw [unloadTest_eq (by rw [rampStopped_train]; exact unload) rampStopped_off, rampStopped_driveRests]
  unfold rampArrived
  rw [params]
  dsimp only
  by_cases arrived : s.trim.s = p.sStart
  · rw [if_pos ⟨unload, mode, arrived⟩, if_pos arrived]
    exact tested
  · rw [if_neg fun k => arrived k.2.2, if_neg arrived]

theorem unloading_train (staged : Bool) : (unloading staged s).sequencer.train = .unload := moveTo_train .aborted .unload

theorem unloading_trim (staged : Bool) (run : s.sequencer.valve.run = true) :
    (unloading staged s).trim =
      { s.trim with mode := .rampDown, hold := .clear, settle := none, settled := false, sat := none } :=
  moveTo_trim_of_same_run run.symm

theorem unloading_driveRests (staged : Bool) : (unloading staged s).driveRests = s.driveRests :=
  driveRests_congr (moveTo_offPort .aborted .unload).channels

/-- Entering UNLOAD with the run command on: the ramp begins, or has ended already, and then the drive may be at rest. -/
theorem enterUnload_eq {p : Params} (staged : Bool) (params : s.loader.params = some p)
    (run : s.sequencer.valve.run = true) :
    enterUnload staged s =
      if s.trim.s = p.sStart then
        if s.driveRests then unloadEnded (rampStopped (unloading staged s)) else rampStopped (unloading staged s)
      else unloading staged s := by
  have kept : (unloading staged s).loader.params = some p :=
    (congrArg Loader.params (moveTo_loader (s := s) .aborted .unload)).trans params
  rw [enterUnload_unloading, rampArrived_eq kept (unloading_train staged) (by rw [unloading_trim staged run]),
    unloading_driveRests, unloading_trim staged run]

theorem enterUnload_train {p : Params} (staged : Bool) (params : s.loader.params = some p)
    (run : s.sequencer.valve.run = true) : (enterUnload staged s).sequencer.train = s.unloadsTo p := by
  rw [enterUnload_eq staged params run, unloadsTo_eq]
  by_cases arrived : s.trim.s = p.sStart
  · cases rests : s.driveRests with
    | true =>
      simp only [arrived, if_true, true_and]
      exact moveTo_train _ _
    | false =>
      simp only [arrived, if_true, true_and, Bool.false_eq_true, if_false]
      exact rampStopped_train.trans (unloading_train staged)
  · rw [if_neg arrived, if_neg fun k => arrived k.1]
    exact unloading_train staged

theorem rampStopped_frame : changesOnly [.capability, .sequencer, .trim, .protection, .port] s (rampStopped s) :=
  setValve_frame _

theorem unloading_slot (staged : Bool) : (unloading staged s).slot = (leaving .aborted .unload s).slot :=
  moveTo_slot .aborted .unload

theorem unloading_line (staged : Bool) : (unloading staged s).line = (leaving .aborted .unload s).line :=
  moveTo_line .aborted .unload

theorem rampStopped_staged : (rampStopped s).sequencer.staged = s.sequencer.staged := by rw [rampStopped, setValve_sequencer]

/-- From UNLOAD without the slot FLUSH follows with slot and line as they are. -/
theorem unloadTest_unstaged (unstaged : s.sequencer.staged = false) :
    (unloadTest s).slot = s.slot ∧ (unloadTest s).line = s.line := by
  unfold unloadTest
  split
  · next unload =>
    have none : leaving .aborted .flush s = s :=
      leaving_of_no_claim (by rw [unload.1]; decide) (by rw [unload.1]; decide)
    rw [if_neg (by rw [unstaged]; decide), moveTo_slot, moveTo_line, none]
    exact ⟨rfl, rfl⟩
  · exact ⟨rfl, rfl⟩

theorem rampArrived_unstaged (unstaged : s.sequencer.staged = false) :
    (rampArrived s).slot = s.slot ∧ (rampArrived s).line = s.line := by
  have stopped := unloadTest_unstaged (s := rampStopped s) (rampStopped_staged.trans unstaged)
  rw [rampStopped_frame .slot (by decide), rampStopped_frame .line (by decide)] at stopped
  unfold rampArrived
  split
  · exact ⟨rfl, rfl⟩
  · split
    · exact stopped
    · exact ⟨rfl, rfl⟩

/-- An unload without the slot leaves slot and line as the move into it does. -/
theorem enterUnload_unstaged :
    (enterUnload false s).slot = (leaving .aborted .unload s).slot ∧
      (enterUnload false s).line = (leaving .aborted .unload s).line := by
  obtain ⟨slot, line⟩ := rampArrived_unstaged (s := unloading false s) rfl
  exact ⟨slot.trans (unloading_slot false), line.trans (unloading_line false)⟩

/-! ## The way out of a start -/

theorem leaving_of_starting {o : YieldOutcome} {x : Train} (start : s.sequencer.train.isStarting = true) :
    leaving o x s = s :=
  leaving_of_no_claim (fun e => by rw [e] at start; cases start) fun e => by rw [e] at start; cases start

theorem run_of_pumping {x : Train} (start : x.isStarting = true) (pump : x ≠ .fill) : (valveOf x).run = true := by
  cases x <;> first | rfl | exact absurd rfl pump | cases start

/-- A start left aborts to FLUSH from FILL and through UNLOAD from the phases with the pump on. -/
theorem leaveStart_eq (start : s.sequencer.train.isStarting = true) :
    leaveStart s = if s.sequencer.train = .fill then moveTo .aborted .flush s else enterUnload false s := by
  cases train : s.sequencer.train <;> simp only [leaveStart, train] <;> first | rfl | (rw [train] at start; cases start)

theorem leaveStart_train {p : Params} (start : s.sequencer.train.isStarting = true) (params : s.loader.params = some p)
    (valve : s.sequencer.valve = valveOf s.sequencer.train) : (leaveStart s).sequencer.train = s.abortsTo p := by
  rw [leaveStart_eq start, State.abortsTo]
  by_cases fill : s.sequencer.train = .fill
  · rw [if_pos fill, if_pos fill, moveTo_train]
  · rw [if_neg fill, if_neg fill, enterUnload_train false params (by rw [valve]; exact run_of_pumping start fill)]

theorem leaveStart_claims (start : s.sequencer.train.isStarting = true) :
    (leaveStart s).slot = s.slot ∧ (leaveStart s).line = s.line := by
  rw [leaveStart_eq start]
  split
  · rw [moveTo_slot, moveTo_line, leaving_of_starting start]
    exact ⟨rfl, rfl⟩
  · obtain ⟨slot, line⟩ := enterUnload_unstaged (s := s)
    rw [slot, line, leaving_of_starting start]
    exact ⟨rfl, rfl⟩

theorem unloadTest_train : (unloadTest s).sequencer.train = s.sequencer.train ∨ (unloadTest s).sequencer.train = .flush := by
  unfold unloadTest
  split
  · exact .inr (moveTo_train _ _)
  · exact .inl rfl

/-- A train that enters UNLOAD is found there or in FLUSH. -/
theorem enterUnload_cases (staged : Bool) :
    (enterUnload staged s).sequencer.train = .unload ∨ (enterUnload staged s).sequencer.train = .flush := by
  have tested := unloadTest_train (s := rampStopped (unloading staged s))
  rw [rampStopped_train, unloading_train] at tested
  rw [enterUnload_unloading]
  unfold rampArrived
  split
  · exact .inl (unloading_train staged)
  · split
    · exact tested
    · exact .inl (unloading_train staged)

theorem leaveStart_cases (start : s.sequencer.train.isStarting = true) :
    (leaveStart s).sequencer.train = .unload ∨ (leaveStart s).sequencer.train = .flush := by
  rw [leaveStart_eq start]
  split
  · exact .inr (moveTo_train _ _)
  · exact enterUnload_cases false

theorem leaveStart_not_starting (start : s.sequencer.train.isStarting = true) :
    (leaveStart s).sequencer.train.isStarting = false := by
  rcases leaveStart_cases start with h | h <;> rw [h] <;> rfl

/-! ## The slot given up (R91, R99) -/

theorem release_gives (o : YieldOutcome) {k : Kind} {hold : Timer} (view : s.slot.view = .ownHeld k hold)
    (clear : s.sequencer.conflict = false) : givesSlotUp o k s (release o s) := by
  simp only [release, view]
  exact ⟨queueYield_slot o k, queueYield_yield o k clear⟩

theorem givesSlotUp.congr {o : YieldOutcome} {k : Kind} (h : givesSlotUp o k s t) (slot : u.slot = t.slot)
    (line : u.line.set.yield = t.line.set.yield) : givesSlotUp o k s u := by
  obtain ⟨view, yield⟩ := h
  exact ⟨slot.trans view, line.trans yield⟩

/-- The end of a taking composes a waiting TALLY anew and leaves the other frames. -/
theorem finish_set (before : State) :
    (finish before s).line.set.yield = s.line.set.yield ∧ (finish before s).line.set.bid = s.line.set.bid ∧
      (finish before s).line.set.occupied = s.line.set.occupied := by
  have composed : (recomposeTally s).line.set.yield = s.line.set.yield ∧
      (recomposeTally s).line.set.bid = s.line.set.bid ∧
      (recomposeTally s).line.set.occupied = s.line.set.occupied := by
    unfold recomposeTally
    split <;> exact ⟨rfl, rfl, rfl⟩
  unfold finish
  rw [arbitrate_line]
  split
  · exact ⟨rfl, rfl, rfl⟩
  · exact composed

theorem givesSlotUp.finish {o : YieldOutcome} {k : Kind} {before : State} (h : givesSlotUp o k s t) :
    givesSlotUp o k s (Machine.finish before t) := h.congr (finish_slot before) (finish_set before).1

/-- The abort of a start gives its slot up ABORTED. -/
theorem abortStart_gives {k : Kind} {hold : Timer} (start : s.sequencer.train.isStarting = true)
    (view : s.slot.view = .ownHeld k hold) (clear : s.sequencer.conflict = false) :
    givesSlotUp .aborted k s (abortStart s) := by
  have released := release_gives .aborted view clear
  have claims := leaveStart_claims (s := release .aborted s) (by rw [release_train]; exact start)
  rw [abortStart, if_pos start]
  exact released.congr claims.1 (by rw [claims.2])

theorem release_channels (o : YieldOutcome) : (release o s).port = s.port := release_frame o .port (by decide)

theorem release_trim (o : YieldOutcome) : (release o s).trim = s.trim := release_frame o .trim (by decide)

theorem abortStart_train {p : Params} (start : s.sequencer.train.isStarting = true) (params : s.loader.params = some p)
    (valve : s.sequencer.valve = valveOf s.sequencer.train) : (abortStart s).sequencer.train = s.abortsTo p := by
  have kept : (release .aborted s).sequencer = s.sequencer := release_train .aborted
  rw [abortStart, if_pos start, leaveStart_train (by rw [kept]; exact start)
    ((congrArg Loader.params (release_frame .aborted .loader (by decide))).trans params) (by rw [kept]; exact valve)]
  exact abortsTo_congr (by rw [kept]) (by rw [release_trim]) (by rw [release_channels])

end Sys2Proof.Machine
end

section
/-! An arrival of a cause with its latch clear: the latch, the record and where the trip takes the train (R128, R148). -/

namespace Sys2Proof.Machine

open Sys2Proof

variable {s t u : State} {c : Instr} {k : Cause}

/-! ## Where a trip takes the train -/

theorem afterTrip_of_latches (latches : u.protection.latches = s.protection.latches.put k true)
    (train : u.sequencer.train = s.sequencer.train) (mark : u.sequencer.conflict = s.sequencer.conflict) :
    (sequencerTrip u).sequencer.train = s.afterTrip k := by
  have permits : u.flushPermitted = !((s.protection.latches.put k true).external ||
      (s.protection.latches.put k true).portLoss) := by
    rw [State.flushPermitted, latches, Bool.not_or]
  have ends : tripEnd u = if s.sequencer.conflict then .conflict else .tripped := by rw [tripEnd, mark]
  have target : (if u.flushPermitted then Train.flush else tripEnd u) =
      if (s.protection.latches.put k true).external || (s.protection.latches.put k true).portLoss then
        (if s.sequencer.conflict then .conflict else .tripped) else .flush := by
    rw [permits, ends]
    cases (s.protection.latches.put k true).external || (s.protection.latches.put k true).portLoss <;> rfl
  cases here : s.sequencer.train <;>
    simp only [sequencerTrip, train, here, State.afterTrip] <;> rw [here] at train
  case flush =>
    rw [← target]
    split
    · exact train
    · exact moveTo_train _ _
  all_goals rw [moveTo_train]
  all_goals exact target

theorem arrive_train (clear : s.protection.latches.get k = false) : (arrive k s).sequencer.train = s.afterTrip k := by
  rw [arrive_of_clear k clear]
  exact afterTrip_of_latches rfl rfl rfl

theorem cancelOnLeaving_not_held {o : YieldOutcome} (h : s.slot.view.isOwnHeld = false) :
    (cancelOnLeaving o s).slot.view.isOwnHeld = false := by
  have cancelled : (cancelRequest (some o) s).slot.view.isOwnHeld = false := by
    rw [cancelRequest_view]
    cases view : s.slot.view <;> first | rfl | (rw [view] at h; cases h)
  unfold cancelOnLeaving
  split <;> assumption

/-- A move holds no slot that was not held. -/
theorem moveTo_not_held {o : YieldOutcome} {x : Train} (h : s.slot.view.isOwnHeld = false) :
    (moveTo o x s).slot.view.isOwnHeld = false := by
  rw [moveTo_slot, leaving]
  split
  · exact h
  · exact cancelOnLeaving_not_held h

theorem release_not_held (o : YieldOutcome) : (release o s).slot.view.isOwnHeld = false := by
  rw [release_view]
  split
  · rfl
  · next h => simpa using h

/-- A train on its way, or running, trips with the valve word of where it goes and without the slot. -/
theorem sequencerTrip_of_working
    (h : s.sequencer.train.isStarting = true ∨ s.sequencer.train = .running ∨ s.sequencer.train = .unload) :
    (sequencerTrip s).sequencer.valve = valveOf (sequencerTrip s).sequencer.train ∧
      (sequencerTrip s).slot.view.isOwnHeld = false := by
  have moved : sequencerTrip s =
      moveTo .tripped (if s.flushPermitted then .flush else tripEnd s) (release .tripped s) := by
    cases train : s.sequencer.train <;> simp only [sequencerTrip, train] <;> simp [train, Train.isStarting] at h
  rw [moved, moveTo_train, moveTo_valve]
  exact ⟨rfl, moveTo_not_held (release_not_held _)⟩

theorem arrive_working (clear : s.protection.latches.get k = false)
    (h : s.sequencer.train.isStarting = true ∨ s.sequencer.train = .running ∨ s.sequencer.train = .unload) :
    (arrive k s).sequencer.valve = valveOf (s.afterTrip k) ∧ (arrive k s).slot.view.isOwnHeld = false := by
  rw [← arrive_train clear, arrive_of_clear k clear]
  exact sequencerTrip_of_working (s := latched k s) h

theorem arrive_counts (k : Cause) :
    (arrive k s).protection.counts = s.protection.counts.put k (min 63 (s.protection.counts.get k + 1)) := by
  rw [← satInc_eq_min]
  unfold arrive
  dsimp only
  split
  · rfl
  · exact sequencerTrip_onlyMoves.counts

theorem arrive_failures (k : Cause) : (arrive k s).sequencer.failures = s.sequencer.failures := by
  unfold arrive
  dsimp only
  split
  · rfl
  · exact sequencerTrip_onlyMoves.failures

theorem arrive_firstRaised (clear : s.protection.latches.get k = false) :
    firstRaised (.trip, s.own, k.code) s (arrive k s) := by
  rw [arrive_of_clear k clear]
  obtain ⟨-, more, queue⟩ := (sequencerTrip_offPort (s := latched k s)).logged.raised
  exact ⟨more, queue.trans (raiseAll_queue_congr more rfl rfl)⟩

theorem firstRaised.finish {r : EventKind × Nat × Nat} (before : State) (h : firstRaised r s t) :
    firstRaised r s (Machine.finish before t) := by
  obtain ⟨more, queue⟩ := h
  exact ⟨more, (finish_queue before).trans queue⟩

theorem arrive_runPermit (before : State) (k : Cause) : (finish before (arrive k s)).runPermit = false :=
  runPermit_of_latched (k := k) (by rw [finish_protection, arrive_latches]; simp)

/-! ## The seven commands -/

/-- Each of the seven commands makes its cause arrive with the conflict mark as it is, and a start's timeout counts one
failure more. -/
theorem exec_arrival (h : s.arrivalOf c = some k) :
    ∃ u, ReadyForArrival s u ∧ exec c s = .next (finish s (arrive k u)) ∧
      u.sequencer.conflict = s.sequencer.conflict ∧ u.queue = s.queue ∧ u.time = s.time ∧ u.ident = s.ident ∧
      u.sequencer.failures =
        if c = .pressurizeTimeout ∨ c = .divertTimeout then min 63 (s.sequencer.failures + 1) else s.sequencer.failures := by
  unfold State.arrivalOf at h
  split at h
  -- any other command makes no cause arrive by itself
  case h_8 => cases h
  all_goals obtain ⟨runs, ⟨⟩⟩ := Option.ite_none_right_eq_some.mp h
  -- Protection's timers
  case h_1 | h_2 | h_3 =>
    obtain ⟨timer, runs⟩ := Option.isSome_iff_exists.mp runs
    simp only [exec, execLowSuctionExpiry, execQualityTripExpiry, execInstrumentExpiry, runs]
    refine ⟨_, ?_, rfl, rfl, rfl, rfl, rfl, by simp⟩
    exact ReadyForArrival.of_protection rfl rfl
  -- the timeouts of a start and of an unload
  case h_4 | h_5 =>
    refine ⟨_, ?_, if_pos runs, rfl, rfl, rfl, rfl, by simp [satInc_eq_min]⟩
    exact ReadyForArrival.of_sequencer rfl rfl
  case h_6 =>
    refine ⟨_, ?_, if_pos runs, rfl, rfl, rfl, rfl, by simp⟩
    exact ReadyForArrival.of_sequencer rfl rfl
  -- TRIP-IN
  case h_7 =>
    obtain ⟨ended, clear⟩ : s.loadEnded = true ∧ s.protection.extFlag = false := by simpa using runs
    exact ⟨_, ReadyForArrival.of_tripIn true true, execTripInChange_of_asserted ended clear, rfl, rfl, rfl, rfl, by simp⟩

/-- Settles O34: the seven commands ready the arrival, and the arrival does the rest. -/
theorem arrivingCauseLatchesAndTripsTheTrain : Obligations.ArrivingCauseLatchesAndTripsTheTrain := by
  intro c k s arrival clear
  obtain ⟨u, ready, run, mark, queue, time, ident, failures⟩ := exec_arrival arrival
  have still : u.protection.latches.get k = false := by rw [ready.latches]; exact clear
  have goes : u.afterTrip k = s.afterTrip k := by
    unfold State.afterTrip
    rw [ready.latches, ready.train, mark]
  refine ⟨_, run, ?_, ?_, ?_, arrive_runPermit s k, ?_, fun working => ?_, ?_, ?_⟩
  · rw [finish_protection, arrive_latches, ready.latches]
  · rw [finish_protection, arrive_counts, ready.counts]
  · obtain ⟨more, raised⟩ := arrive_firstRaised still
    refine ⟨more, ?_⟩
    rw [finish_queue, raised, State.own, ident]
    exact raiseAll_queue_congr _ queue time
  · rw [finish_sequencer, arrive_train still, goes]
  · rw [← ready.train] at working
    obtain ⟨valve, slot⟩ := arrive_working still working
    rw [finish_sequencer, finish_slot, valve, goes]
    exact ⟨rfl, slot⟩
  · rw [finish_sequencer, arrive_failures, failures]
  · exact (ready.frame.mono (by decide)).trans
      (((arrive_frame k).mono (by decide)).trans ((finish_frame s).mono (by decide)))

end Sys2Proof.Machine
end

section
/-! The start of the pump, the PRESSURIZE test and the entry to RUNNING (R113 to R116). -/

namespace Sys2Proof.Machine

open Sys2Proof

variable {s t u : State} {p : Params}

/-! ## The pump comes on (R113) -/

theorem afterRunOn_frame_on : changesOnly [.trim, .protection, .port] s (afterRunOn s) :=
  ((trimStart_frame.mono (by decide)).trans (judgeLowSuction_frame.mono (by decide))).trans
    (judgeInstrument_frame.mono (by decide))

theorem setValve_frame_of_on {v : Valve} (on : v.run = true) (off : s.sequencer.valve.run = false) :
    changesOnly [.sequencer, .trim, .protection, .port] s (setValve v s) := by
  have written : changesOnly [.sequencer, .port] s
      (writeValve v { s with sequencer := { s.sequencer with valve := v } }) :=
    ((sequencer_frame _).mono (by decide)).trans ((port_frame _).mono (by decide))
  unfold setValve
  rw [if_neg fun e => by rw [e, off] at on; cases on]
  dsimp only
  rw [if_pos (by rw [on, off]; rfl)]
  exact (written.mono (by decide)).trans (afterRunOn_frame_on.mono (by decide))

/-- A start's move that turns the pump on. -/
theorem moveTo_frame_of_on {o : YieldOutcome} {x : Train} (same : leaving o x s = s) (on : (valveOf x).run = true)
    (off : s.sequencer.valve.run = false) (still : s.sequencer.train ≠ .running) :
    changesOnly [.sequencer, .trim, .protection, .port, .lport, .queue] s (moveTo o x s) := by
  have set : changesOnly [.sequencer, .trim, .protection, .port] s (setValve (valveOf x)
      { s with sequencer := { s.sequencer with train := x, phase := phaseTimerOf x s, quality := none, staged := false } }) :=
    ((sequencer_frame _).mono (by decide)).trans (setValve_frame_of_on on off)
  have entered : changesOnly [.sequencer, .trim, .protection, .port] s (entering o x s) := by
    unfold entering
    rw [same]
    exact (set.mono (by decide)).trans ((trimFor_frame x).mono (by decide))
  rw [moveTo_eq, if_neg fun k => still k.1]
  exact (entered.mono (by decide)).trans ((noteChange_frame s).mono (by decide))

/-! ## The PRESSURIZE test (R114, R115) -/

theorem pressureTest_iff :
    s.pressureTest p ↔
      s.chanValid 1 = true ∧ s.chanValid 5 = true ∧ p.pRunMin ≤ s.chan 5 ∧ (p.qmin : Int) - p.settleBand ≤ s.chan 1 := by
  unfold State.pressureTest
  have sums : (p.qmin : Int) - p.settleBand ≤ s.chan 1 ↔ p.qmin ≤ s.chan 1 + p.settleBand := by omega
  rw [sums]

theorem pressurizeTest_of_fails (params : s.loader.params = some p)
    (h : ¬(s.sequencer.train = .pressurize ∧ s.pressureTest p)) : pressurizeTest s = s := by
  rw [pressureTest_iff] at h
  simp only [pressurizeTest, params]
  exact if_neg h

theorem divertQuality_frame_sequencer : changesOnly [.sequencer] s (divertQuality s) := by
  unfold divertQuality
  split
  · exact changesOnly_refl _ _
  · split
    · exact sequencer_frame _
    · exact changesOnly_refl _ _

/-- The state in DIVERT before the conductivity is looked at. -/
theorem moveTo_divert (params : s.loader.params = some p) (train : s.sequencer.train = .pressurize)
    (run : s.sequencer.valve.run = true) :
    changesOnly [.sequencer, .port, .lport, .queue] s (moveTo .aborted .divert s) ∧
      (moveTo .aborted .divert s).sequencer =
        { s.sequencer with
          train := .divert, valve := valveOf .divert, phase := some { since := s.time, span := p.tDivert * 1024 },
          quality := none, staged := false } ∧
      Records [(.stateChange, s.own, s.ownCode * 16 + 3)] s (moveTo .aborted .divert s) := by
  have same : leaving .aborted .divert s = s := leaving_of_starting (by rw [train]; rfl)
  refine ⟨fun b hb => ?_, ?_, ?_⟩
  · by_cases trim : b = .trim
    · subst trim
      exact moveTo_trim_of_same_run run.symm
    · exact moveTo_frame_of_same_run same run.symm (by rw [train]; decide) b (by revert hb trim; cases b <;> decide)
  · rw [moveTo_sequencer, if_neg fun k => absurd (train.symm.trans k.1) (by decide)]
    simp only [phaseTimerOf, params, phaseSeconds, Option.bind_some, startTimer, seconds]
  · refine (moveTo_records .aborted .divert).cast ?_
    rw [moveRecords_of_phase (by rw [train]; decide)]
    simp only [State.codeIn, State.ownCode, train]
    rfl

theorem pressurizeTest_of_holds (params : s.loader.params = some p) (train : s.sequencer.train = .pressurize)
    (test : s.pressureTest p) (valve : s.sequencer.valve = valveOf .pressurize) :
    changesOnly [.sequencer, .port, .lport, .queue] s (pressurizeTest s) ∧
      (pressurizeTest s).sequencer = s.pressureReached p s.sequencer ∧
      Records [(.stateChange, s.own, s.ownCode * 16 + 3)] s (pressurizeTest s) := by
  obtain ⟨frame, sequencer, records⟩ := moveTo_divert params train (by rw [valve]; rfl)
  have channels : (moveTo .aborted .divert s).port.channels = s.port.channels := (moveTo_offPort _ _).channels
  have valid : (moveTo .aborted .divert s).chanValid 2 = s.chanValid 2 := by simp only [State.chanValid, channels]
  have value : (moveTo .aborted .divert s).chan 2 = s.chan 2 := by simp only [State.chan, channels]
  have loader : (moveTo .aborted .divert s).loader.params = some p :=
    (congrArg Loader.params (moveTo_loader .aborted .divert)).trans params
  have time : (moveTo .aborted .divert s).time = s.time := records.time
  have passes : pressurizeTest s =
      if s.chanValid 2 then divertQuality (moveTo .aborted .divert s) else moveTo .aborted .divert s := by
    rw [← valid]
    simp only [pressurizeTest, params]
    exact if_pos ⟨train, pressureTest_iff.mp test⟩
  have word : valveOf .divert = s.sequencer.valve := valve.symm
  rw [passes]
  split
  · next good =>
    refine ⟨frame.trans (divertQuality_frame_sequencer.mono (by decide)), ?_,
      (records.trans (.of_frame divertQuality_frame_sequencer (by decide) (by decide))).cast (List.append_nil _)⟩
    simp only [divertQuality, loader, if_true, value, time, sequencer, word, State.pressureReached, good,
      startTimer, seconds, Option.orElse_none, true_and]
  · next bad =>
    refine ⟨frame, ?_, records⟩
    rw [sequencer, word, State.pressureReached, if_neg fun k => bad k.1]

/-- Settles O56: the pump comes on, then the test on the channels as they stand. -/
theorem fillExpiryStartsThePump : Obligations.FillExpiryStartsThePump := by
  intro p s fill phase params clear valve test on
  let counted : State := { s with sequencer := { s.sequencer with starts := satInc 65535 s.sequencer.starts } }
  let pumping : State := moveTo .aborted .pressurize counted
  have run : exec .fillExpiry s = .next (finish s (pressurizeTest pumping)) := if_pos (inPhase_of fill phase)
  have off : counted.sequencer.valve.run = false := by show s.sequencer.valve.run = false; rw [valve]; rfl
  have same : leaving .aborted .pressurize counted = counted :=
    leaving_of_starting (show s.sequencer.train.isStarting = true by rw [fill]; rfl)
  have frame : changesOnly [.sequencer, .trim, .protection, .port, .lport, .queue] s pumping :=
    ((sequencer_frame _).mono (by decide)).trans
      (moveTo_frame_of_on same rfl off (show s.sequencer.train ≠ .running by rw [fill]; decide))
  have loader : pumping.loader.params = some p := (congrArg Loader.params (frame .loader (by decide))).trans params
  have train : pumping.sequencer.train = .pressurize := moveTo_train _ _
  have sequencer : pumping.sequencer =
      { s.sequencer with
        train := .pressurize, starts := min 65535 (s.sequencer.starts + 1), valve := on,
        phase := some { since := s.time, span := p.tPress * 1024 }, quality := none, staged := false } := by
    show (moveTo .aborted .pressurize counted).sequencer = _
    rw [moveTo_sequencer, if_neg fun k => absurd (fill.symm.trans k.1) (by decide)]
    simp only [counted, phaseTimerOf, params, phaseSeconds, Option.bind_some, startTimer, seconds, satInc_eq_min]
    rfl
  have trim : pumping.trim =
      { mode := .trimQmin, s := p.sStart, qEff := s.chan 1, last := some s.time, hold := .clear, settle := none,
        settled := false, sat := none } := by
    show (moveTo .aborted .pressurize counted).trim = _
    rw [moveTo_trim, setValve_trim, if_neg (by rw [off]; decide),
      if_pos (show (valveOf .pressurize).run = true from rfl)]
    simp only [counted, trimStart, params]
    rfl
  have records : Records [(.stateChange, s.own, 50)] s pumping := by
    have moved := moveTo_records (s := counted) .aborted .pressurize
    rw [moveRecords_of_phase (s := counted) (show Train.phaseCode .pressurize ≠ s.sequencer.train.phaseCode by rw [fill]; decide),
      codeIn_of_clear (show counted.sequencer.conflict = false from clear)] at moved
    exact ⟨moved.time, moved.queue⟩
  have channels : pumping.port.channels = s.port.channels := (moveTo_offPort (s := counted) _ _).channels
  have tested : pumping.pressureTest p ↔ test := by
    simp only [State.pressureTest, State.chanValid, State.chan, channels, test]
  have latches : pumping.protection.latches = s.protection.latches := moveTo_latches (s := counted) _ _
  by_cases holds : test
  · obtain ⟨passed, reached, noted⟩ := pressurizeTest_of_holds loader train (tested.mpr holds) (by rw [sequencer]; rfl)
    have whole : changesOnly [.sequencer, .trim, .protection, .port, .lport, .queue] s (pressurizeTest pumping) :=
      frame.trans (passed.mono (by decide))
    refine ⟨_, run, finish_changes whole (whole .slot (by decide)) (by decide) (by decide), ?_, ?_,
      fun no => absurd holds no, fun _ => ⟨?_, ?_⟩⟩
    · rw [finish_trim]
      exact (passed .trim (by decide)).trans trim
    · rw [finish_protection]
      exact (congrArg Protection.latches (passed .protection (by decide))).trans latches
    · rw [finish_sequencer, reached, sequencer]
      simp only [State.pressureReached, State.chanValid, State.chan, channels, records.time]
      rfl
    · rw [finish_queue]
      have code : pumping.ownCode * 16 + 3 = 51 := by simp [State.ownCode, sequencer, clear, Train.code]
      have own : pumping.own = s.own := congrArg (fun i : Ident => stationNumber i.station) (frame .ident (by decide))
      rw [code, own] at noted
      exact (records.trans noted).queue
  · have stays : pressurizeTest pumping = pumping :=
      pressurizeTest_of_fails loader fun k => holds (tested.mp k.2)
    rw [stays] at run
    refine ⟨_, run, finish_changes frame (frame .slot (by decide)) (by decide) (by decide), ?_, ?_,
      fun _ => ⟨?_, ?_⟩, fun yes => absurd yes holds⟩
    · rw [finish_trim]; exact trim
    · rw [finish_protection]; exact latches
    · rw [finish_sequencer]; exact sequencer
    · rw [finish_queue]; exact records.queue

end Sys2Proof.Machine
end

section
/-! The entry to RUNNING with its share, and the rest timer: the statement on the two timers of the way to RUNNING and
READY. -/

namespace Sys2Proof.Machine

open Sys2Proof

variable {s t u : State} {p : Params}

/-! ## What the share depends on (R82, R83) -/

/-- The fields of an entry that the sums of the share read. -/
structure SameInPlant (i : Station) (s t : State) : Prop where
  validity : (t.entry i).validity = (s.entry i).validity
  signature : (t.entry i).tally.signature = (s.entry i).tally.signature
  stateCode : (t.entry i).tally.stateCode = (s.entry i).tally.stateCode
  qmin : (t.entry i).tally.qmin = (s.entry i).tally.qmin
  qmaxAvail : (t.entry i).tally.qmaxAvail = (s.entry i).tally.qmaxAvail

/-- Demand, capability, roster, Sequencer, parameters and station settle the share. -/
def shareBlocks : List Block := [.time, .pins, .staging, .slot, .trim, .protection, .line, .port, .lport, .queue, .pending]

theorem sameInPlant (h : changesOnly shareBlocks s t) (i : Station) : SameInPlant i s t := by
  have ident : t.ident = s.ident := h .ident (by decide)
  have roster : t.roster = s.roster := h .roster (by decide)
  have loader : t.loader = s.loader := h .loader (by decide)
  have sequencer : t.sequencer = s.sequencer := h .sequencer (by decide)
  have capability : t.capability = s.capability := h .capability (by decide)
  by_cases own : i = s.ident.station
  · subst own
    by_cases ended : s.loadEnded = true
    · have ended' : t.loadEnded = true := by rw [State.loadEnded, loader]; exact ended
      constructor <;>
        simp [State.entry, ident, ended, ended', State.ownTally, State.ownCode, sequencer, loader, capability]
    · have ended' : ¬t.loadEnded = true := by rw [State.loadEnded, loader]; exact ended
      constructor <;> simp [State.entry, ident, ended, ended']
  · have own' : i ≠ t.ident.station := by rw [ident]; exact own
    have same : t.entry i = s.entry i := by simp [State.entry, own, own', roster]
    exact ⟨by rw [same], by rw [same], by rw [same], by rw [same], by rw [same]⟩

theorem runningSet_congr (h : changesOnly shareBlocks s t) : t.runningSet = s.runningSet := by
  have loader : t.loader = s.loader := h .loader (by decide)
  refine List.filter_congr fun i _ => ?_
  obtain ⟨validity, signature, stateCode, -, -⟩ := sameInPlant h i
  simp only [State.countsInPlant, TallyBody.matchesSig, validity, signature, stateCode, loader]

theorem share_congr (h : changesOnly shareBlocks s t) : t.share p = s.share p := by
  have demand : t.demand = s.demand := h .demand (by decide)
  have capability : t.capability = s.capability := h .capability (by decide)
  have low : t.sMinSum = s.sMinSum := by
    rw [State.sMinSum, State.sMinSum, runningSet_congr h]
    exact congrArg List.sum (List.map_congr_left fun i _ => (sameInPlant h i).qmin)
  have span : t.spanSum = s.spanSum := by
    rw [State.spanSum, State.spanSum, runningSet_congr h]
    refine congrArg List.sum (List.map_congr_left fun i _ => ?_)
    rw [(sameInPlant h i).qmin, (sameInPlant h i).qmaxAvail]
  simp only [State.share, demand, capability, low, span]

/-! ## The share in RUNNING -/

theorem setSp_trim_of_unsettled (v : Nat) (settle : s.trim.settle = none) (settled : s.trim.settled = false) :
    (setSp v s).trim = s.trim := by
  have same : ({ s.trim with settle := none, settled := false } : Trim) = s.trim := by
    rw [← settle, ← settled]
  unfold setSp
  dsimp only
  split
  · split
    · exact same
    · rfl
  · split
    · exact same
    · rfl

theorem computeShare_of_running (params : s.loader.params = some p) (running : s.sequencer.train = .running) :
    computeShare s = setSp (s.share p) s := by
  simp [computeShare, params, running]

theorem computeShare_of_not_running (h : s.sequencer.train ≠ .running) : computeShare s = s := by
  unfold computeShare
  split
  · rw [if_neg h]
  · rfl

/-! ## The entry to RUNNING (R116) -/

theorem runningSequencer_eq (params : s.loader.params = some p) (divert : s.sequencer.train = .divert) :
    runningSequencer s =
      { s.sequencer with
        train := .running, valve := { feed := true, dump := false, flush := false, run := true }, phase := none,
        quality := none, staged := false, minRun := some { since := s.time, span := p.minRunMin * 60 * 1024 },
        minRunMet := false, failures := 0, intPoint := some s.time } := by
  unfold runningSequencer
  rw [moveTo_sequencer, if_neg fun k => absurd (divert.symm.trans k.1) (by decide)]
  simp only [params, startTimer, seconds, phaseTimerOf, phaseSeconds, Option.bind_none]
  rfl

/-- The trim toward SP, its watches stopped. -/
theorem runningEntered_trim (valve : s.sequencer.valve = valveOf .divert) :
    (runningEntered s).trim = { s.trim with mode := .trimSp, settle := none, settled := false, sat := none } := by
  rw [runningEntered, judgeQualityTrip_frame .trim (by decide), release_trim]
  exact moveTo_trim_of_same_run (by rw [valve]; rfl)

/-- The base of a release may be replaced by a state with the same slot, clock, parameters and identifier. -/
theorem givesSlotUp.rebase {o : YieldOutcome} {k : Kind} {bs : List Block} (h : givesSlotUp o k u t) (frame : changesOnly bs s u)
    (slot : Block.slot ∉ bs) (loader : Block.loader ∉ bs) (time : Block.time ∉ bs) (ident : Block.ident ∉ bs) :
    givesSlotUp o k s t := by
  obtain ⟨view, yield⟩ := h
  have hs : u.slot = s.slot := frame .slot slot
  have hl : u.loader = s.loader := frame .loader loader
  have ht : u.time = s.time := frame .time time
  have hi : u.ident = s.ident := frame .ident ident
  simp only [State.gapStarted, State.tGap, hs, hl, ht, hi] at view yield
  exact ⟨view, yield⟩

/-- The move to RUNNING with its sequencer, before the release. -/
theorem runningPlaced_frame (divert : s.sequencer.train = .divert) (valve : s.sequencer.valve = valveOf .divert) :
    changesOnly [.sequencer, .trim, .port, .lport, .queue] s
      { moveTo .aborted .running s with sequencer := runningSequencer s } := by
  have same : leaving .aborted .running s = s := leaving_of_starting (by rw [divert]; rfl)
  have moved := moveTo_frame_of_same_run (o := .aborted) (x := .running) same (by rw [valve]; rfl) (by rw [divert]; decide)
  exact moved.trans ((sequencer_frame _).mono (by decide))

/-- From DIVERT the move to RUNNING keeps the run command on. -/
theorem runningEntered_frame (divert : s.sequencer.train = .divert) (valve : s.sequencer.valve = valveOf .divert) :
    changesOnly [.slot, .sequencer, .trim, .protection, .line, .port, .lport, .queue] s (runningEntered s) :=
  ((runningPlaced_frame divert valve).mono (by decide)).trans
    (((release_frame _).mono (by decide)).trans (judgeQualityTrip_frame.mono (by decide)))

theorem runningSequencer_conflict : (runningSequencer s).conflict = s.sequencer.conflict := moveTo_conflict .aborted .running

theorem runningEntered_gives {k : Kind} {hold : Timer} (divert : s.sequencer.train = .divert)
    (valve : s.sequencer.valve = valveOf .divert) (view : s.slot.view = .ownHeld k hold)
    (clear : s.sequencer.conflict = false) : givesSlotUp .completed k s (runningEntered s) := by
  have placed := runningPlaced_frame divert valve
  have held : ({ moveTo .aborted .running s with sequencer := runningSequencer s } : State).slot.view = .ownHeld k hold :=
    (congrArg Slot.view (placed .slot (by decide))).trans view
  have gives := release_gives .completed held (runningSequencer_conflict.trans clear)
  refine (gives.congr ?_ ?_).rebase placed (by decide) (by decide) (by decide) (by decide)
  · exact judgeQualityTrip_frame .slot (by decide)
  · rw [runningEntered, judgeQualityTrip_frame .line (by decide)]

theorem runningEntered_claims (divert : s.sequencer.train = .divert) (valve : s.sequencer.valve = valveOf .divert)
    (free : s.slot.view.isOwnHeld = false) : (runningEntered s).slot = s.slot ∧ (runningEntered s).line = s.line := by
  have placed := runningPlaced_frame divert valve
  have slot : ({ moveTo .aborted .running s with sequencer := runningSequencer s } : State).slot = s.slot :=
    placed .slot (by decide)
  have line : ({ moveTo .aborted .running s with sequencer := runningSequencer s } : State).line = s.line :=
    placed .line (by decide)
  rw [runningEntered, release_of_not_held .completed (by rw [slot]; exact free), judgeQualityTrip_frame .slot (by decide),
    judgeQualityTrip_frame .line (by decide)]
  exact ⟨slot, line⟩

theorem runningEntered_records (divert : s.sequencer.train = .divert) (clear : s.sequencer.conflict = false) :
    Records [(.stateChange, s.own, 64)] s (runningEntered s) := by
  have moved := moveTo_records (s := s) .aborted .running
  rw [moveRecords_of_code clear (by rw [divert]; decide)] at moved
  have placed : Records [(.stateChange, s.own, 64)] s { moveTo .aborted .running s with sequencer := runningSequencer s } :=
    ⟨moved.time, moved.queue⟩
  refine ((placed.trans (.of_frame (release_frame .completed) (by decide) (by decide))).trans
    (.of_frame judgeQualityTrip_frame (by decide) (by decide))).cast ?_
  rfl

/-- RUNNING with its share, before an overflow that holds is acted on. -/
def runningShared (s : State) : State := computeShare (runningEntered s)

theorem enterRunning_shared : enterRunning s = overflowCheck (runningShared s) := rfl

theorem overflowCheck_of_calm (h : s.demand.overflow = false) : overflowCheck s = s := if_neg (by rw [h]; decide)

theorem overflowCheck_of_running (overflow : s.demand.overflow = true) (running : s.sequencer.train = .running) :
    overflowCheck s = enterUnload false s := by rw [overflowCheck, if_pos overflow, if_pos running]

/-- What RUNNING with its share is, from DIVERT. -/
structure RunningShared (p : Params) (s t : State) : Prop where
  frame : changesOnly [.staging, .slot, .sequencer, .trim, .protection, .line, .port, .lport, .queue] s t
  sequencer : t.sequencer =
    { s.sequencer with
      train := .running, valve := { feed := true, dump := false, flush := false, run := true }, phase := none,
      quality := none, staged := false, minRun := some { since := s.time, span := p.minRunMin * 60 * 1024 },
      minRunMet := false, failures := 0, intPoint := some s.time }
  trim : t.trim = { s.trim with mode := .trimSp, settle := none, settled := false, sat := none }
  staging : t.staging = { s.staging with sp := t.share p }
  channels : t.port.channels = s.port.channels
  gives : ∀ k hold, s.slot.view = .ownHeld k hold → s.sequencer.conflict = false → givesSlotUp .completed k s t
  claims : s.slot.view.isOwnHeld = false → t.slot = s.slot ∧ t.line = s.line

theorem runningShared_spec (params : s.loader.params = some p) (divert : s.sequencer.train = .divert)
    (valve : s.sequencer.valve = valveOf .divert) : RunningShared p s (runningShared s) := by
  have frame := runningEntered_frame divert valve
  have loader : (runningEntered s).loader.params = some p := (congrArg Loader.params runningEntered_loader).trans params
  have running : (runningEntered s).sequencer.train = .running := by
    rw [runningEntered_sequencer, runningSequencer_eq params divert]
  have shared : runningShared s = setSp ((runningEntered s).share p) (runningEntered s) :=
    computeShare_of_running loader running
  have changed : changesOnly [.staging, .trim] (runningEntered s) (runningShared s) := computeShare_frame
  refine ⟨(frame.mono (by decide)).trans (changed.mono (by decide)), ?_, ?_, ?_, ?_, fun k hold view clear => ?_, fun free => ?_⟩
  · rw [changed .sequencer (by decide), runningEntered_sequencer, runningSequencer_eq params divert]
  · rw [shared, setSp_trim_of_unsettled _ (by rw [runningEntered_trim valve]) (by rw [runningEntered_trim valve]),
      runningEntered_trim valve]
  · rw [share_congr (changed.mono (by decide)), shared]
    show ({ (runningEntered s).staging with sp := (runningEntered s).share p } : Staging) = _
    rw [frame .staging (by decide)]
  · rw [changed .port (by decide), runningEntered, judgeQualityTrip_frame .port (by decide), release_channels]
    exact (moveTo_offPort .aborted .running).channels
  · exact (runningEntered_gives divert valve view clear).congr (changed .slot (by decide))
      (by rw [changed .line (by decide)])
  · obtain ⟨slot, line⟩ := runningEntered_claims divert valve free
    exact ⟨(changed .slot (by decide)).trans slot, (changed .line (by decide)).trans line⟩

theorem runningShared_records (divert : s.sequencer.train = .divert) (clear : s.sequencer.conflict = false) :
    Records [(.stateChange, s.own, 64)] s (runningShared s) :=
  ((runningEntered_records divert clear).trans
    (.of_frame (computeShare_frame (s := runningEntered s)) (by decide) (by decide))).cast rfl

end Sys2Proof.Machine
end

section
/-! The way from RUNNING into UNLOAD, exactly, and the two timers of the way to RUNNING and READY. -/

namespace Sys2Proof.Machine

open Sys2Proof

variable {s t u : State} {p : Params}

/-! ## From RUNNING into UNLOAD -/

theorem unloadsTo_cases (p : Params) : s.unloadsTo p = .unload ∨ s.unloadsTo p = .flush := by
  unfold State.unloadsTo
  split
  · exact .inr rfl
  · exact .inl rfl

theorem unloading_sequencer (staged : Bool) (params : s.loader.params = some p) (running : s.sequencer.train = .running) :
    (unloading staged s).sequencer =
      { s.sequencer with
        train := .unload, valve := valveOf .unload, phase := some { since := s.time, span := p.tUnload * 1024 },
        quality := none, staged := staged, minRun := none, minRunMet := false, intPoint := none } := by
  show ({ (moveTo .aborted .unload s).sequencer with staged := staged } : Sequencer) = _
  rw [moveTo_sequencer, if_pos ⟨running, by decide⟩]
  simp only [phaseTimerOf, params, phaseSeconds, Option.bind_some, startTimer, seconds]

theorem unloading_staging (staged : Bool) (running : s.sequencer.train = .running) :
    (unloading staged s).staging = { s.staging with sp := 0 } := by
  show (moveTo .aborted .unload s).staging = _
  rw [moveTo_staging, if_pos ⟨running, by decide⟩]

theorem rampStopped_sequencer :
    (rampStopped s).sequencer = { s.sequencer with valve := { s.sequencer.valve with run := false } } :=
  setValve_sequencer _

/-- FLUSH from UNLOAD: the Sequencer's move alone, beside the slot of a staged stop. -/
theorem unloadEnded_sequencer (params : s.loader.params = some p) (unload : s.sequencer.train = .unload) :
    (unloadEnded s).sequencer =
      { s.sequencer with
        train := .flush, valve := valveOf .flush, phase := some { since := s.time, span := p.tFlush * 1024 },
        quality := none, staged := false } := by
  have sequencer : (if s.sequencer.staged then release .completed s else s).sequencer = s.sequencer := by
    split
    · exact release_train _
    · rfl
  have loader : (if s.sequencer.staged then release .completed s else s).loader.params = some p := by
    split
    · exact (congrArg Loader.params (release_frame .completed .loader (by decide))).trans params
    · exact params
  have time : (if s.sequencer.staged then release .completed s else s).time = s.time := by
    split
    · exact release_frame .completed .time (by decide)
    · rfl
  rw [unloadEnded, moveTo_sequencer, sequencer, if_neg fun k => absurd (unload.symm.trans k.1) (by decide)]
  simp only [phaseTimerOf, loader, phaseSeconds, Option.bind_some, startTimer, seconds, time]

theorem unloadEnded_staging (unload : s.sequencer.train = .unload) : (unloadEnded s).staging = s.staging := by
  have same : (if s.sequencer.staged then release .completed s else s).staging = s.staging ∧
      (if s.sequencer.staged then release .completed s else s).sequencer = s.sequencer := by
    split
    · exact ⟨release_frame _ .staging (by decide), release_train _⟩
    · exact ⟨rfl, rfl⟩
  rw [unloadEnded, moveTo_staging, same.2, if_neg fun k => absurd (unload.symm.trans k.1) (by decide), same.1]

/-- The Sequencer after a RUNNING train has entered UNLOAD, or passed through it. -/
def Sequencer.unloaded (p : Params) (staged : Bool) (s : State) (q : Sequencer) : Sequencer :=
  if s.unloadsTo p = .flush then
    { q with
      train := .flush, valve := { feed := false, dump := true, flush := true, run := false },
      phase := some { since := s.time, span := p.tFlush * 1024 }, quality := none, staged := false, minRun := none,
      minRunMet := false, intPoint := none }
  else
    { q with
      train := .unload, valve := { feed := true, dump := true, flush := false, run := s.trim.s ≠ p.sStart },
      phase := some { since := s.time, span := p.tUnload * 1024 }, quality := none, staged := staged, minRun := none,
      minRunMet := false, intPoint := none }

theorem Sequencer.unloaded_stopped (staged : Bool) (q : Sequencer) :
    (q.unloaded p staged s).minRun = none ∧ (q.unloaded p staged s).minRunMet = false ∧
      (q.unloaded p staged s).intPoint = none ∧ (q.unloaded p staged s).failures = q.failures := by
  unfold Sequencer.unloaded
  split <;> exact ⟨rfl, rfl, rfl, rfl⟩

theorem Sequencer.unloaded_unstaged (q : Sequencer) : (q.unloaded p false s).staged = false := by
  unfold Sequencer.unloaded
  split <;> rfl

theorem unloading_loader (staged : Bool) : (unloading staged s).loader = s.loader := moveTo_loader .aborted .unload

theorem rampStopped_unloading_loader (staged : Bool) : (rampStopped (unloading staged s)).loader = s.loader :=
  (rampStopped_frame .loader (by decide)).trans (unloading_loader staged)

theorem unloading_frame (staged : Bool) : changesOnly trainBlocks s (unloading staged s) :=
  (moveTo_frame _ _).trans ((sequencer_frame _).mono (by decide))

theorem unloading_onlyMoves (staged : Bool) : OnlyMoves s (unloading staged s) := by
  refine (moveTo_onlyMoves .aborted .unload).trans ?_
  exact ⟨rfl, rfl, rfl⟩

theorem rampStopped_onlyMoves : OnlyMoves s (rampStopped s) := setValve_onlyMoves _

theorem own_congr (h : t.ident = s.ident) : t.own = s.own := by rw [State.own, State.own, h]

theorem unloading_time (staged : Bool) : (unloading staged s).time = s.time := moveTo_frame .aborted .unload .time (by decide)

theorem enterUnload_sequencer (staged : Bool) (params : s.loader.params = some p) (run : s.sequencer.valve.run = true)
    (running : s.sequencer.train = .running) :
    (enterUnload staged s).sequencer = s.sequencer.unloaded p staged s := by
  have loader : (rampStopped (unloading staged s)).loader.params = some p :=
    (congrArg Loader.params (rampStopped_unloading_loader staged)).trans params
  have time : (rampStopped (unloading staged s)).time = s.time :=
    (rampStopped_frame .time (by decide)).trans (unloading_time staged)
  rw [enterUnload_eq staged params run, Sequencer.unloaded, unloadsTo_eq]
  by_cases arrived : s.trim.s = p.sStart
  · cases rests : s.driveRests with
    | true =>
      simp only [arrived, if_true, true_and]
      rw [unloadEnded_sequencer loader (rampStopped_train.trans (unloading_train staged)), rampStopped_sequencer,
        unloading_sequencer staged params running, time]
      rfl
    | false =>
      simp only [arrived, if_true, true_and, Bool.false_eq_true, if_false]
      rw [rampStopped_sequencer, unloading_sequencer staged params running]
      simp [valveOf]
  · simp only [arrived, if_false, false_and]
    rw [unloading_sequencer staged params running]
    simp [valveOf, arrived]

theorem enterUnload_staging (staged : Bool) (params : s.loader.params = some p) (run : s.sequencer.valve.run = true)
    (running : s.sequencer.train = .running) : (enterUnload staged s).staging = { s.staging with sp := 0 } := by
  have stopped : (rampStopped (unloading staged s)).staging = { s.staging with sp := 0 } :=
    (rampStopped_frame .staging (by decide)).trans (unloading_staging staged running)
  rw [enterUnload_eq staged params run]
  split
  · split
    · rw [unloadEnded_staging (rampStopped_train.trans (unloading_train staged)), stopped]
    · exact stopped
  · exact unloading_staging staged running

/-! ## The records of the way -/

theorem unloading_records (staged : Bool) (other : s.sequencer.train.phaseCode ≠ 4) :
    Records [(.stateChange, s.own, s.codeIn .unload * 16 + 4)] s (unloading staged s) := by
  have moved := moveTo_records (s := s) .aborted .unload
  rw [moveRecords_of_phase (Ne.symm other)] at moved
  exact ⟨moved.time, moved.queue⟩

theorem rampStopped_silent : Records [] s (rampStopped s) := .of_frame rampStopped_frame (by decide) (by decide)

theorem unloadEnded_records (unload : s.sequencer.train = .unload) :
    Records [(.stateChange, s.own, s.codeIn .flush * 16 + 5)] s (unloadEnded s) := by
  have silent : changesOnly [.slot, .line] s (if s.sequencer.staged then release .completed s else s) := by
    split
    · exact release_frame _
    · exact changesOnly_refl _ _
  have sequencer : (if s.sequencer.staged then release .completed s else s).sequencer = s.sequencer :=
    silent .sequencer (by decide)
  have moved := moveTo_records (s := if s.sequencer.staged then release .completed s else s) .aborted .flush
  rw [moveRecords_of_phase (by rw [sequencer, unload]; decide)] at moved
  refine ((Records.of_frame silent (by decide) (by decide)).trans moved).cast ?_
  rw [State.codeIn, State.codeIn, sequencer, State.own, silent .ident (by decide)]
  rfl

theorem codeIn_congr {x : Train} (mark : t.sequencer.conflict = s.sequencer.conflict) : t.codeIn x = s.codeIn x := by
  rw [State.codeIn, State.codeIn, mark]

theorem OnlyMoves.codeIn {x : Train} (h : OnlyMoves s t) : t.codeIn x = s.codeIn x := codeIn_congr h.mark

theorem enterUnload_records (staged : Bool) (params : s.loader.params = some p) (run : s.sequencer.valve.run = true)
    (other : s.sequencer.train.phaseCode ≠ 4) :
    Records
      ((.stateChange, s.own, s.codeIn .unload * 16 + 4) ::
        if s.unloadsTo p = .flush then [(.stateChange, s.own, s.codeIn .flush * 16 + 5)] else []) s
      (enterUnload staged s) := by
  have first := unloading_records staged other
  have stopped : Records [(.stateChange, s.own, s.codeIn .unload * 16 + 4)] s (rampStopped (unloading staged s)) :=
    (first.trans rampStopped_silent).cast rfl
  rw [enterUnload_eq staged params run, unloadsTo_eq]
  by_cases arrived : s.trim.s = p.sStart
  · cases rests : s.driveRests with
    | true =>
      simp only [arrived, if_true, true_and]
      have frame : changesOnly trainBlocks s (rampStopped (unloading staged s)) :=
        (unloading_frame staged).trans (rampStopped_frame.mono (by decide))
      have moves : OnlyMoves s (rampStopped (unloading staged s)) :=
        (unloading_onlyMoves staged).trans rampStopped_onlyMoves
      have last := unloadEnded_records (s := rampStopped (unloading staged s))
        (rampStopped_train.trans (unloading_train staged))
      rw [moves.codeIn, own_congr (frame .ident (by decide))] at last
      exact stopped.trans last
    | false =>
      simp only [arrived, if_true, true_and, Bool.false_eq_true, if_false]
      exact stopped
  · simp only [arrived, if_false, false_and]
    exact first

/-! ## The rest timer (R110) -/

theorem restTimerExpiry_ready {timer : Timer} (runs : s.sequencer.rest = .running timer)
    (rest : s.sequencer.train = .rest) (valve : s.sequencer.valve = valveOf .rest) (clear : s.sequencer.conflict = false) :
    ∃ t, exec .restTimerExpiry s = .next t ∧ changesOnly [.sequencer, .port, .lport, .queue] s t ∧
      t.sequencer =
        { s.sequencer with train := .ready, phase := none, quality := none, staged := false, rest := .expired } ∧
      t.queue = s.queueAfter [(.stateChange, s.own, 32)] := by
  let marked : State := { s with sequencer := { s.sequencer with rest := .expired } }
  have run : exec .restTimerExpiry s = .next (finish s (moveTo .aborted .ready marked)) := by
    simp only [exec, execRestTimerExpiry, runs]
    rw [if_pos rest]
  have same : leaving .aborted .ready marked = marked :=
    leaving_of_no_claim (show s.sequencer.train ≠ .ready by rw [rest]; decide) (show s.sequencer.train ≠ .running by rw [rest]; decide)
  have frame : changesOnly [.sequencer, .port, .lport, .queue] s (moveTo .aborted .ready marked) :=
    ((sequencer_frame _).mono (by decide)).trans (moveTo_frame_of_off same
      (show s.sequencer.valve.run = false by rw [valve]; rfl) rfl (show s.sequencer.train ≠ .running by rw [rest]; decide))
  have moved := moveTo_records (s := marked) .aborted .ready
  rw [moveRecords_of_code (s := marked) clear (show Train.code .ready ≠ s.sequencer.train.code by rw [rest]; decide)] at moved
  refine ⟨_, run, finish_changes frame (frame .slot (by decide)) (by decide) (by decide), ?_, ?_⟩
  · rw [finish_sequencer, moveTo_sequencer, if_neg fun k => absurd (rest.symm.trans k.1) (by decide),
      phaseTimerOf_parked (x := .ready) rfl]
    simp only [marked, valve]
    rfl
  · rw [finish_queue]
    exact moved.queue

theorem restTimerExpiry_marks {timer : Timer} (runs : s.sequencer.rest = .running timer)
    (other : s.sequencer.train ≠ .rest) :
    ∃ t, exec .restTimerExpiry s = .next t ∧ changesOnly [.sequencer, .port] s t ∧
      t.sequencer = { s.sequencer with rest := .expired } := by
  have run : exec .restTimerExpiry s =
      .next (finish s { s with sequencer := { s.sequencer with rest := .expired } }) := by
    simp only [exec, execRestTimerExpiry, runs]
    rw [if_neg other]
  exact ⟨_, run, finish_changes (sequencer_frame _) rfl (by decide) (by decide), finish_sequencer s⟩

/-! ## The quality timer (R116, R125) -/

theorem exec_qualityTimerExpiry (divert : s.sequencer.train = .divert) (quality : s.sequencer.quality.isSome = true) :
    exec .qualityTimerExpiry s = .next (finish s (overflowCheck (runningShared s))) := by
  obtain ⟨timer, runs⟩ := Option.isSome_iff_exists.mp quality
  simp only [exec, execQualityTimerExpiry, divert, runs, enterRunning_shared]

theorem RunningShared.loader (h : RunningShared p s t) : t.loader = s.loader := h.frame .loader (by decide)

theorem qualityTimerExpiry_runs (params : s.loader.params = some p) (clear : s.sequencer.conflict = false)
    (divert : s.sequencer.train = .divert) (quality : s.sequencer.quality.isSome = true)
    (valve : s.sequencer.valve = valveOf .divert) (calm : s.demand.overflow = false) :
    ∃ t, exec .qualityTimerExpiry s = .next t ∧
      changesOnly [.staging, .slot, .sequencer, .trim, .protection, .line, .port, .lport, .queue] s t ∧
      t.sequencer =
        { s.sequencer with
          train := .running, valve := { feed := true, dump := false, flush := false, run := true }, phase := none,
          quality := none, staged := false,
          minRun := some { since := s.time, span := p.minRunMin * 60 * 1024 }, minRunMet := false, failures := 0,
          intPoint := some s.time } ∧
      t.trim = { s.trim with mode := .trimSp, settle := none, settled := false, sat := none } ∧
      t.staging = { s.staging with sp := t.share p } ∧
      (∀ k hold, s.slot.view = .ownHeld k hold →
        t.slot = { s.slot with view := .free, gap := s.gapStarted } ∧
          t.line.set.yield = some { uid := s.ident.uid, outcome := .completed, kind := k }) ∧
      (s.slot.view.isOwnHeld = false → t.slot = s.slot ∧ t.line = s.line) ∧
      t.queue = s.queueAfter [(.stateChange, s.own, 64)] := by
  have shared := runningShared_spec params divert valve
  have run := exec_qualityTimerExpiry divert quality
  rw [overflowCheck_of_calm (by rw [shared.frame .demand (by decide)]; exact calm)] at run
  refine ⟨_, run, shared.frame.trans ((finish_frame s).mono (by decide)), ?_, ?_, ?_, fun k hold view => ?_, fun free => ?_, ?_⟩
  · rw [finish_sequencer]; exact shared.sequencer
  · rw [finish_trim]; exact shared.trim
  · rw [finish_staging, share_congr ((finish_frame s).mono (by decide))]
    exact shared.staging
  · exact (shared.gives k hold view clear).finish
  · obtain ⟨slot, line⟩ := shared.claims free
    exact ⟨(finish_slot s).trans slot, (finish_line_of_slot_kept (s := runningShared s) (before := s) slot).trans line⟩
  · rw [finish_queue]
    exact (runningShared_records divert clear).queue

theorem qualityTimerExpiry_unloads (params : s.loader.params = some p) (clear : s.sequencer.conflict = false)
    (divert : s.sequencer.train = .divert) (quality : s.sequencer.quality.isSome = true)
    (valve : s.sequencer.valve = valveOf .divert) (overflow : s.demand.overflow = true) :
    ∃ t, exec .qualityTimerExpiry s = .next t ∧
      changesOnly
        [.capability, .staging, .slot, .sequencer, .trim, .protection, .line, .port, .lport, .queue] s t ∧
      t.sequencer.train = s.unloadsTo p ∧ t.sequencer.staged = false ∧ t.sequencer.failures = 0 ∧
      t.sequencer.minRun = none ∧ t.sequencer.minRunMet = false ∧ t.sequencer.intPoint = none ∧
      t.staging = { s.staging with sp := 0 } ∧
      (∀ k hold, s.slot.view = .ownHeld k hold → givesSlotUp .completed k s t) ∧
      t.queue = s.queueAfter
        ([(.stateChange, s.own, 64), (.stateChange, s.own, 84)] ++
          if s.unloadsTo p = .flush then [(.stateChange, s.own, 85)] else []) := by
  have shared := runningShared_spec params divert valve
  have running : (runningShared s).sequencer.train = .running := by rw [shared.sequencer]
  have on : (runningShared s).sequencer.valve.run = true := by rw [shared.sequencer]
  have mark : (runningShared s).sequencer.conflict = false := by rw [shared.sequencer]; exact clear
  have loader : (runningShared s).loader.params = some p := by rw [shared.loader]; exact params
  have goes : (runningShared s).unloadsTo p = s.unloadsTo p :=
    unloadsTo_congr (by rw [shared.trim]) shared.channels
  have run := exec_qualityTimerExpiry divert quality
  rw [overflowCheck_of_running (by rw [shared.frame .demand (by decide)]; exact overflow) running] at run
  have sequencer := enterUnload_sequencer false loader on running
  have unloads := enterUnload_unstaged (s := runningShared s)
  have records := (runningShared_records divert clear).trans
    (enterUnload_records false loader on (by rw [running]; decide))
  rw [codeIn_of_clear mark, codeIn_of_clear mark, own_congr (shared.frame .ident (by decide)), goes] at records
  obtain ⟨minRun, minRunMet, intPoint, failures⟩ :=
    Sequencer.unloaded_stopped (s := runningShared s) (p := p) false (runningShared s).sequencer
  refine ⟨_, run, (shared.frame.mono (by decide)).trans
    (((enterUnload_frame false).mono (by decide)).trans ((finish_frame s).mono (by decide))), ?_, ?_, ?_, ?_, ?_, ?_, ?_,
    fun k hold view => ?_, ?_⟩
  · rw [finish_sequencer, enterUnload_train false loader on, goes]
  · rw [finish_sequencer, sequencer, Sequencer.unloaded_unstaged]
  · rw [finish_sequencer, sequencer, failures, shared.sequencer]
  · rw [finish_sequencer, sequencer, minRun]
  · rw [finish_sequencer, sequencer, minRunMet]
  · rw [finish_sequencer, sequencer, intPoint]
  · rw [finish_staging, enterUnload_staging false loader on running, shared.staging]
  · have gives := shared.gives k hold view clear
    have free : ∀ q, (runningShared s).slot.view ≠ .ownPending q := fun q e => by
      rw [gives.1] at e
      cases e
    rw [leaving_of_not_pending free] at unloads
    exact (gives.congr unloads.1 (by rw [unloads.2])).finish
  · rw [finish_queue]
    exact records.queue

/-- Settles O57: the quality timer with and without an overflow, and the rest timer in REST and elsewhere. -/
theorem timersTakeTheTrainToRunningAndReady : Obligations.TimersTakeTheTrainToRunningAndReady := by
  intro p s params clear
  refine ⟨fun divert quality valve calm => qualityTimerExpiry_runs params clear divert quality valve calm,
    fun divert quality valve overflow => qualityTimerExpiry_unloads params clear divert quality valve overflow,
    fun timer runs => ⟨fun rest valve => restTimerExpiry_ready runs rest valve clear,
      fun other => restTimerExpiry_marks runs other⟩⟩

end Sys2Proof.Machine
end

section
/-! Moves without an own claim leave slot and line as they are; with that, the withdrawal of the slot: an OCCUPIED against
a holder, and the duplicate station (R60, R94, R95, R127, R131). -/

namespace Sys2Proof.Machine

open Sys2Proof

variable {s t u : State} {p : Params} {o : YieldOutcome} {x : Train}

/-! ## Slot and line of a part without a claim -/

/-- Slot and line are as they were. -/
structure SameClaims (s t : State) : Prop where
  slot : t.slot = s.slot
  line : t.line = s.line

theorem SameClaims.refl (s : State) : SameClaims s s := ⟨rfl, rfl⟩

theorem SameClaims.trans (h : SameClaims s t) (k : SameClaims t u) : SameClaims s u :=
  ⟨k.slot.trans h.slot, k.line.trans h.line⟩

theorem SameClaims.of_frame {bs : List Block} (h : changesOnly bs s t) (slot : Block.slot ∉ bs) (line : Block.line ∉ bs) :
    SameClaims s t := ⟨h .slot slot, h .line line⟩

theorem SameClaims.ite {c : Prop} [Decidable c] (h : SameClaims s t) (k : SameClaims s u) :
    SameClaims s (if c then t else u) := by
  split
  · exact h
  · exact k

/-- The view is neither OWN_PENDING nor OWN_HELD. -/
def State.unclaimed (s : State) : Prop := s.slot.view.isOwn = false

theorem SameClaims.unclaimed (h : SameClaims s t) (k : s.unclaimed) : t.unclaimed := by
  unfold State.unclaimed
  rw [h.slot]
  exact k

theorem State.unclaimed.not_held (h : s.unclaimed) : s.slot.view.isOwnHeld = false := by
  unfold State.unclaimed at h
  cases view : s.slot.view <;> rw [view] at h <;> first | rfl | cases h

theorem State.unclaimed.not_pending (h : s.unclaimed) (q : PendingView) : s.slot.view ≠ .ownPending q := fun e => by
  unfold State.unclaimed at h
  rw [e] at h
  cases h

theorem moveTo_claims (same : leaving o x s = s) : SameClaims s (moveTo o x s) :=
  ⟨by rw [moveTo_slot, same], by rw [moveTo_line, same]⟩

theorem moveTo_claims_of_unclaimed (h : s.unclaimed) : SameClaims s (moveTo o x s) :=
  moveTo_claims (leaving_of_not_pending h.not_pending)

theorem release_claims (h : s.unclaimed) : SameClaims s (release o s) := by
  rw [release_of_not_held o h.not_held]
  exact .refl s

theorem unloadTest_claims (h : s.unclaimed) : SameClaims s (unloadTest s) := by
  have released : SameClaims s (if s.sequencer.staged then release .completed s else s) := .ite (release_claims h) (.refl s)
  exact .ite (released.trans (moveTo_claims_of_unclaimed (released.unclaimed h))) (.refl s)

theorem rampStopped_claims : SameClaims s (rampStopped s) := .of_frame rampStopped_frame (by decide) (by decide)

theorem rampArrived_claims (h : s.unclaimed) : SameClaims s (rampArrived s) := by
  unfold rampArrived
  split
  · exact .refl s
  · exact .ite (rampStopped_claims.trans (unloadTest_claims (rampStopped_claims.unclaimed h))) (.refl s)

theorem enterUnload_claims (h : s.unclaimed) (staged : Bool) : SameClaims s (enterUnload staged s) := by
  have begun : SameClaims s (unloading staged s) := by
    refine (moveTo_claims_of_unclaimed (o := .aborted) (x := .unload) h).trans ?_
    exact ⟨rfl, rfl⟩
  exact begun.trans (rampArrived_claims (begun.unclaimed h))

theorem leaveStart_of_not_starting (h : s.sequencer.train.isStarting = false) : leaveStart s = s := by
  cases train : s.sequencer.train <;> simp only [leaveStart, train] <;> (rw [train] at h; cases h)

/-- A start is left with slot and line as they are: what gives the slot up goes before. -/
theorem leaveStart_sameClaims : SameClaims s (leaveStart s) := by
  cases start : s.sequencer.train.isStarting with
  | true => exact ⟨(leaveStart_claims start).1, (leaveStart_claims start).2⟩
  | false => rw [leaveStart_of_not_starting start]; exact .refl s

theorem abortStart_claims (h : s.unclaimed) : SameClaims s (abortStart s) :=
  .ite ((release_claims h).trans leaveStart_sameClaims) (.refl s)

theorem overflowCheck_claims (h : s.unclaimed) : SameClaims s (overflowCheck s) :=
  .ite (.ite (enterUnload_claims h false) (abortStart_claims h)) (.refl s)

theorem sequencerTrip_claims (h : s.unclaimed) : SameClaims s (sequencerTrip s) := by
  have released := (release_claims (o := .tripped) h)
  have started : SameClaims s (startRest s) := .of_frame startRest_frame (by decide) (by decide)
  unfold sequencerTrip
  split <;> first
    | exact released.trans (moveTo_claims_of_unclaimed (released.unclaimed h))
    | exact .ite (.refl s) (started.trans (moveTo_claims_of_unclaimed (started.unclaimed h)))
    | exact moveTo_claims_of_unclaimed h
    | exact .refl s

theorem arrive_claims (h : s.unclaimed) (c : Cause) : SameClaims s (arrive c s) := by
  unfold arrive
  dsimp only
  split
  · exact ⟨rfl, rfl⟩
  · refine SameClaims.trans (t := latched c s) ⟨rfl, rfl⟩ (sequencerTrip_claims (s := latched c s) h)

theorem runningEntered_sameClaims (h : s.unclaimed) : SameClaims s (runningEntered s) := by
  have moved : SameClaims s { moveTo .aborted .running s with sequencer := runningSequencer s } := by
    refine (moveTo_claims_of_unclaimed (o := .aborted) (x := .running) h).trans ?_
    exact ⟨rfl, rfl⟩
  exact (moved.trans (release_claims (moved.unclaimed h))).trans
    (.of_frame judgeQualityTrip_frame (by decide) (by decide))

theorem enterRunning_claims (h : s.unclaimed) : SameClaims s (enterRunning s) := by
  have shared : SameClaims s (runningShared s) :=
    (runningEntered_sameClaims h).trans (.of_frame computeShare_frame (by decide) (by decide))
  exact shared.trans (overflowCheck_claims (shared.unclaimed h))

/-! ## The withdrawal where two holders meet (R127) -/

theorem withdrawSlot_claims : SameClaims s (withdrawSlot s) := .ite ⟨rfl, rfl⟩ leaveStart_sameClaims

theorem withdrawSlot_onlyMoves : OnlyMoves s (withdrawSlot s) := .ite ⟨rfl, rfl, rfl⟩ leaveStart_onlyMoves

theorem withdrawSlot_of_starting (start : s.sequencer.train.isStarting = true) : withdrawSlot s = leaveStart s :=
  if_neg fun e => by rw [e] at start; cases start

theorem withdrawSlot_not_starting : (withdrawSlot s).sequencer.train.isStarting = false := by
  unfold withdrawSlot
  split
  · next unload => show s.sequencer.train.isStarting = false; rw [unload]; rfl
  · cases start : s.sequencer.train.isStarting with
    | true => exact leaveStart_not_starting start
    | false => rw [leaveStart_of_not_starting start]; exact start

/-- The holder of the higher number gives way: the view taken over, a YIELD, SLOT_LOST. -/
def givesWay (k : Kind) (y : Station) (h : HeldView) (s : State) : State :=
  raise .slotLost (stationNumber y) k.code (queueYield .aborted k (viewHeld h s))

theorem givesWay_frame (k : Kind) (y : Station) (h : HeldView) :
    changesOnly [.staging, .slot, .line, .lport, .queue] s (givesWay k y h s) :=
  ((viewHeld_frame _).mono (by decide)).trans
    (((queueYield_frame _ _).mono (by decide)).trans ((raise_frame _ _ _).mono (by decide)))

theorem twoHolders_of_lower {k xk : Kind} {y : Station} {uid : UnitId} {r : Nat} (lower : s.ident.station < y) :
    twoHolders k y uid xk r s = queueOccupied s := if_pos lower

theorem twoHolders_of_higher {k xk : Kind} {y : Station} {uid : UnitId} {r : Nat} (higher : y < s.ident.station) :
    twoHolders k y uid xk r s = withdrawSlot (givesWay k y (reportedView y uid xk r s) s) :=
  if_neg (Fin.not_lt.mpr (Fin.le_of_lt higher))

theorem givesWay_slot (k : Kind) (y : Station) (h : HeldView) :
    (givesWay k y h s).slot = { s.slot with view := .held h, gap := none } :=
  (congrArg State.slot (rfl : givesWay k y h s = raise _ _ _ (queueYield .aborted k (viewHeld h s)))).trans
    (queueYield_slot .aborted k)

theorem givesWay_yield (k : Kind) (y : Station) (h : HeldView) (clear : s.sequencer.conflict = false) :
    (givesWay k y h s).line.set.yield = some { uid := s.ident.uid, outcome := .aborted, kind := k } :=
  queueYield_yield (s := viewHeld h s) .aborted k clear

theorem givesWay_records (k : Kind) (y : Station) (h : HeldView) :
    Records [(.slotLost, y.val + 1, k.code)] s (givesWay k y h s) := by
  have silent : Records [] s (queueYield .aborted k (viewHeld h s)) :=
    .of_frame (((viewHeld_frame h).mono (by decide)).trans ((queueYield_frame _ _).mono (by decide)))
      (bs := [.staging, .slot, .line]) (by decide) (by decide)
  exact silent.trans (Records.raise .slotLost (stationNumber y) k.code)

/-- What follows records is a longer list that begins with them. -/
theorem Records.first {r : EventKind × Nat × Nat} (h : Records [r] s t) (k : Logged t u) : firstRaised r s u := by
  obtain ⟨-, more, queue, -⟩ := k
  exact ⟨more, queue.trans (raiseAll_queue_congr more h.queue (by rw [h.time]; rfl))⟩

theorem firstRaised.rebase {r : EventKind × Nat × Nat} (h : firstRaised r s t) (queue : s.queue = u.queue)
    (time : s.time = u.time) : firstRaised r u t := by
  obtain ⟨more, raised⟩ := h
  exact ⟨more, raised.trans (raiseAll_queue_congr _ queue time)⟩

theorem withdrawSlot_logged : Logged s (withdrawSlot s) := withdrawSlot_offPort.logged

/-! ## OCCUPIED (R94, R95) -/

theorem takeOccupied_of_free {y : Station} {b : OccupiedBody} (view : s.slot.view = .free) :
    takeOccupied y b s = viewHeld (reportedView y b.uid b.kind b.remaining s) s := by
  simp [takeOccupied, view]

theorem takeOccupied_of_held {y : Station} {b : OccupiedBody} {h : HeldView} (view : s.slot.view = .held h) :
    takeOccupied y b s =
      if h.station = y then refreshHeld h b.kind b.remaining s
      else viewHeld (reportedView y b.uid b.kind b.remaining s) s := by
  simp [takeOccupied, view]

theorem takeOccupied_of_pending {y : Station} {b : OccupiedBody} {q : PendingView} (view : s.slot.view = .ownPending q) :
    takeOccupied y b s = loseClaim q y (reportedView y b.uid b.kind b.remaining s) s := by
  simp [takeOccupied, view]

theorem takeOccupied_of_holder {y : Station} {b : OccupiedBody} {k : Kind} {hold : Timer}
    (view : s.slot.view = .ownHeld k hold) :
    takeOccupied y b s = twoHolders k y b.uid b.kind b.remaining s := by
  simp [takeOccupied, view]

theorem givesWay_sequencer (k : Kind) (y : Station) (h : HeldView) : (givesWay k y h s).sequencer = s.sequencer :=
  givesWay_frame k y h .sequencer (by decide)

theorem withdrawn_train {k : Kind} {y : Station} {h : HeldView} (start : s.sequencer.train.isStarting = true)
    (params : s.loader.params = some p) (valve : s.sequencer.valve = valveOf s.sequencer.train) :
    (withdrawSlot (givesWay k y h s)).sequencer.train = s.abortsTo p := by
  have frame := givesWay_frame (s := s) k y h
  have sequencer := givesWay_sequencer (s := s) k y h
  rw [withdrawSlot_of_starting (by rw [sequencer]; exact start),
    leaveStart_train (by rw [sequencer]; exact start) ((congrArg Loader.params (frame .loader (by decide))).trans params)
      (by rw [sequencer]; exact valve)]
  refine abortsTo_congr (by rw [sequencer]) ?_ ?_
  · rw [frame .trim (by decide)]
  · rw [frame .port (by decide)]

/-- Settles O39: the four views, and of two holders the lower and the higher. -/
theorem occupiedActsByTheView : Obligations.OccupiedActsByTheView := by
  intro rx f b s accepted cls body ended foreign expiry taken
  obtain ⟨l, -, run⟩ := receive_foreign accepted ended foreign
  rw [handOnForeign_occupied cls body] at run
  let w : State := s.withLine l
  refine ⟨_, run, fun view => ?_, fun h view => ?_, fun q view => ?_, fun k hold view clear => ⟨fun lower => ?_, fun higher => ?_⟩⟩
  · rw [finish_slot, finish_queue, takeOccupied_of_free (s := s.withLine l) view]
    exact ⟨rfl, rfl, rfl⟩
  · rw [finish_sequencer, finish_slot, finish_queue, takeOccupied_of_held (s := s.withLine l) view]
    refine ⟨?_, ?_, fun same => ?_, fun other => ?_⟩
    · split <;> rfl
    · split <;> rfl
    · rw [if_pos same]; rfl
    · rw [if_neg other]; rfl
  · rw [finish_sequencer, finish_slot, finish_queue, (finish_set s).2.1, takeOccupied_of_pending (s := s.withLine l) view]
    refine ⟨rfl, viewHeld_bid_of_own (s := w) (reportedView f.station b.uid b.kind b.remaining w)
      (by rw [show w.slot.view = .ownPending q from view]; rfl), rfl, ?_⟩
    exact (loseClaim_queue (s := w) q f.station _).trans (raiseAll_queue_congr _ rfl rfl)
  · have answers : takeOccupied f.station b w = queueOccupied w :=
      (takeOccupied_of_holder (s := w) view).trans (twoHolders_of_lower (s := w) lower)
    rw [finish_sequencer, finish_slot, finish_queue, (finish_set s).2.2, answers, queueOccupied_slot, queueOccupied_queue,
      queueOccupied_of_held (s := w) view clear, queueOccupied_frame .sequencer (by decide)]
    exact ⟨rfl, rfl, rfl, rfl⟩
  · have yields : takeOccupied f.station b w =
        withdrawSlot (givesWay k f.station (reportedView f.station b.uid b.kind b.remaining w) w) :=
      (takeOccupied_of_holder (s := w) view).trans (twoHolders_of_higher (s := w) higher)
    rw [finish_sequencer, finish_slot, (finish_set s).1, yields]
    have claims := withdrawSlot_claims (s := givesWay k f.station (reportedView f.station b.uid b.kind b.remaining w) w)
    have sequencer := givesWay_sequencer (s := w) k f.station (reportedView f.station b.uid b.kind b.remaining w)
    refine ⟨?_, ?_, withdrawSlot_not_starting, ?_, fun p start params valve => ?_, fun unload => ?_, ?_⟩
    · rw [claims.slot, givesWay_slot]; rfl
    · rw [claims.line]
      exact givesWay_yield (s := w) _ _ _ clear
    · rw [withdrawSlot_onlyMoves.failures, sequencer]; rfl
    · exact (withdrawn_train (s := w) start params valve).trans rfl
    · rw [withdrawSlot, if_pos (by rw [sequencer]; exact unload)]
      exact congrArg (fun q : Sequencer => { q with staged := false }) sequencer
    · have first := (givesWay_records (s := w) k f.station (reportedView f.station b.uid b.kind b.remaining w)).first
        withdrawSlot_logged
      exact (first.rebase (u := s) rfl rfl).finish s

end Sys2Proof.Machine
end

section
/-! The slot's way out at a duplicate station and at the own hold's expiry (R60, R61, R100, R105, R127, R131). -/

namespace Sys2Proof.Machine

open Sys2Proof

variable {s t u : State} {p : Params} {o : YieldOutcome} {x : Train}

/-! ## CONFLICT -/

/-- The state of a first detection before the wind-down: recorded, marked, silent and without a slot. -/
def conflictBegun (cls : Nat) (s : State) : State :=
  dropSlot (silenceLine (noteChange s
    { raiseOwn .duplicateStation cls s with sequencer := { s.sequencer with conflict := true } }))

theorem enterConflict_of_clear (cls : Nat) (clear : s.sequencer.conflict = false) :
    enterConflict cls s = windDown (conflictBegun cls s) := if_neg (by rw [clear]; decide)

theorem enterConflict_of_marked (cls : Nat) (mark : s.sequencer.conflict = true) : enterConflict cls s = s := if_pos mark

theorem conflictBegun_sequencer (cls : Nat) :
    (conflictBegun cls s).sequencer = { s.sequencer with conflict := true } := by
  unfold conflictBegun
  rw [dropSlot_frame .sequencer (by decide)]
  exact noteChange_frame s .sequencer (by decide)

/-- Where the wind-down takes the train (R131). -/
theorem windDown_train :
    ((s.sequencer.train = .rest ∨ s.sequencer.train = .ready ∨ s.sequencer.train = .withheld ∨
        s.sequencer.train = .unconfigured) → (windDown s).sequencer.train = .conflict) ∧
      ((s.sequencer.train = .tripped ∨ s.sequencer.train = .flush ∨ s.sequencer.train = .unload) →
        (windDown s).sequencer.train = s.sequencer.train) ∧
      (s.sequencer.train = .fill → (windDown s).sequencer.train = .flush) ∧
      ((s.sequencer.train = .pressurize ∨ s.sequencer.train = .divert ∨ s.sequencer.train = .running) →
        (windDown s).sequencer.train = .unload ∨ (windDown s).sequencer.train = .flush) := by
  refine ⟨fun h => ?_, fun h => ?_, fun h => ?_, fun h => ?_⟩
  · rcases h with h | h | h | h <;> simp only [windDown, h] <;> exact moveTo_train _ _
  · rcases h with h | h | h <;> simp only [windDown, h] <;> exact h
  · simp only [windDown, h, leaveStart]
    exact moveTo_train _ _
  · rcases h with h | h | h <;> simp only [windDown, h]
    · exact leaveStart_cases (by rw [h]; rfl)
    · exact leaveStart_cases (by rw [h]; rfl)
    · exact enterUnload_cases false

theorem conflict_firstRaised (cls : Nat) :
    firstRaised (.duplicateStation, s.own, cls) s (windDown (conflictBegun cls s)) := by
  have marked : Records [(.duplicateStation, s.own, cls)] s
      { raiseOwn .duplicateStation cls s with sequencer := { s.sequencer with conflict := true } } := ⟨rfl, rfl⟩
  have noted := noteChange_offPort (s := { raiseOwn .duplicateStation cls s with sequencer := { s.sequencer with conflict := true } }) s
  have dropped : Logged (silenceLine (noteChange s
      { raiseOwn .duplicateStation cls s with sequencer := { s.sequencer with conflict := true } })) (conflictBegun cls s) := by
    have frame := dropSlot_frame (s := silenceLine (noteChange s
      { raiseOwn .duplicateStation cls s with sequencer := { s.sequencer with conflict := true } }))
    exact Logged.of_eq (frame .time (by decide)) (frame .queue (by decide)) (frame .lport (by decide))
  have silenced : ∀ w : State, Logged w (silenceLine w) := fun w => Logged.of_eq rfl rfl rfl
  exact marked.first (((noted.logged.trans (silenced _)).trans dropped).trans windDown_offPort.logged)

theorem receive_duplicate {rx : List RxChar} {f : RxFrame} (accepted : receive rx = .accepted f) (ended : s.loadEnded = true)
    (own : f.station = s.ident.station) (foreign : f.uid ≠ s.ident.uid) :
    ∃ l : Line, exec (.duplicateStation rx) s = .next (finish s (enterConflict f.cls (s.withLine l))) := by
  obtain ⟨l, hears, -⟩ := heard_of_other (s := s) (f := f) (by simp [State.isOwnEcho, foreign])
  have handed : handOn f (s.withLine l) = enterConflict f.cls (s.withLine l) := by
    unfold handOn
    rw [show (s.withLine l).loadEnded = true from ended]
    exact (if_neg (by decide)).trans ((if_pos own).trans (if_neg foreign))
  refine ⟨l, ?_⟩
  rw [← handed, ← hears, ← receiveFrame_of_accepted accepted]
  rfl

/-- The entry of a part in CONFLICT, its load ended, reports state code 8 (R49, R60). -/
theorem own_stateCode_of_marked (mark : s.sequencer.conflict = true) (ended : s.loadEnded = true) :
    s.ownCode = 8 ∧ (s.entry s.ident.station).tally.stateCode = 8 := by
  have code : s.ownCode = 8 := if_pos mark
  refine ⟨code, ?_⟩
  rw [entry_own_tally ended]
  exact code

/-- Settles O42: the silence by the conflict law, which every command keeps and the clear mark meets before. -/
theorem duplicateStationEntersConflict : Obligations.DuplicateStationEntersConflict := by
  intro rx f s accepted ended own foreign
  obtain ⟨l, run⟩ := receive_duplicate accepted ended own foreign
  let w : State := s.withLine l
  refine ⟨_, run, fun mark => ?_, fun clear => ?_⟩
  · rw [enterConflict_of_marked (s := s.withLine l) f.cls mark]
    exact heard_changes (l := l) (changesOnly_refl [] _) (by decide) (by decide) (by decide)
  · have keeps := exec_keeps run fun _ _ e => by cases e
    obtain ⟨u, -, -, silence, -⟩ := keeps.steps
    have enters := enterConflict_of_clear (s := s.withLine l) f.cls clear
    have begun := conflictBegun_sequencer (s := s.withLine l) f.cls
    have train : (conflictBegun f.cls (s.withLine l)).sequencer.train = s.sequencer.train := by rw [begun]; rfl
    have mark : (finish s (enterConflict f.cls (s.withLine l))).sequencer.conflict = true := by
      rw [finish_sequencer, enters, windDown_offPort.mark, begun]
    obtain ⟨set, tx, tally, view, still⟩ := silence (fun k => absurd (clear.symm.trans k) (by decide)) mark
    obtain ⟨code, entry⟩ := own_stateCode_of_marked mark still
    have ident : (finish s (enterConflict f.cls (s.withLine l))).ident = s.ident := keeps.ident
    rw [ident] at entry
    have goes := windDown_train (s := conflictBegun f.cls (s.withLine l))
    rw [train] at goes
    refine ⟨mark, code, entry, ?_, set, tx, tally, view, ?_⟩
    · rw [enters]
      exact ((conflict_firstRaised (s := s.withLine l) f.cls).rebase (u := s) rfl rfl).finish s
    · rw [finish_sequencer, enters]
      exact goes

end Sys2Proof.Machine
end

section
/-! The own hold's expiry: the slot given up, and the start that trips (R100, R116, R127). -/

namespace Sys2Proof.Machine

open Sys2Proof

variable {s t u : State} {p : Params} {k : Cause}

/-! ## SP on the way out of RUNNING -/

theorem moveTo_sp_zero {o : YieldOutcome} {x : Train}
    (h : s.sequencer.train = .running ∧ x ≠ .running ∨ s.staging.sp = 0) : (moveTo o x s).staging.sp = 0 := by
  rw [moveTo_sp]
  split
  · rfl
  · next out => exact h.resolve_left out

theorem unloadTest_sp_zero (h : s.staging.sp = 0) : (unloadTest s).staging.sp = 0 := by
  unfold unloadTest
  split
  · refine moveTo_sp_zero (.inr ?_)
    split
    · rw [release_frame .completed .staging (by decide)]; exact h
    · exact h
  · exact h

theorem enterUnload_sp_zero (staged : Bool) (running : s.sequencer.train = .running) :
    (enterUnload staged s).staging.sp = 0 := by
  have begun : (unloading staged s).staging.sp = 0 := moveTo_sp_zero (.inl ⟨running, by decide⟩)
  rw [enterUnload_unloading]
  unfold rampArrived
  split
  · exact begun
  · split
    · refine unloadTest_sp_zero (s := rampStopped (unloading staged s)) ?_
      rw [rampStopped_frame .staging (by decide)]
      exact begun
    · exact begun

theorem sequencerTrip_sp_zero (h : s.sequencer.train = .running ∨ s.staging.sp = 0) :
    (sequencerTrip s).staging.sp = 0 := by
  by_cases running : s.sequencer.train = .running
  · simp only [sequencerTrip, running]
    refine moveTo_sp_zero (.inl ⟨?_, afterFlush_target.running⟩)
    rw [release_train]
    exact running
  · have zero : s.staging.sp = 0 := h.resolve_left running
    have released : (release .tripped s).staging.sp = 0 := by rw [release_frame .tripped .staging (by decide)]; exact zero
    have rested : (startRest s).staging.sp = 0 := by rw [startRest_frame .staging (by decide)]; exact zero
    unfold sequencerTrip
    split <;> first
      | exact moveTo_sp_zero (.inr released)
      | exact moveTo_sp_zero (.inr zero)
      | exact zero
      | (split
         · exact zero
         · exact moveTo_sp_zero (.inr rested))

theorem arrive_sp_zero (clear : s.protection.latches.get k = false) (h : s.sequencer.train = .running ∨ s.staging.sp = 0) :
    (arrive k s).staging.sp = 0 := by
  rw [arrive_of_clear k clear]
  exact sequencerTrip_sp_zero (s := latched k s) h

/-! ## RUNNING as a start reaches it -/

theorem runningShared_latches : (runningShared s).protection.latches = s.protection.latches := by
  rw [runningShared, computeShare_frame .protection (by decide), runningEntered, judgeQualityTrip_latches,
    release_latches]
  exact moveTo_latches .aborted .running

theorem runningShared_sequencer : (runningShared s).sequencer = runningSequencer s := by
  rw [runningShared, computeShare_frame .sequencer (by decide), runningEntered_sequencer]

theorem enterRunning_latches : (enterRunning s).protection.latches = s.protection.latches := by
  rw [enterRunning_shared, overflowCheck_onlyMoves.latches, runningShared_latches]

theorem enterRunning_failures : (enterRunning s).sequencer.failures = 0 := by
  rw [enterRunning_shared, overflowCheck_onlyMoves.failures, runningShared_sequencer]
  rfl

theorem runningShared_frame : changesOnly trainBlocks s (runningShared s) := by
  have placed : changesOnly trainBlocks s { moveTo .aborted .running s with sequencer := runningSequencer s } :=
    (moveTo_frame _ _).trans ((sequencer_frame _).mono (by decide))
  exact (placed.trans ((release_frame _).mono (by decide))).trans
    ((judgeQualityTrip_frame.mono (by decide)).trans (computeShare_frame.mono (by decide)))

theorem runningShared_train : (runningShared s).sequencer.train = .running := by
  rw [runningShared_sequencer, runningSequencer_train]

/-- A start that reaches RUNNING runs, or unloads at once with SP 0. -/
theorem enterRunning_cases :
    (enterRunning s).sequencer.train = .running ∨
      ((enterRunning s).sequencer.train = .unload ∨ (enterRunning s).sequencer.train = .flush) ∧
        (enterRunning s).staging.sp = 0 := by
  rw [enterRunning_shared]
  cases overflow : (runningShared s).demand.overflow with
  | false =>
    rw [overflowCheck_of_calm overflow]
    exact .inl runningShared_train
  | true =>
    rw [overflowCheck_of_running overflow runningShared_train]
    exact .inr ⟨enterUnload_cases false, enterUnload_sp_zero false runningShared_train⟩

/-- In the states from FILL to FLUSH a trip asks for the latches and the conflict mark alone. -/
theorem afterTrip_congr (latches : t.protection.latches = s.protection.latches)
    (mark : t.sequencer.conflict = s.sequencer.conflict)
    (here : s.sequencer.train = .divert)
    (there : t.sequencer.train = .running ∨ t.sequencer.train = .unload ∨ t.sequencer.train = .flush) :
    t.afterTrip k = s.afterTrip k := by
  rcases there with there | there | there <;> simp only [State.afterTrip, latches, mark, here, there]

/-- The records of a trip out of RUNNING, outside CONFLICT. -/
theorem arrive_records_of_running (clear : s.protection.latches.get k = false) (mark : s.sequencer.conflict = false)
    (running : s.sequencer.train = .running) :
    Records
      [(.trip, s.own, k.code),
        (.stateChange, s.own, (s.afterTrip k).code * 16 + (s.afterTrip k).phaseCode)] s (arrive k s) := by
  have goes := arrive_train clear
  have latched_ : Records [(.trip, s.own, k.code)] s (latched k s) := ⟨rfl, rfl⟩
  have released : Records [] (latched k s) (release .tripped (latched k s)) :=
    .of_frame (release_frame .tripped) (by decide) (by decide)
  have sequencer : (release .tripped (latched k s)).sequencer = s.sequencer := release_train .tripped
  have trips : arrive k s = moveTo .tripped (s.afterTrip k) (release .tripped (latched k s)) := by
    rw [arrive_of_clear k clear] at goes ⊢
    have moved : sequencerTrip (latched k s) =
        moveTo .tripped (if (latched k s).flushPermitted then .flush else tripEnd (latched k s)) (release .tripped (latched k s)) := by
      simp only [sequencerTrip, show (latched k s).sequencer.train = .running from running]
    rw [moved, moveTo_train] at goes
    rw [moved, goes]
  have other : (s.afterTrip k).code ≠ (release .tripped (latched k s)).sequencer.train.code := by
    rw [sequencer, running, ← goes, arrive_of_clear k clear]
    have target : (sequencerTrip (latched k s)).sequencer.train = .flush ∨ (sequencerTrip (latched k s)).sequencer.train = .tripped := by
      simp only [sequencerTrip, show (latched k s).sequencer.train = .running from running, moveTo_train, tripEnd,
        show (latched k s).sequencer.conflict = false from mark, Bool.false_eq_true, if_false]
      split
      · exact .inl rfl
      · exact .inr rfl
    rcases target with e | e <;> rw [e] <;> decide
  have moved := moveTo_records (s := release .tripped (latched k s)) .tripped (s.afterTrip k)
  rw [moveRecords_of_code (by rw [sequencer]; exact mark) other,
    own_congr (release_frame (s := latched k s) .tripped .ident (by decide)), ← trips] at moved
  exact ((latched_.trans released).trans moved).cast rfl

/-! ## The slot given up at the expiry -/

/-- The slot given up OVERRUN, with its record, before the start or the stop is acted on (R100). -/
def holdExpired (k : Kind) (s : State) : State := raiseOwn .slotExpired k.code (queueYield .overrun k (viewFree s))

theorem holdExpired_frame (k : Kind) : changesOnly [.slot, .line, .lport, .queue] s (holdExpired k s) :=
  ((viewFree_frame.mono (by decide)).trans ((queueYield_frame _ _).mono (by decide))).trans
    ((raiseOwn_frame _ _).mono (by decide))

theorem holdExpired_slot (k : Kind) : (holdExpired k s).slot = { s.slot with view := .free, gap := s.gapStarted } :=
  queueYield_slot .overrun k

theorem holdExpired_unclaimed (k : Kind) : (holdExpired k s).unclaimed := by
  unfold State.unclaimed
  rw [holdExpired_slot]
  rfl

theorem holdExpired_records (k : Kind) : Records [(.slotExpired, s.own, k.code)] s (holdExpired k s) := by
  have frame : changesOnly [.slot, .line] s (queueYield .overrun k (viewFree s)) :=
    viewFree_frame.trans ((queueYield_frame _ _).mono (by decide))
  have silent : Records [] s (queueYield .overrun k (viewFree s)) := .of_frame frame (by decide) (by decide)
  have raised := silent.trans (Records.raiseOwn (s := queueYield .overrun k (viewFree s)) .slotExpired k.code)
  rw [own_congr (frame .ident (by decide))] at raised
  exact raised

theorem queueYield_occupied (o : YieldOutcome) (k : Kind) : (queueYield o k s).line.set.occupied = s.line.set.occupied := by
  unfold queueYield queueFrame
  split
  · rfl
  · dsimp only
    rw [Line.follow_eq]
    rfl

/-- The line after the expiry: the YIELD waits, claim and answer are withdrawn. -/
theorem holdExpired_set (k : Kind) (clear : s.sequencer.conflict = false) (own : s.slot.view.isOwn = true) :
    (holdExpired k s).line.set.yield = some { uid := s.ident.uid, outcome := .overrun, kind := k } ∧
      (holdExpired k s).line.set.bid = none ∧ (holdExpired k s).line.set.occupied = none := by
  refine ⟨queueYield_yield (s := viewFree s) .overrun k clear, ?_, ?_⟩
  · exact (queueYield_bid (s := viewFree s) .overrun k).trans (viewFree_bid_of_own own)
  · refine (queueYield_occupied (s := viewFree s) .overrun k).trans ?_
    show (lineLeaving s.slot.view s.line).set.occupied = none
    rw [lineLeaving_set, if_pos own]

theorem reachRunning_claims (h : s.unclaimed) : SameClaims s (reachRunning s) := .ite (enterRunning_claims h) (.refl s)

theorem overrunSlot_claims (h : s.unclaimed) : SameClaims s (overrunSlot s) :=
  .ite ((reachRunning_claims h).trans (arrive_claims ((reachRunning_claims h).unclaimed h) _)) (.ite ⟨rfl, rfl⟩ (.refl s))

theorem timerDue_iff (m : Option Timer) (now : Nat) :
    timerDue m now = true ↔ ∃ x, m = some x ∧ x.since + x.span ≤ now := by
  cases m <;> simp [timerDue, Timer.isDue]

theorem reachRunning_latches : (reachRunning s).protection.latches = s.protection.latches := by
  unfold reachRunning
  split
  · exact enterRunning_latches
  · rfl

/-- A start trips the same way from the phase it stands in and from the RUNNING that it reaches. -/
theorem reachRunning_afterTrip (k : Cause) : (reachRunning s).afterTrip k = s.afterTrip k := by
  by_cases reaches : s.sequencer.train = .divert ∧ timerDue s.sequencer.quality s.time = true
  · rw [reachRunning, if_pos reaches]
    refine afterTrip_congr enterRunning_latches enterRunning_offPort.mark reaches.1 ?_
    rcases enterRunning_cases (s := s) with h | ⟨h, -⟩
    · exact .inl h
    · exact .inr h
  · rw [reachRunning, if_neg reaches]

/-- Settles O55. -/
theorem ownHoldExpiryGivesTheSlotUp : Obligations.OwnHoldExpiryGivesTheSlotUp := by
  intro k hold s view clear reaches
  let r := holdExpired k s
  have run : exec .ownHoldExpiry s = .next (finish s (overrunSlot r)) := by
    simp only [exec, execOwnHoldExpiry, view]
    rfl
  have frame : changesOnly [.slot, .line, .lport, .queue] s r := holdExpired_frame k
  have claims : SameClaims r (overrunSlot r) := overrunSlot_claims (holdExpired_unclaimed k)
  obtain ⟨yield, bid, occupied⟩ := holdExpired_set k clear (show s.slot.view.isOwn = true by rw [view]; rfl)
  obtain ⟨finYield, finBid, finOccupied⟩ := finish_set (s := overrunSlot r) s
  have records : Records [(.slotExpired, s.own, k.code)] s r := holdExpired_records k
  have sequencer : r.sequencer = s.sequencer := frame .sequencer (by decide)
  have protection : r.protection = s.protection := frame .protection (by decide)
  have own : r.own = s.own := own_congr (frame .ident (by decide))
  have due : reaches ↔ (r.sequencer.train = .divert ∧ timerDue r.sequencer.quality r.time = true) := by
    rw [timerDue_iff, sequencer, records.time]
  refine ⟨_, run, (frame.mono (by decide)).trans ((overrunSlot_frame.mono (by decide)).trans ((finish_frame s).mono (by decide))),
    ?_, ?_, ?_, ?_, ?_, fun start latch => ?_, fun unload => ?_⟩
  · rw [finish_slot, claims.slot]; exact holdExpired_slot k
  · rw [finYield, claims.line]; exact yield
  · rw [finBid, claims.line]; exact bid
  · rw [finOccupied, claims.line]; exact occupied
  · exact (records.first overrunSlot_offPort.logged).finish s
  · have trips : overrunSlot r = arrive .holdOverrun (reachRunning r) := if_pos (by rw [sequencer]; exact start)
    have latches : (reachRunning r).protection.latches = s.protection.latches := by rw [reachRunning_latches, protection]
    have still : (reachRunning r).protection.latches.get .holdOverrun = false := by rw [latches]; exact latch
    have goes : (reachRunning r).afterTrip .holdOverrun = s.afterTrip .holdOverrun := by
      rw [reachRunning_afterTrip]
      simp only [State.afterTrip, sequencer, protection]
    rw [finish_protection, finish_sequencer, finish_staging, finish_queue, trips]
    refine ⟨?_, ?_, arrive_runPermit s .holdOverrun, fun stays => ?_, fun reached => ⟨?_, ?_, fun p params calm => ?_⟩⟩
    · rw [arrive_latches, latches]; rfl
    · rw [arrive_train still, goes]
    · rw [arrive_failures, reachRunning, if_neg (due.not.mp stays), sequencer]
    · rw [arrive_failures, reachRunning, if_pos (due.mp reached), enterRunning_failures]
    · refine arrive_sp_zero still ?_
      rw [reachRunning, if_pos (due.mp reached)]
      exact enterRunning_cases.imp id And.right
    · have divert : r.sequencer.train = .divert := (due.mp reached).1
      have enters : reachRunning r = runningShared r := by
        rw [reachRunning, if_pos (due.mp reached), enterRunning_shared, overflowCheck_of_calm]
        rw [runningShared_frame .demand (by decide), frame .demand (by decide)]
        exact calm
      rw [enters] at still goes ⊢
      have mark : (runningShared r).sequencer.conflict = false := by
        rw [runningShared_sequencer, runningSequencer_conflict, sequencer]
        exact clear
      have ran := runningShared_records divert (show r.sequencer.conflict = false by rw [sequencer]; exact clear)
      have tripped := arrive_records_of_running still mark runningShared_train
      rw [own] at ran
      rw [own_congr (runningShared_frame .ident (by decide)), own, ← arrive_train still] at tripped
      have code : ((finish s (arrive .holdOverrun (runningShared r))).ownCode) =
          (arrive .holdOverrun (runningShared r)).sequencer.train.code := by
        rw [State.ownCode, finish_sequencer, (arrive_offPort .holdOverrun).mark, mark]
        rfl
      rw [code]
      exact ((records.trans ran).trans tripped).queue
  · have stays : overrunSlot r = unstage r := by
      rw [overrunSlot, if_neg (by rw [sequencer, unload]; decide), if_pos (by rw [sequencer]; exact unload)]
    rw [finish_sequencer, finish_protection, finish_capability, finish_staging, finish_trim, finish_queue, stays]
    exact ⟨congrArg (fun q : Sequencer => { q with staged := false }) sequencer, protection,
      frame .capability (by decide), frame .staging (by decide), frame .trim (by decide), records.queue⟩

end Sys2Proof.Machine
end

section
/-! The confirmation window's expiry: the slot won, and the grant that moves the train (R88, R90, R102, R112, R122). -/

namespace Sys2Proof.Machine

open Sys2Proof

variable {s t u : State} {p : Params}

/-! ## The line as the win leaves it -/

theorem recomposeTally_line :
    (recomposeTally s).line =
      { s.line with set := { s.line.set with tally := s.line.set.tally.map fun _ => s.ownTally } } := by
  cases tally : s.line.set.tally with
  | none =>
    simp only [recomposeTally, tally, Option.map_none]
    rw [← tally]
  | some b => simp only [recomposeTally, tally, Option.map_some]

/-- A TALLY composed anew leaves the set empty or not as it was. -/
theorem PendingSet.isEmpty_map_tally (q : PendingSet) (f : TallyBody → TallyBody) :
    ({ q with tally := q.tally.map f } : PendingSet).isEmpty = q.isEmpty := by
  cases tally : q.tally <;> simp [PendingSet.isEmpty, tally]

theorem withdrawBid_line (l : Line) :
    l.withdrawBid = { l with set := { l.set with bid := none }, tx := l.withdrawBid.tx } := Line.withdraw_eq ..

theorem withdrawBid_tx_of_bid {l : Line} {b : BidBody} (h : l.tx = .contend (.bid b) ∨ l.tx = .send (.bid b)) :
    l.withdrawBid.tx = if l.withdrawBid.set.isEmpty then .quiet else .wait := by
  rw [Line.withdrawBid_set]
  rcases h with h | h <;> simp [Line.withdrawBid, Line.withdraw, h, TxFrame.isBid, Line.release]

theorem withdrawBid_tx_of_other {l : Line} (other : ∀ b, l.tx ≠ .contend (.bid b) ∧ l.tx ≠ .send (.bid b))
    (quiet : l.tx ≠ .quiet) (wait : l.tx ≠ .wait) : l.withdrawBid.tx = l.tx := by
  cases tx : l.tx with
  | quiet => exact absurd tx quiet
  | wait => exact absurd tx wait
  | contend f =>
    cases f <;> first
      | exact absurd tx (other _).1
      | simp [Line.withdrawBid, Line.withdraw, tx, TxFrame.isBid]
  | send f =>
    cases f <;> first
      | exact absurd tx (other _).2
      | simp [Line.withdrawBid, Line.withdraw, tx, TxFrame.isBid]
  | echo f => simp [Line.withdrawBid, Line.withdraw, tx, Line.follow]

/-- The own entry does not depend on the line, nor on the port but for its channels. -/
theorem ownTally_congr (frame : changesOnly [.line, .port] s t) (channels : t.port.channels = s.port.channels) :
    t.ownTally = s.ownTally := by
  have same : ∀ b : Block, b ∉ [Block.line, .port] → b.same s t := frame
  obtain ⟨⟩ := s
  obtain ⟨⟩ := t
  obtain rfl := same .time (by decide)
  obtain rfl := same .ident (by decide)
  obtain rfl := same .pins (by decide)
  obtain rfl := same .capability (by decide)
  obtain rfl := same .roster (by decide)
  obtain rfl := same .slot (by decide)
  obtain rfl := same .sequencer (by decide)
  obtain rfl := same .trim (by decide)
  obtain rfl := same .loader (by decide)
  obtain rfl := same .lport (by decide)
  simp only at channels
  simp only [State.ownTally, State.ownCode, State.withheld, State.chanValid, State.configured, State.ownHolding,
    State.effectiveClass, State.chan, State.runHours, channels]

/-! ## The slot won (R90) -/

/-- The slot won with its record, before the grant. -/
def slotWon (q : PendingView) (s : State) : State :=
  raiseOwn .slotWon q.intent.code
    { s with
      line := s.line.withdrawBid
      slot := { s.slot with view := .ownHeld q.intent { since := s.time, span := seconds s.tHold } } }

theorem winSlot_eq (q : PendingView) : winSlot q s = takeGrant q.intent (slotWon q s) := rfl

theorem slotWon_frame (q : PendingView) : changesOnly [.slot, .line, .lport, .queue] s (slotWon q s) :=
  ((lineSlot_frame _ _).mono (by decide)).trans ((raiseOwn_frame _ _).mono (by decide))

theorem slotWon_records (q : PendingView) : Records [(.slotWon, s.own, q.intent.code)] s (slotWon q s) := ⟨rfl, rfl⟩

theorem slotWon_bid (q : PendingView) : (slotWon q s).line.set.bid = none := by
  show s.line.withdrawBid.set.bid = none
  rw [Line.withdrawBid_set]

theorem slotWon_view (q : PendingView) :
    (slotWon q s).slot.view = .ownHeld q.intent { since := s.time, span := seconds s.tHold } := rfl

theorem slotWon_not_pending (q r : PendingView) : (slotWon q s).slot.view ≠ .ownPending r := fun e => by
  rw [slotWon_view] at e
  cases e

theorem exec_confirmation {q : PendingView} (view : s.slot.view = .ownPending q) (window : q.window.isSome = true) :
    exec .confirmationWindowExpiry s = .next (arbitrate (recomposeTally (takeGrant q.intent (slotWon q s)))) := by
  obtain ⟨timer, runs⟩ := Option.isSome_iff_exists.mp window
  simp only [exec, execConfirmationWindowExpiry, view, runs, winSlot_eq]

/-- The end of the taking: the waiting TALLY composed anew, and the arbiter. -/
theorem ended_frame : changesOnly [.line, .port] s (arbitrate (recomposeTally s)) :=
  (recomposeTally_frame.mono (by decide)).trans (arbitrate_frame.mono (by decide))

theorem ended_set :
    (arbitrate (recomposeTally s)).line.set.yield = s.line.set.yield ∧
      (arbitrate (recomposeTally s)).line.set.bid = s.line.set.bid := by
  rw [arbitrate_line, recomposeTally_line]
  exact ⟨rfl, rfl⟩

theorem ended_line :
    (arbitrate (recomposeTally s)).line =
      { s.line with set := { s.line.set with tally := s.line.set.tally.map fun _ => (arbitrate (recomposeTally s)).ownTally } } := by
  rw [arbitrate_line, recomposeTally_line, ownTally_congr ended_frame]
  rw [arbitrate_channels, recomposeTally_frame .port (by decide)]

theorem release_bid {o : YieldOutcome} (h : s.line.set.bid = none) : (release o s).line.set.bid = none := by
  have freed : (viewFree s).line.set.bid = none := by
    show (lineLeaving s.slot.view s.line).set.bid = none
    rw [lineLeaving_set]
    split
    · rfl
    · exact h
  unfold release
  split
  · rw [queueYield_bid, freed]
  · exact h

theorem gapStarted_congr (loader : t.loader = s.loader) (time : t.time = s.time) : t.gapStarted = s.gapStarted := by
  have gap : t.tGap = s.tGap := by rw [State.tGap, State.tGap, loader]
  rw [State.gapStarted, State.gapStarted, gap, time]

theorem phaseTimerOf_of {x : Train} {n : Nat} (params : s.loader.params = some p) (full : phaseSeconds p x = some n) :
    phaseTimerOf x s = some { since := s.time, span := n * 1024 } := by
  simp only [phaseTimerOf, params, full, Option.bind_some, startTimer, seconds]

/-! ## A START grant (R90, R112) -/

/-- The start granted: FILL entered with the slot held. -/
def fillEntered (q : PendingView) (s : State) : State := moveTo .aborted .fill (slotWon q s)

theorem takeGrant_start (ready : s.sequencer.train = .ready) :
    takeGrant .start s = overflowCheck (moveTo .aborted .fill s) := by
  simp only [takeGrant, ready]

structure FillEntered (q : PendingView) (p : Params) (s t : State) : Prop where
  frame : changesOnly [.sequencer, .port, .lport, .queue] (slotWon q s) t
  sequencer : t.sequencer =
    { s.sequencer with
      train := .fill, valve := valveOf .fill, phase := some { since := s.time, span := p.tFill * 1024 }, quality := none,
      staged := false }
  records : Records [(.slotWon, s.own, q.intent.code), (.stateChange, s.own, 49)] s t

theorem fillEntered_spec (q : PendingView) (params : s.loader.params = some p) (clear : s.sequencer.conflict = false)
    (ready : s.sequencer.train = .ready) (valve : s.sequencer.valve = valveOf .ready) :
    FillEntered q p s (fillEntered q s) := by
  have same : leaving .aborted .fill (slotWon q s) = slotWon q s := leaving_of_not_pending (slotWon_not_pending q)
  have sequencer : (slotWon q s).sequencer = s.sequencer := rfl
  have off : (slotWon q s).sequencer.valve.run = false := by rw [sequencer, valve]; rfl
  refine ⟨?_, ?_, ?_⟩
  · exact moveTo_frame_of_off same off rfl (by rw [sequencer, ready]; decide)
  · rw [fillEntered, moveTo_sequencer, sequencer, if_neg fun k => absurd (ready.symm.trans k.1) (by decide)]
    have loader : (slotWon q s).loader.params = some p := params
    simp only [phaseTimerOf, loader, phaseSeconds, Option.bind_some, startTimer, seconds]
    rfl
  · have moved := moveTo_records (s := slotWon q s) .aborted .fill
    rw [moveRecords_of_code (s := slotWon q s) clear (by rw [sequencer, ready]; decide)] at moved
    exact (slotWon_records q).trans moved

/-- With an overflow that holds the start is aborted at once (R125). -/
theorem overflowCheck_of_fill (overflow : s.demand.overflow = true) (fill : s.sequencer.train = .fill) :
    overflowCheck s = moveTo .aborted .flush (release .aborted s) := by
  have released : (release .aborted s).sequencer = s.sequencer := release_train .aborted
  rw [overflowCheck, if_pos overflow, if_neg (by rw [fill]; decide), abortStart, if_pos (by rw [fill]; rfl),
    leaveStart_eq (by rw [released, fill]; rfl), released, if_pos fill]

theorem confirmed_start_calm {q : PendingView} (entered : FillEntered q p s t) :
    (arbitrate (recomposeTally t)).slot =
        { s.slot with view := .ownHeld q.intent { since := s.time, span := seconds s.tHold } } ∧
      (arbitrate (recomposeTally t)).line =
        { s.line with
          set :=
            { s.line.set with
              bid := none, tally := s.line.set.tally.map fun _ => (arbitrate (recomposeTally t)).ownTally }
          tx := s.line.withdrawBid.tx } := by
  have line : t.line = s.line.withdrawBid := entered.frame .line (by decide)
  refine ⟨?_, ?_⟩
  · rw [arbitrate_slot, recomposeTally_frame .slot (by decide), entered.frame .slot (by decide)]
    rfl
  · rw [ended_line, line, withdrawBid_line]

/-- A START grant in READY, with and without an overflow that holds. -/
theorem confirmed_start {q : PendingView} (view : s.slot.view = .ownPending q) (window : q.window.isSome = true)
    (params : s.loader.params = some p) (clear : s.sequencer.conflict = false) (intent : q.intent = .start)
    (ready : s.sequencer.train = .ready) (valve : s.sequencer.valve = valveOf .ready) :
    let hold : Timer := { since := s.time, span := p.tHold * 1024 }
    ∃ t, exec .confirmationWindowExpiry s = .next t ∧
      changesOnly [.slot, .sequencer, .line, .port, .lport, .queue] s t ∧
      (s.demand.overflow = false →
        t.slot = { s.slot with view := .ownHeld .start hold } ∧
        t.sequencer =
          { s.sequencer with
            train := .fill, valve := { feed := true, dump := true, flush := false, run := false },
            phase := some { since := s.time, span := p.tFill * 1024 }, quality := none, staged := false } ∧
        t.line =
          { s.line with
            set := { s.line.set with bid := none, tally := s.line.set.tally.map fun _ => t.ownTally }
            tx := t.line.tx } ∧
        ((∀ b, s.line.tx ≠ .contend (.bid b) ∧ s.line.tx ≠ .send (.bid b)) → s.line.tx ≠ .quiet →
          s.line.tx ≠ .wait → t.line.tx = s.line.tx) ∧
        ((∃ b, s.line.tx = .contend (.bid b) ∨ s.line.tx = .send (.bid b)) →
          t.line.tx = if t.line.set.isEmpty then .quiet else .wait) ∧
        t.queue = s.queueAfter [(.slotWon, s.own, 1), (.stateChange, s.own, 49)]) ∧
      (s.demand.overflow = true →
        givesSlotUp .aborted .start s t ∧ t.line.set.bid = none ∧
        t.sequencer =
          { s.sequencer with
            train := .flush, valve := { feed := false, dump := true, flush := true, run := false },
            phase := some { since := s.time, span := p.tFlush * 1024 }, quality := none, staged := false } ∧
        t.queue = s.queueAfter
          [(.slotWon, s.own, 1), (.stateChange, s.own, 49), (.stateChange, s.own, 85)]) := by
  intro hold
  have run := exec_confirmation view window
  have entered := fillEntered_spec q params clear ready valve
  have won := slotWon_frame (s := s) q
  rw [intent, takeGrant_start (s := slotWon q s) ready] at run
  have demand : (fillEntered q s).demand = s.demand := (entered.frame .demand (by decide)).trans (won .demand (by decide))
  have fill : (fillEntered q s).sequencer.train = .fill := by rw [entered.sequencer]
  have holding : seconds s.tHold = p.tHold * 1024 := by simp [seconds, State.tHold, params]
  have records := entered.records
  rw [intent] at records
  cases overflow : s.demand.overflow with
  | false =>
    have grants : overflowCheck (moveTo .aborted .fill (slotWon q s)) = fillEntered q s :=
      overflowCheck_of_calm (s := fillEntered q s) (by rw [demand]; exact overflow)
    rw [grants] at run
    obtain ⟨slot, line⟩ := confirmed_start_calm entered
    refine ⟨_, run, (won.mono (by decide)).trans ((entered.frame.mono (by decide)).trans (ended_frame.mono (by decide))),
      fun _ => ⟨?_, ?_, ?_, fun other quiet wait => ?_, fun ⟨b, sending⟩ => ?_, ?_⟩, fun h => absurd h (by decide)⟩
    · rw [slot, intent, holding]
    · rw [ended_frame .sequencer (by decide), entered.sequencer]; rfl
    · rw [line]
    · rw [line]; exact withdrawBid_tx_of_other other quiet wait
    · have emptied := PendingSet.isEmpty_map_tally s.line.withdrawBid.set
        fun _ => (arbitrate (recomposeTally (fillEntered q s))).ownTally
      rw [line]
      refine (withdrawBid_tx_of_bid sending).trans ?_
      rw [← emptied, Line.withdrawBid_set]
    · rw [ended_frame .queue (by decide)]; exact records.queue
  | true =>
    have aborts : overflowCheck (moveTo .aborted .fill (slotWon q s)) =
        moveTo .aborted .flush (release .aborted (fillEntered q s)) :=
      overflowCheck_of_fill (s := fillEntered q s) (by rw [demand]; exact overflow) fill
    rw [aborts] at run
    let w := release .aborted (fillEntered q s)
    have released : changesOnly [.slot, .line] (fillEntered q s) w := release_frame .aborted
    have sequencer : w.sequencer = (fillEntered q s).sequencer := release_train .aborted
    have train : w.sequencer.train = .fill := by rw [sequencer]; exact fill
    have same : leaving .aborted .flush w = w := leaving_of_starting (by rw [train]; rfl)
    have claims : SameClaims w (moveTo .aborted .flush w) := moveTo_claims same
    have off : w.sequencer.valve.run = false := by rw [sequencer, entered.sequencer]; rfl
    have moved : changesOnly [.sequencer, .port, .lport, .queue] w (moveTo .aborted .flush w) :=
      moveTo_frame_of_off same off rfl (by rw [train]; decide)
    have whole : changesOnly [.slot, .line, .sequencer, .port, .lport, .queue] s w :=
      (won.mono (by decide)).trans ((entered.frame.mono (by decide)).trans (released.mono (by decide)))
    have held : (fillEntered q s).slot.view = .ownHeld .start { since := s.time, span := seconds s.tHold } := by
      rw [entered.frame .slot (by decide), slotWon_view, intent]
    have gives : givesSlotUp .aborted .start (fillEntered q s) w :=
      release_gives .aborted held (by rw [entered.sequencer]; exact clear)
    have slot : (fillEntered q s).slot = { s.slot with view := .ownHeld q.intent { since := s.time, span := seconds s.tHold } } :=
      entered.frame .slot (by decide)
    have last : Records [(.stateChange, s.own, 85)] (fillEntered q s) (moveTo .aborted .flush w) := by
      have note := moveTo_records (s := w) .aborted .flush
      rw [moveRecords_of_code (by rw [sequencer, entered.sequencer]; exact clear) (by rw [train]; decide),
        own_congr (whole .ident (by decide))] at note
      exact ((Records.of_frame released (by decide) (by decide)).trans note).cast rfl
    refine ⟨_, run, (whole.mono (by decide)).trans ((moved.mono (by decide)).trans (ended_frame.mono (by decide))),
      fun h => absurd h (by decide), fun _ => ⟨⟨?_, ?_⟩, ?_, ?_, ?_⟩⟩
    · rw [ended_frame .slot (by decide), claims.slot, gives.1, slot]
      rw [gapStarted_congr ((entered.frame .loader (by decide)).trans (won .loader (by decide))) entered.records.time]
    · rw [ended_set.1, claims.line, gives.2, entered.frame .ident (by decide), won .ident (by decide)]
    · rw [ended_set.2, claims.line]
      refine release_bid ?_
      rw [entered.frame .line (by decide)]
      exact slotWon_bid q
    · have loader : w.loader.params = some p := (congrArg Loader.params (whole .loader (by decide))).trans params
      have time : w.time = s.time := whole .time (by decide)
      rw [ended_frame .sequencer (by decide), moveTo_sequencer, if_neg fun k => absurd (train.symm.trans k.1) (by decide),
        sequencer, entered.sequencer, phaseTimerOf_of loader rfl, time]
      rfl
    · rw [ended_frame .queue (by decide)]
      exact (records.trans last).queue

end Sys2Proof.Machine
end

section
/-! A STOP grant: the staged stop with its way through UNLOAD, and the stop declined (R112, R122, R123). -/

namespace Sys2Proof.Machine

open Sys2Proof

variable {s t u : State} {p : Params}

/-! ## The cap and the trim on the way through UNLOAD -/

theorem setValve_cap (v : Valve) : (setValve v s).capability.cap = s.capability.cap := by
  have watched : ∀ u : State, (judgeInstrument (judgeLowSuction u)).capability = u.capability := fun u =>
    (judgeInstrument_frame .capability (by decide)).trans (judgeLowSuction_frame .capability (by decide))
  unfold setValve
  split
  · rfl
  · dsimp only
    split
    · unfold afterRunOn
      rw [watched, trimStart_frame .capability (by decide)]
      rfl
    · split
      · unfold afterRunOff
        rw [watched]
        rfl
      · rfl

theorem moveTo_cap_none {o : YieldOutcome} {x : Train} (h : s.capability.cap = none) :
    (moveTo o x s).capability.cap = none := by
  by_cases out : s.sequencer.train = .running ∧ x ≠ .running
  · exact moveTo_cap out.1 out.2
  · rw [moveTo_eq, noteChange_frame s .capability (by decide), if_neg out]
    unfold entering
    rw [trimFor_frame x .capability (by decide), setValve_cap]
    exact (congrArg Capability.cap (leaving_frame o x .capability (by decide))).trans h

theorem unloadEnded_cap (h : s.capability.cap = none) : (unloadEnded s).capability.cap = none := by
  refine moveTo_cap_none ?_
  split
  · rw [release_frame .completed .capability (by decide)]; exact h
  · exact h

theorem enterUnload_cap (staged : Bool) (params : s.loader.params = some p) (run : s.sequencer.valve.run = true)
    (running : s.sequencer.train = .running) : (enterUnload staged s).capability.cap = none := by
  have begun : (unloading staged s).capability.cap = none := moveTo_cap (o := .aborted) running (by decide)
  have stopped : (rampStopped (unloading staged s)).capability.cap = none := (setValve_cap _).trans begun
  rw [enterUnload_eq staged params run]
  split
  · split
    · exact unloadEnded_cap stopped
    · exact stopped
  · exact begun

theorem rampStopped_trim (run : s.sequencer.valve.run = true) : (rampStopped s).trim = (trimStop s).trim := by
  rw [rampStopped, setValve_trim, if_neg (by rw [run]; exact Bool.false_ne_true), if_neg Bool.false_ne_true]

theorem unloadEnded_trim (off : s.sequencer.valve.run = false) : (unloadEnded s).trim = s.trim := by
  have same : (if s.sequencer.staged then release .completed s else s).trim = s.trim ∧
      (if s.sequencer.staged then release .completed s else s).sequencer = s.sequencer := by
    split
    · exact ⟨release_trim _, release_train _⟩
    · exact ⟨rfl, rfl⟩
  rw [unloadEnded, moveTo_trim_of_same_run (by rw [same.2, off]; rfl), same.1]
  rfl

/-- S falls by the ramp from where it stands, or is off at once. -/
theorem enterUnload_speed (staged : Bool) (params : s.loader.params = some p) (run : s.sequencer.valve.run = true) :
    (s.trim.s ≠ p.sStart → (enterUnload staged s).trim.mode = .rampDown ∧ (enterUnload staged s).trim.s = s.trim.s) ∧
      (s.trim.s = p.sStart → (enterUnload staged s).trim.mode = .off ∧ (enterUnload staged s).trim.s = 0) := by
  have stopped : (rampStopped (unloading staged s)).trim = (trimStop (unloading staged s)).trim :=
    rampStopped_trim (by show (moveTo .aborted .unload s).sequencer.valve.run = true; rw [moveTo_valve]; rfl)
  rw [enterUnload_eq staged params run]
  refine ⟨fun above => ?_, fun arrived => ?_⟩
  · rw [if_neg above, unloading_trim staged run]
    exact ⟨rfl, rfl⟩
  · rw [if_pos arrived]
    split
    · rw [unloadEnded_trim rampStopped_off, stopped]
      exact ⟨rfl, rfl⟩
    · rw [stopped]
      exact ⟨rfl, rfl⟩

/-! ## The slot of a staged stop -/

theorem driveRests_of_flush (h : s.unloadsTo p = .flush) : s.trim.s = p.sStart ∧ s.driveRests = true := by
  rw [unloadsTo_eq] at h
  by_contra k
  rw [if_neg k] at h
  cases h

theorem driveRests_of_unload (h : s.unloadsTo p = .unload) : ¬(s.trim.s = p.sStart ∧ s.driveRests = true) := by
  rw [unloadsTo_eq] at h
  intro k
  rw [if_pos k] at h
  cases h

/-- A staged stop that stays in UNLOAD keeps its slot and line. -/
theorem enterUnload_staged_claims (params : s.loader.params = some p) (run : s.sequencer.valve.run = true)
    (pending : ∀ q, s.slot.view ≠ .ownPending q) (stays : s.unloadsTo p = .unload) :
    SameClaims s (enterUnload true s) := by
  have none : leaving .aborted .unload s = s := leaving_of_not_pending pending
  have begun : SameClaims s (unloading true s) := ⟨by rw [unloading_slot, none], by rw [unloading_line, none]⟩
  rw [enterUnload_eq true params run]
  split
  · next arrived =>
    rw [if_neg fun rests => driveRests_of_unload stays ⟨arrived, rests⟩]
    exact begun.trans rampStopped_claims
  · exact begun

/-- One that passes on to FLUSH releases it COMPLETED. -/
theorem enterUnload_staged_gives {k : Kind} {hold : Timer} (params : s.loader.params = some p)
    (run : s.sequencer.valve.run = true) (view : s.slot.view = .ownHeld k hold) (clear : s.sequencer.conflict = false)
    (passes : s.unloadsTo p = .flush) :
    givesSlotUp .completed k s (enterUnload true s) ∧
      (s.line.set.bid = none → (enterUnload true s).line.set.bid = none) := by
  obtain ⟨arrived, rests⟩ := driveRests_of_flush passes
  have none : leaving .aborted .unload s = s := leaving_of_not_pending fun q e => by rw [view] at e; cases e
  let w := rampStopped (unloading true s)
  have frame : changesOnly trainBlocks s w := (unloading_frame true).trans (rampStopped_frame.mono (by decide))
  have begun : SameClaims s w :=
    SameClaims.trans ⟨by rw [unloading_slot, none], by rw [unloading_line, none]⟩ rampStopped_claims
  have staged : w.sequencer.staged = true := rampStopped_staged
  have train : w.sequencer.train = .unload := rampStopped_train.trans (unloading_train true)
  have moves : OnlyMoves s w := (unloading_onlyMoves true).trans rampStopped_onlyMoves
  have enters : enterUnload true s = moveTo .aborted .flush (release .completed w) := by
    rw [enterUnload_eq true params run, if_pos arrived, if_pos rests, unloadEnded, if_pos staged]
  have released : (release .completed w).sequencer = w.sequencer := release_train .completed
  have plain : leaving .aborted .flush (release .completed w) = release .completed w :=
    leaving_of_no_claim (by rw [released, train]; decide) (by rw [released, train]; decide)
  have claims : SameClaims (release .completed w) (enterUnload true s) := by rw [enters]; exact moveTo_claims plain
  have gives : givesSlotUp .completed k w (release .completed w) :=
    release_gives .completed (by rw [begun.slot]; exact view) (by rw [moves.mark]; exact clear)
  refine ⟨⟨?_, ?_⟩, fun bid => ?_⟩
  · rw [claims.slot, gives.1, begun.slot, gapStarted_congr (frame .loader (by decide)) (frame .time (by decide))]
  · rw [claims.line, gives.2, frame .ident (by decide)]
  · rw [claims.line]
    exact release_bid (by rw [begun.line]; exact bid)

/-! ## The grant (R90, R122) -/

theorem takeGrant_stop (running : s.sequencer.train = .running) :
    takeGrant .stop s = if s.sequencer.minRunMet || s.withheld then enterUnload true s else release .aborted s := by
  simp only [takeGrant, running]

theorem confirmed_stop {q : PendingView} (view : s.slot.view = .ownPending q) (window : q.window.isSome = true)
    (params : s.loader.params = some p) (clear : s.sequencer.conflict = false) (intent : q.intent = .stop)
    (running : s.sequencer.train = .running) (valve : s.sequencer.valve = valveOf .running)
    (may : s.sequencer.minRunMet = true ∨ s.withheld = true) :
    let hold : Timer := { since := s.time, span := p.tHold * 1024 }
    let stopped :=
      { s.sequencer with
        train := .unload, valve := { feed := true, dump := true, flush := false, run := s.trim.s ≠ p.sStart },
        phase := some { since := s.time, span := p.tUnload * 1024 }, quality := none, staged := true,
        minRun := none, minRunMet := false, intPoint := none }
    ∃ t, exec .confirmationWindowExpiry s = .next t ∧
      changesOnly [.capability, .staging, .slot, .sequencer, .trim, .protection, .line, .port, .lport, .queue] s t ∧
      t.staging = { s.staging with sp := 0 } ∧ t.capability.cap = none ∧ t.line.set.bid = none ∧
      (s.trim.s ≠ p.sStart → t.trim.mode = .rampDown ∧ t.trim.s = s.trim.s) ∧
      (s.trim.s = p.sStart → t.trim.mode = .off ∧ t.trim.s = 0) ∧
      (s.unloadsTo p = .unload →
        t.slot = { s.slot with view := .ownHeld .stop hold } ∧ t.sequencer = stopped ∧
        t.queue = s.queueAfter [(.slotWon, s.own, 2), (.stateChange, s.own, 84)]) ∧
      (s.unloadsTo p = .flush →
        givesSlotUp .completed .stop s t ∧
        t.sequencer =
          { stopped with
            train := .flush, valve := { feed := false, dump := true, flush := true, run := false },
            phase := some { since := s.time, span := p.tFlush * 1024 }, staged := false } ∧
        t.queue = s.queueAfter
          [(.slotWon, s.own, 2), (.stateChange, s.own, 84), (.stateChange, s.own, 85)]) := by
  intro hold stopped
  let w := slotWon q s
  have run := exec_confirmation view window
  have grants : takeGrant .stop w = enterUnload true w := by
    rw [takeGrant_stop (s := w) running, if_pos]
    rw [Bool.or_eq_true]
    exact may
  rw [intent, grants] at run
  have frame : changesOnly [.slot, .line, .lport, .queue] s w := slotWon_frame q
  have on : w.sequencer.valve.run = true := by show s.sequencer.valve.run = true; rw [valve]; rfl
  have loader : w.loader.params = some p := params
  have goes : w.unloadsTo p = s.unloadsTo p := rfl
  have holding : seconds s.tHold = p.tHold * 1024 := by simp [seconds, State.tHold, params]
  have held : w.slot.view = .ownHeld .stop hold := by
    show View.ownHeld q.intent _ = _
    rw [intent, holding]
  have won : Records [(.slotWon, s.own, 2)] s w := by
    have r := slotWon_records (s := s) q
    rw [intent] at r
    exact r
  have records := won.trans (enterUnload_records true loader on (show s.sequencer.train.phaseCode ≠ 4 by rw [running]; decide))
  rw [codeIn_of_clear (s := w) clear, codeIn_of_clear (s := w) clear, goes] at records
  have sequencer := enterUnload_sequencer (s := w) true loader on running
  obtain ⟨above, arrived⟩ := enterUnload_speed (s := w) true loader on
  have bid : (enterUnload true w).line.set.bid = none := by
    rcases unloadsTo_cases (s := s) p with stays | passes
    · rw [(enterUnload_staged_claims (s := w) loader on (slotWon_not_pending q) stays).line]
      exact slotWon_bid q
    · exact (enterUnload_staged_gives (s := w) loader on held clear passes).2 (slotWon_bid q)
  refine ⟨_, run, (frame.mono (by decide)).trans
    (((enterUnload_frame true).mono (by decide)).trans (ended_frame.mono (by decide))), ?_, ?_, ?_, ?_, ?_,
    fun stays => ⟨?_, ?_, ?_⟩, fun passes => ⟨⟨?_, ?_⟩, ?_, ?_⟩⟩
  · rw [ended_frame .staging (by decide)]; exact enterUnload_staging (s := w) true loader on running
  · rw [ended_frame .capability (by decide)]; exact enterUnload_cap (s := w) true loader on running
  · rw [ended_set.2]; exact bid
  · rw [ended_frame .trim (by decide)]; exact above
  · rw [ended_frame .trim (by decide)]; exact arrived
  · rw [ended_frame .slot (by decide), (enterUnload_staged_claims (s := w) loader on (slotWon_not_pending q) stays).slot]
    show ({ s.slot with view := w.slot.view } : Slot) = _
    rw [held]
  · rw [ended_frame .sequencer (by decide), sequencer, Sequencer.unloaded, goes, if_neg (by rw [stays]; decide)]
    rfl
  · rw [if_neg (by rw [stays]; decide)] at records
    rw [ended_frame .queue (by decide)]
    exact records.queue
  · rw [ended_frame .slot (by decide), (enterUnload_staged_gives (s := w) loader on held clear passes).1.1]
    rfl
  · rw [ended_set.1, (enterUnload_staged_gives (s := w) loader on held clear passes).1.2]
    rfl
  · rw [ended_frame .sequencer (by decide), sequencer, Sequencer.unloaded, goes, if_pos passes]
    rfl
  · rw [if_pos passes] at records
    rw [ended_frame .queue (by decide)]
    exact records.queue

/-- A stop declined gives the slot up ABORTED and leaves the train. -/
theorem confirmed_decline {q : PendingView} (view : s.slot.view = .ownPending q) (window : q.window.isSome = true)
    (clear : s.sequencer.conflict = false) (intent : q.intent = .stop) (running : s.sequencer.train = .running)
    (short : s.sequencer.minRunMet = false) (free : s.withheld = false) :
    ∃ t, exec .confirmationWindowExpiry s = .next t ∧ changesOnly [.slot, .line, .port, .lport, .queue] s t ∧
      givesSlotUp .aborted .stop s t ∧ t.line.set.bid = none ∧
      t.queue = s.queueAfter [(.slotWon, s.own, 2)] := by
  let w := slotWon q s
  have run := exec_confirmation view window
  have declines : takeGrant .stop w = release .aborted w := by
    rw [takeGrant_stop (s := w) running, if_neg]
    rw [show w.sequencer.minRunMet = false from short, show w.withheld = false from free]
    decide
  rw [intent, declines] at run
  have held : w.slot.view = .ownHeld .stop { since := s.time, span := seconds s.tHold } := by
    show View.ownHeld q.intent _ = _
    rw [intent]
  have gives : givesSlotUp .aborted .stop w (release .aborted w) := release_gives .aborted held clear
  have won := slotWon_records (s := s) q
  rw [intent] at won
  refine ⟨_, run, ((slotWon_frame q).mono (by decide)).trans
    (((release_frame .aborted).mono (by decide)).trans (ended_frame.mono (by decide))), ⟨?_, ?_⟩, ?_, ?_⟩
  · rw [ended_frame .slot (by decide), gives.1]
    rfl
  · rw [ended_set.1, gives.2]
    rfl
  · rw [ended_set.2]
    exact release_bid (slotWon_bid q)
  · rw [ended_frame .queue (by decide)]
    exact ((won.trans (.of_frame (release_frame .aborted) (by decide) (by decide))).cast rfl).queue

/-- Settles O54: the three grants. -/
theorem confirmedClaimMovesTheTrain : Obligations.ConfirmedClaimMovesTheTrain := fun _ _ _ view window params clear =>
  ⟨fun intent ready valve => confirmed_start view window params clear intent ready valve,
    fun intent running valve may => confirmed_stop view window params clear intent running valve may,
    fun intent running short free => confirmed_decline view window clear intent running short free⟩

end Sys2Proof.Machine
end

section
/-! The three withhold causes of the part's own (R111): what they set, and how the train answers; with a request that
the Arbiter takes or refuses (R81, R88). -/

namespace Sys2Proof.Machine

open Sys2Proof

variable {s t u : State} {p : Params}

/-! ## A request (R67, R88) -/

theorem takesRequest_iff :
    s.takesRequest = true ↔
      s.slot.view = .free ∧ s.slot.gap = none ∧ s.slot.joinPassed = true ∧ s.sequencer.conflict = false ∧
        s.sequencer.train ≠ .unconfigured := by
  simp [State.takesRequest, and_assoc]

/-- The key of a request (R64, R65). -/
def State.requestKey (k : Kind) (s : State) : Nat :=
  match k with
  | .start => s.ownStartKey
  | .stop => s.ownStopKey

/-- The withhold cause of a request (R67). -/
def State.requestCause (k : Kind) (s : State) : BidCause :=
  match k with
  | .start => .none
  | .stop => s.bidCause

theorem request_of_refused (k : Kind) (refuses : s.takesRequest = false) : request k s = s :=
  if_neg (by rw [refuses]; exact Bool.false_ne_true)

/-- The state of a request taken, before its BID joins the set. -/
def requested (k : Kind) (s : State) : State :=
  { s with
    slot :=
      { s.slot with
        view := .ownPending
          { intent := k, key := s.requestKey k, cause := s.requestCause k, sent := false, window := none }
        gap := none }
    staging := { s.staging with up := 0, down := 0 } }

theorem request_of_taken (k : Kind) (takes : s.takesRequest = true) :
    request k s = queueFrame
      (.bid { uid := s.ident.uid, intent := k, key := s.requestKey k, cause := s.requestCause k }) (requested k s) := by
  cases k <;> exact if_pos takes

theorem request_takesClaim (k : Kind) (takes : s.takesRequest = true) :
    takesClaim k (s.requestKey k) (s.requestCause k) s (request k s) := by
  have clear : s.sequencer.conflict = false := (takesRequest_iff.mp takes).2.2.2.1
  rw [request_of_taken k takes]
  refine ⟨?_, ?_, ?_, ?_⟩
  · exact queueFrame_frame _ .slot (by decide)
  · rw [queueFrame_set (s := requested k s) _ clear]
    rfl
  · rw [queueFrame_frame _ .staging (by decide)]
    rfl
  · rw [queueFrame_frame _ .staging (by decide)]
    rfl

theorem request_frame_claims (k : Kind) : changesOnly [.staging, .slot, .line] s (request k s) := by
  unfold request
  split
  · refine changesOnly.trans ?_ ((queueFrame_frame _).mono (by decide))
    exact fun b hb => by cases b <;> first | rfl | exact absurd (by decide) hb
  · exact changesOnly_refl _ _

/-! ## A pending claim cancelled (R91) -/

theorem cancelRequest_cancels {o : YieldOutcome} {q : PendingView} (view : s.slot.view = .ownPending q)
    (clear : s.sequencer.conflict = false) : cancelsClaim o q s (cancelRequest (some o) s) := by
  have freed : (viewFree s).line.set.bid = none := viewFree_bid_of_own (by rw [view]; rfl)
  cases sent : q.sent with
  | true =>
    have sends : cancelRequest (some o) s = queueYield o q.intent (viewFree s) := by simp only [cancelRequest, view, sent]
    rw [sends]
    refine ⟨queueYield_slot o q.intent, (queueYield_bid o q.intent).trans freed,
      fun _ => queueYield_yield (s := viewFree s) o q.intent clear, fun k => ?_⟩
    exact absurd (sent.symm.trans k) (by decide)
  | false =>
    have drops : cancelRequest (some o) s = viewFree s := by simp only [cancelRequest, view, sent]
    rw [drops]
    refine ⟨viewFree_slot, freed, fun k => ?_, fun _ => viewFree_yield⟩
    exact absurd (sent.symm.trans k) (by decide)

/-- READY left with a START claim pending, or RUNNING with a STOP claim (R91). -/
theorem leaving_cancels {o : YieldOutcome} {q : PendingView} {x : Train} (view : s.slot.view = .ownPending q)
    (out : x ≠ s.sequencer.train) (clear : s.sequencer.conflict = false)
    (h : q.intent = .start ∧ s.sequencer.train = .ready ∨ q.intent = .stop ∧ s.sequencer.train = .running) :
    cancelsClaim o q s (leaving o x s) := by
  have cancels : leaving o x s = cancelRequest (some o) s := by
    obtain ⟨intent, key, cause, sent, window⟩ := q
    rw [leaving, if_neg out]
    rcases h with ⟨rfl, train⟩ | ⟨rfl, train⟩ <;> simp only [cancelOnLeaving, view, train]
  rw [cancels]
  exact cancelRequest_cancels view clear

theorem cancelsClaim.congr {o : YieldOutcome} {q : PendingView} (h : cancelsClaim o q s t) (slot : u.slot = t.slot)
    (bid : u.line.set.bid = t.line.set.bid) (yield : u.line.set.yield = t.line.set.yield) : cancelsClaim o q s u := by
  obtain ⟨view, none, sent, unsent⟩ := h
  exact ⟨slot.trans view, bid.trans none, fun k => yield.trans (sent k), fun k => yield.trans (unsent k)⟩

theorem cancelsClaim.finish {o : YieldOutcome} {q : PendingView} {before : State} (h : cancelsClaim o q s t) :
    cancelsClaim o q s (Machine.finish before t) :=
  h.congr (finish_slot before) (finish_set before).2.1 (finish_set before).1

theorem cancelsClaim.rebase {o : YieldOutcome} {q : PendingView} {bs : List Block} (h : cancelsClaim o q u t)
    (frame : changesOnly bs s u) (slot : Block.slot ∉ bs) (line : Block.line ∉ bs) (loader : Block.loader ∉ bs)
    (time : Block.time ∉ bs) (ident : Block.ident ∉ bs) : cancelsClaim o q s t := by
  obtain ⟨view, none, sent, unsent⟩ := h
  have hs : u.slot = s.slot := frame .slot slot
  have hi : u.ident = s.ident := frame .ident ident
  have hl : u.line = s.line := frame .line line
  rw [gapStarted_congr (frame .loader loader) (frame .time time), hs] at view
  rw [hi] at sent
  rw [hl] at unsent
  exact ⟨view, none, sent, unsent⟩

/-! ## How a change of the condition is answered (R111) -/

theorem withheldStopRequest_of_other (h : s.sequencer.train ≠ .running) : withheldStopRequest s = s :=
  if_neg fun k => h k.1

theorem withholdChanged_of_same {was arose : Bool} (ended : s.loadEnded = true) (same : was = s.withheld) :
    withholdChanged was arose s = if arose then withheldStopRequest s else s := by
  unfold withholdChanged
  rw [if_pos ended, same]
  cases s.withheld <;> rfl

theorem withholdChanged_of_waiting {arose : Bool} (ended : s.loadEnded = true) (holds : s.withheld = true)
    (waits : s.sequencer.train = .rest ∨ s.sequencer.train = .ready) :
    withholdChanged false arose s = moveTo .aborted .withheld s := by
  have rises : withholdRises s = moveTo .aborted .withheld s := by
    rcases waits with h | h <;> simp only [withholdRises, h]
  unfold withholdChanged
  rw [if_pos ended, holds]
  show (if arose = true then withheldStopRequest (withholdRises s) else withholdRises s) = _
  rw [rises, withheldStopRequest_of_other (by rw [moveTo_train]; decide)]
  split <;> rfl

theorem abortStart_not_running (start : s.sequencer.train.isStarting = true) :
    (abortStart s).sequencer.train ≠ .running := by
  have released : (release .aborted s).sequencer = s.sequencer := release_train .aborted
  rw [abortStart, if_pos start]
  rcases leaveStart_cases (s := release .aborted s) (by rw [released]; exact start) with h | h <;> rw [h] <;> decide

theorem withholdChanged_of_starting {arose : Bool} (ended : s.loadEnded = true) (holds : s.withheld = true)
    (start : s.sequencer.train.isStarting = true) : withholdChanged false arose s = abortStart s := by
  have rises : withholdRises s = abortStart s := by
    cases train : s.sequencer.train <;> simp only [withholdRises, train] <;> (rw [train] at start; cases start)
  unfold withholdChanged
  rw [if_pos ended, holds]
  show (if arose = true then withheldStopRequest (withholdRises s) else withholdRises s) = _
  rw [rises, withheldStopRequest_of_other (abortStart_not_running start)]
  split <;> rfl

theorem withholdChanged_of_running {was arose : Bool} (ended : s.loadEnded = true) (running : s.sequencer.train = .running)
    (set : arose = true → s.withheld = true) :
    withholdChanged was arose s = if arose then request .stop s else s := by
  have still : withholdRises s = s := by simp only [withholdRises, running]
  have falls : withholdFalls s = s := by simp only [withholdFalls, running]
  have asks : arose = true → withheldStopRequest s = request .stop s := fun k => if_pos ⟨running, set k⟩
  unfold withholdChanged
  rw [if_pos ended, still, falls]
  simp only [ite_self]
  cases arose with
  | false => rfl
  | true => exact asks rfl

theorem withholdChanged_of_freed {arose : Bool} (ended : s.loadEnded = true) (free : s.withheld = false)
    (set : arose = true → s.withheld = true) (waits : s.sequencer.train = .withheld) :
    withholdChanged true arose s = enterRest s := by
  have falls : withholdFalls s = enterRest s := by simp only [withholdFalls, waits]
  have quiet : arose = false := by
    cases arose with
    | false => rfl
    | true => exact absurd (free.symm.trans (set rfl)) (by decide)
  unfold withholdChanged
  rw [if_pos ended, free, quiet]
  exact falls

/-- WITHHELD passes to REST, and through it to READY with the rest timer expired (R110). -/
theorem enterRest_records (clear : s.sequencer.conflict = false) (waits : s.sequencer.train = .withheld) :
    (s.sequencer.rest ≠ .expired →
        (enterRest s).sequencer.train = .rest ∧ Records [(.stateChange, s.own, 16)] s (enterRest s)) ∧
      (s.sequencer.rest = .expired →
        (enterRest s).sequencer.train = .ready ∧
          Records [(.stateChange, s.own, 16), (.stateChange, s.own, 32)] s (enterRest s)) := by
  have first := moveTo_records (s := s) .aborted .rest
  rw [moveRecords_of_code clear (by rw [waits]; decide)] at first
  have kept : (moveTo .aborted .rest s).sequencer.rest = s.sequencer.rest := moveTo_rest _ _
  refine ⟨fun runs => ?_, fun expired => ?_⟩
  · have stays : enterRest s = moveTo .aborted .rest s := by
      unfold enterRest
      dsimp only
      split
      · next e => exact absurd (kept.symm.trans e) runs
      · rfl
    rw [stays]
    exact ⟨moveTo_train _ _, first⟩
  · have passes : enterRest s = moveTo .aborted .ready (moveTo .aborted .rest s) := by
      unfold enterRest
      dsimp only
      rw [kept, expired]
    have second := moveTo_records (s := moveTo .aborted .rest s) .aborted .ready
    rw [moveRecords_of_code (by rw [moveTo_conflict]; exact clear) (by rw [moveTo_train]; decide),
      own_congr (moveTo_frame .aborted .rest .ident (by decide))] at second
    rw [passes]
    exact ⟨moveTo_train _ _, first.trans second⟩

/-! ## The three commands -/

/-- What one of the three commands sets before the condition is looked at, and whether a cause arose. -/
structure CauseSet (level : Bool) (c : Instr) (s u : State) (arose : Bool) : Prop where
  frame : changesOnly [.pins, .lport] s u
  command : c ≠ .withholdLineChange level → u.lport.withholdCmd = level ∧ u.pins = s.pins ∧ u.lport.reply = [0]
  line : c = .withholdLineChange level →
    u.pins = { s.pins with withhold := level } ∧ u.lport.withholdCmd = s.lport.withholdCmd ∧ u.lport.reply = s.lport.reply
  arose_iff : arose = true ↔
    (c = .withhold ∧ s.lport.withholdCmd = false ∨ c = .withholdLineChange true ∧ s.pins.withhold = false)
  set : arose = true → (u.pins.withhold || u.lport.withholdCmd) = true

theorem cause_set {level : Bool} {c : Instr}
    (h : level = true ∧ c = .withhold ∨ level = false ∧ c = .returnCmd ∨ c = .withholdLineChange level) :
    ∃ u arose, CauseSet level c s u arose ∧ exec c s = .next (finish s (withholdChanged s.withheld arose u)) := by
  rcases h with ⟨rfl, rfl⟩ | ⟨rfl, rfl⟩ | rfl
  · refine ⟨answer replyDone { s with lport := { s.lport with withholdCmd := true } }, !s.lport.withholdCmd,
      ⟨fun b hb => ?_, fun _ => ⟨rfl, rfl, rfl⟩, fun k => (nomatch k), by simp, fun _ => ?_⟩, rfl⟩
    · cases b <;> first | rfl | exact absurd (by decide) hb
    · exact Bool.or_true _
  · refine ⟨answer replyDone { s with lport := { s.lport with withholdCmd := false } }, false,
      ⟨fun b hb => ?_, fun _ => ⟨rfl, rfl, rfl⟩, fun k => (nomatch k), by simp, fun k => (nomatch k)⟩, rfl⟩
    cases b <;> first | rfl | exact absurd (by decide) hb
  · refine ⟨{ s with pins := { s.pins with withhold := level } }, level && !s.pins.withhold,
      ⟨fun b hb => ?_, fun k => absurd rfl k, fun _ => ⟨rfl, rfl, rfl⟩, by simp, fun k => ?_⟩, rfl⟩
    · cases b <;> first | rfl | exact absurd (by decide) hb
    · rw [Bool.and_eq_true] at k
      rw [show ({ s.pins with withhold := level } : Pins).withhold = true from k.1]
      rfl

theorem takesClaim.congr {k : Kind} {key : Nat} {cause : BidCause} (h : takesClaim k key cause s t)
    (slot : u.slot = t.slot) (bid : u.line.set.bid = t.line.set.bid) (staging : u.staging = t.staging) :
    takesClaim k key cause s u := by
  obtain ⟨view, claim, up, down⟩ := h
  exact ⟨slot.trans view, bid.trans claim, by rw [staging]; exact up, by rw [staging]; exact down⟩

theorem takesClaim.finish {k : Kind} {key : Nat} {cause : BidCause} {before : State} (h : takesClaim k key cause s t) :
    takesClaim k key cause s (Machine.finish before t) :=
  h.congr (finish_slot before) (finish_set before).2.1 (finish_staging before)

theorem takesClaim.rebase {k : Kind} {key : Nat} {cause : BidCause} (h : takesClaim k key cause u t)
    (slot : u.slot = s.slot) (ident : u.ident = s.ident) : takesClaim k key cause s t := by
  obtain ⟨view, claim, up, down⟩ := h
  rw [slot] at view
  rw [ident] at claim
  exact ⟨view, claim, up, down⟩

/-- The stop key reads withhold causes, capability and run time alone. -/
theorem ownStopKey_congr (loader : t.loader = s.loader) (pins : t.pins = s.pins) (command : t.lport.withholdCmd = s.lport.withholdCmd)
    (roster : t.roster = s.roster) (capability : t.capability = s.capability) (sequencer : t.sequencer = s.sequencer) :
    t.ownStopKey = s.ownStopKey := by
  have ended : t.loadEnded = s.loadEnded := by rw [State.loadEnded, State.loadEnded, loader]
  have withheld : t.withheld = s.withheld := by rw [State.withheld, State.withheld, pins, command, roster]
  have health : t.ownTally.health = s.ownTally.health := by rw [ownTally_health, ownTally_health, capability]
  have hours : t.ownTally.runHours = s.ownTally.runHours := congrArg (fun q : Sequencer => q.runSeconds / 3600) sequencer
  have key : stopKey t.ownTally = stopKey s.ownTally := by
    rw [stopKey, stopKey, health, hours, show t.ownTally.withheld = s.ownTally.withheld from withheld]
  rw [State.ownStopKey, State.ownStopKey, ended, key]

/-- The key of a withheld train stands below every key of a train that is not (R65). -/
theorem ownStopKey_lt_of_withheld (h : s.withheld = true) : s.ownStopKey < 8388608 := by
  have key : stopKey s.ownTally < 8388608 := by
    rw [stopKey, if_pos (show s.ownTally.withheld = true from h)]
    omega
  unfold State.ownStopKey
  split
  · exact key
  · decide

theorem withheld_of_set (h : (s.pins.withhold || s.lport.withholdCmd) = true) :
    s.withheld = true ∧ s.bidCause = .withheld := by
  refine ⟨?_, if_pos h⟩
  rw [State.withheld, h]
  rfl

/-- A RUNNING train asked to stop: what its request leaves, taken or refused. -/
theorem stop_requested (clear : s.sequencer.conflict = false) (running : s.sequencer.train = .running) :
    (s.slot.view = .free → s.slot.gap = none → s.slot.joinPassed = true →
        takesClaim .stop s.ownStopKey s.bidCause s (request .stop s)) ∧
      (¬(s.slot.view = .free ∧ s.slot.gap = none ∧ s.slot.joinPassed = true) → request .stop s = s) := by
  refine ⟨fun view gap join => ?_, fun refuses => ?_⟩
  · exact request_takesClaim .stop (takesRequest_iff.mpr ⟨view, gap, join, clear, by rw [running]; decide⟩)
  · refine request_of_refused .stop ?_
    by_contra takes
    obtain ⟨view, gap, join, -⟩ := takesRequest_iff.mp (by simpa using takes)
    exact refuses ⟨view, gap, join⟩

theorem withholdChanged_kept (was arose : Bool) :
    (withholdChanged was arose s).pins = s.pins ∧
      (withholdChanged was arose s).lport.withholdCmd = s.lport.withholdCmd ∧
      (withholdChanged was arose s).lport.reply = s.lport.reply ∧
      (withholdChanged was arose s).roster = s.roster ∧ (withholdChanged was arose s).withheld = s.withheld := by
  have pins : (withholdChanged was arose s).pins = s.pins := (withholdChanged_frame was arose) .pins (by decide)
  have roster : (withholdChanged was arose s).roster = s.roster := (withholdChanged_frame was arose) .roster (by decide)
  have lport := (withholdChanged_offPort (s := s) was arose).logged.lport_eq
  refine ⟨pins, by rw [lport], by rw [lport], roster, ?_⟩
  rw [State.withheld, State.withheld, pins, roster, lport]

/-- Settles O30: what each of the three commands sets, then the train's answer by its state. -/
theorem withholdCausesMoveTheWaitingTrain : Obligations.WithholdCausesMoveTheWaitingTrain := by
  intro level s ended clear c command
  obtain ⟨u, arose, cause, run⟩ := cause_set (s := s) command
  let r := withholdChanged s.withheld arose u
  obtain ⟨pins, withholdCmd, reply, roster, withheld⟩ := withholdChanged_kept (s := u) s.withheld arose
  have frame := cause.frame
  have sequencer : u.sequencer = s.sequencer := frame .sequencer (by decide)
  have slot : u.slot = s.slot := frame .slot (by decide)
  have loader : u.loader = s.loader := frame .loader (by decide)
  have mark : u.sequencer.conflict = false := by rw [sequencer]; exact clear
  have live : u.loadEnded = true := by rw [State.loadEnded, loader]; exact ended
  have silent : Records [] s u := .of_frame frame (by decide) (by decide)
  have own : u.own = s.own := own_congr (frame .ident (by decide))
  have holds : (finish s r).withheld = u.withheld := by
    rw [State.withheld, finish_pins, finish_lport, finish_roster]
    exact withheld
  have set : arose = true → u.withheld = true := fun k => (withheld_of_set (cause.set k)).1
  refine ⟨_, run, fun other => ?_, fun line => ?_, ?_, fun was now waits => ?_, fun was now ready q view intent => ?_,
    fun was now start => ?_, fun running arises => ?_, fun was now waits => ?_, fun same => ?_, fun running => ?_, ?_⟩
  · obtain ⟨cmd, pin, rep⟩ := cause.command other
    rw [finish_lport, finish_pins, withholdCmd, pins, reply]
    exact ⟨cmd, pin, rep⟩
  · obtain ⟨pin, cmd, rep⟩ := cause.line line
    rw [finish_lport, finish_pins, withholdCmd, pins, reply]
    exact ⟨pin, cmd, rep⟩
  · rw [finish_roster, roster]; exact frame .roster (by decide)
  · have moves := withholdChanged_of_waiting (arose := arose) live (holds.symm.trans now) (by rw [sequencer]; exact waits)
    have note := moveTo_records (s := u) .aborted .withheld
    rw [moveRecords_of_code mark (by rw [sequencer]; rcases waits with h | h <;> rw [h] <;> decide), own] at note
    rw [finish_sequencer, finish_queue, was, moves]
    exact ⟨moveTo_train _ _, (silent.trans note).queue⟩
  · have moves := withholdChanged_of_waiting (arose := arose) live (holds.symm.trans now) (by rw [sequencer]; exact .inr ready)
    have cancels : cancelsClaim .aborted q u (leaving .aborted .withheld u) :=
      leaving_cancels (by rw [slot]; exact view) (by rw [sequencer, ready]; decide) mark
        (.inl ⟨intent, by rw [sequencer]; exact ready⟩)
    rw [was, moves]
    exact ((cancels.congr (moveTo_slot _ _) (by rw [moveTo_line]) (by rw [moveTo_line])).rebase frame (by decide)
      (by decide) (by decide) (by decide) (by decide)).finish
  · have starts : u.sequencer.train.isStarting = true := by rw [sequencer]; exact start
    have aborts := withholdChanged_of_starting (arose := arose) live (holds.symm.trans now) starts
    have moves : OnlyMoves u (abortStart u) := abortStart_onlyMoves
    rw [finish_sequencer, was, aborts]
    refine ⟨?_, ?_, fun p params valve => ?_, fun k hold view => ?_⟩
    · rw [moves.failures, sequencer]
    · rw [moves.starts, sequencer]
    · rw [abortStart_train starts (by rw [loader]; exact params) (by rw [sequencer]; exact valve)]
      exact abortsTo_congr (by rw [sequencer]) (by rw [frame .trim (by decide)]) (by rw [frame .port (by decide)])
    · exact ((abortStart_gives starts (by rw [slot]; exact view) mark).rebase frame (by decide) (by decide) (by decide)
        (by decide)).finish
  · have runs : u.sequencer.train = .running := by rw [sequencer]; exact running
    have asks : arose = true := cause.arose_iff.mpr arises
    have answers := withholdChanged_of_running (was := s.withheld) live runs set
    rw [if_pos asks] at answers
    obtain ⟨taken, refused⟩ := stop_requested mark runs
    obtain ⟨isWithheld, because⟩ := withheld_of_set (cause.set asks)
    rw [answers]
    refine ⟨fun view gap join => ?_, fun refuses => ?_⟩
    · have claim := taken (by rw [slot]; exact view) (by rw [slot]; exact gap) (by rw [slot]; exact join)
      have requests := request_frame_claims (s := u) .stop
      have key : (finish s (request .stop u)).ownStopKey = u.ownStopKey :=
        ownStopKey_congr ((finish_loader s).trans (requests .loader (by decide)))
          ((finish_pins s).trans (requests .pins (by decide)))
          (by rw [finish_lport, requests .lport (by decide)]) ((finish_roster s).trans (requests .roster (by decide)))
          ((finish_capability s).trans (requests .capability (by decide)))
          ((finish_sequencer s).trans (requests .sequencer (by decide)))
      rw [because] at claim
      rw [key]
      exact ⟨(claim.rebase slot (frame .ident (by decide))).finish, ownStopKey_lt_of_withheld isWithheld⟩
    · rw [refused (by rw [slot]; exact refuses), finish_slot, finish_staging]
      exact ⟨slot, frame .staging (by decide)⟩
  · have rests := withholdChanged_of_freed (arose := arose) live (holds.symm.trans now) set (by rw [sequencer]; exact waits)
    obtain ⟨stays, passes⟩ := enterRest_records mark (by rw [sequencer]; exact waits)
    rw [sequencer, own] at stays passes
    rw [finish_sequencer, finish_queue, was, rests]
    exact ⟨fun k => ⟨(stays k).1, (silent.trans (stays k).2).queue⟩, fun k => ⟨(passes k).1, (silent.trans (passes k).2).queue⟩⟩
  · have answers := withholdChanged_of_same (arose := arose) live (same.trans holds)
    have kept : (withheldStopRequest u).sequencer = u.sequencer ∧ (withheldStopRequest u).queue = u.queue := by
      unfold withheldStopRequest
      split
      · exact ⟨request_frame_claims .stop .sequencer (by decide), request_frame_claims .stop .queue (by decide)⟩
      · exact ⟨rfl, rfl⟩
    rw [finish_sequencer, finish_queue, answers]
    split
    · exact ⟨kept.1.trans sequencer, kept.2.trans silent.queue⟩
    · exact ⟨sequencer, silent.queue⟩
  · have answers := withholdChanged_of_running (was := s.withheld) live (by rw [sequencer]; exact running) set
    rw [finish_sequencer, answers]
    split
    · exact (request_frame_claims .stop .sequencer (by decide)).trans sequencer
    · exact sequencer
  · exact (frame.mono (by decide)).trans
      (((withholdChanged_frame s.withheld arose).mono (by decide)).trans ((finish_frame s).mono (by decide)))

end Sys2Proof.Machine
end

section
/-! The capacity chain written out, and the two timers that recompute it (R22 to R25, R31, R33, R84, R145). -/

namespace Sys2Proof.Machine

open Sys2Proof

variable {s t u : State} {p : Params}

/-! ## The chain (section 2.3) -/

theorem tcfFactor_eq (tcf : Vector Nat 33) {temp : Nat} (h : temp ≤ 4000) :
    tcfFactor tcf temp =
      if temp = 4000 then (((tcf[32]?).getD 0 : Nat) : Int)
      else
        (((tcf[temp / 125]?).getD 0 : Nat) : Int) +
          (((((tcf[temp / 125 + 1]?).getD 0 : Nat) : Int) - ((tcf[temp / 125]?).getD 0 : Nat)) * (temp % 125 : Nat)).tdiv 125 := by
  have last : temp / 125 < 32 ↔ ¬temp = 4000 := by omega
  unfold tcfFactor
  by_cases top : temp = 4000
  · simp only [if_neg (show ¬temp / 125 < 32 by omega), if_pos top]
  · simp only [if_pos (last.mpr top), if_neg top]

theorem classPct_eq (c : Fin 4) : classPct c = if c = 0 then 100 else if c = 1 then 90 else if c = 2 then 75 else 60 := by
  revert c
  decide

theorem classPct_le (c : Fin 4) : classPct c ≤ 100 := by
  revert c
  decide

theorem qmaxHealth_le (p : Params) (tcf : Vector Nat 33) (temp : Nat) (c : Fin 4) : qmaxHealth p tcf temp c ≤ 65535 := by
  have top : min ((p.qmaxNom : Int) * tcfFactor tcf temp / 1024).toNat 65535 ≤ 65535 := Nat.min_le_right ..
  have product := Nat.mul_le_mul top (classPct_le c)
  unfold qmaxHealth
  dsimp only
  omega

/-- No cap is a cap that no capacity reaches (R24). -/
theorem cappedCapacity_eq (p : Params) (tcf : Vector Nat 33) (temp : Nat) (c : Fin 4) (cap : Option Nat) :
    cappedCapacity p tcf temp c cap = min (qmaxHealth p tcf temp c) (cap.getD 65535) := by
  cases cap with
  | none => exact (Nat.min_eq_left (qmaxHealth_le p tcf temp c)).symm
  | some n => rfl

theorem capacityChain_eq (p : Params) (tcf : Vector Nat 33) (temp : Nat) (c : Fin 4) (cap : Option Nat) :
    capacityChain p tcf temp c cap =
      (max (cappedCapacity p tcf temp c cap) p.qmin, decide (cappedCapacity p tcf temp c cap < p.qmin)) := by
  unfold capacityChain
  dsimp only
  split
  · next low => rw [Nat.max_eq_left low, decide_eq_false (Nat.not_lt.mpr low)]
  · next high => rw [Nat.max_eq_right (by omega), decide_eq_true (by omega)]

/-! ## The recomputation (R26, R84) -/

/-- SP is brought down to a lower capacity in RUNNING. -/
theorem recompute_staging (params : s.loader.params = some p) :
    let qmax := (capacityChain p s.capability.tcf s.capability.temp s.capability.held s.capability.cap).1
    (s.sequencer.train = .running → qmax < s.staging.sp → (recompute s).staging = { s.staging with sp := qmax }) ∧
      (¬(s.sequencer.train = .running ∧ qmax < s.staging.sp) → (recompute s).staging = s.staging) := by
  refine ⟨fun running above => ?_, fun stays => ?_⟩
  · simp only [recompute, params]
    rw [if_pos ⟨running, above⟩]
    rfl
  · simp only [recompute, params]
    rw [if_neg stays]

theorem exec_classHoldExpiry {fall : Fin 4} (runs : s.capability.holdTimer.isSome = true)
    (target : s.capability.fallTarget = some fall) :
    exec .classHoldExpiry s = .next (recompute
      { s with capability := { s.capability with held := fall, holdTimer := none, fallTarget := none } }) := by
  obtain ⟨timer, runs⟩ := Option.isSome_iff_exists.mp runs
  simp only [exec, execClassHoldExpiry, runs, target]

/-- A saturation in RUNNING: the cap set and the chain recomputed, with CAPACITY_CAPPED (R33). -/
def saturated (s : State) : State := recompute { s with capability := { s.capability with cap := some (s.chan 1) } }

theorem exec_saturationTimerExpiry (params : s.loader.params = some p) (runs : s.trim.sat.isSome = true) :
    exec .saturationTimerExpiry s = .next
      { takeSaturation (s.chan 1) s with trim :=
        { (takeSaturation (s.chan 1) s).trim with sat := some { since := s.time, span := p.satTime * 1024 } } } := by
  obtain ⟨timer, runs⟩ := Option.isSome_iff_exists.mp runs
  simp only [exec, execSaturationTimerExpiry, runs, params, startTimer, seconds]

theorem takeSaturation_of_running (running : s.sequencer.train = .running) :
    takeSaturation (s.chan 1) s =
      raiseOwn .capacityCapped (flagNat (saturated s).capability.unfit) (saturated s) := if_pos running

theorem takeSaturation_of_other (other : s.sequencer.train ≠ .running) : takeSaturation (s.chan 1) s = s := if_neg other

theorem flagNat_decide (c : Prop) [Decidable c] : flagNat (decide c) = if c then 1 else 0 := by
  by_cases h : c <;> simp [flagNat, h]

/-- Settles O52: both timers through the chain. -/
theorem capacityFollowsClassAndSaturation : Obligations.CapacityFollowsClassAndSaturation := by
  intro p s params cold e k factor atTemp pct capped follows
  have chained : ∀ (c : Fin 4) (o : Option Nat), cappedCapacity p s.capability.tcf s.capability.temp c o = capped c o := fun c o => by
    rw [cappedCapacity_eq, qmaxHealth, tcfFactor_eq _ cold, classPct_eq]
  have chain : ∀ (c : Fin 4) (o : Option Nat), capacityChain p s.capability.tcf s.capability.temp c o =
      (max (capped c o) p.qmin, decide (capped c o < p.qmin)) := fun c o => by
    rw [capacityChain_eq, chained]
  refine ⟨fun fall runs target => ?_, fun runs => ⟨fun running => ?_, fun other => ?_⟩⟩
  · let w : State := { s with capability := { s.capability with held := fall, holdTimer := none, fallTarget := none } }
    have capability := recompute_capability (s := w) params
    have staging := recompute_staging (s := w) params
    rw [show w.capability.tcf = s.capability.tcf from rfl, show w.capability.temp = s.capability.temp from rfl, chain]
      at capability staging
    exact ⟨_, exec_classHoldExpiry runs target, ((capability_frame _).mono (by decide)).trans recompute_frame,
      capability, staging⟩
  · let w : State := { s with capability := { s.capability with cap := some (s.chan 1) } }
    have run := exec_saturationTimerExpiry params runs
    have capability := recompute_capability (s := w) params
    have staging := recompute_staging (s := w) params
    have frame : changesOnly [.capability, .staging, .trim] s (saturated s) :=
      ((capability_frame _).mono (by decide)).trans recompute_frame
    rw [show w.capability.tcf = s.capability.tcf from rfl, show w.capability.temp = s.capability.temp from rfl, chain]
      at capability staging
    rw [takeSaturation_of_running running] at run
    have unfit : (saturated s).capability.unfit = decide (capped s.capability.held (some (s.chan 1)) < p.qmin) :=
      congrArg Capability.unfit capability
    obtain ⟨speed, mode⟩ := recompute_speed (s := w)
    have capped_ : Records [(.capacityCapped, s.own, if capped s.capability.held (some (s.chan 1)) < p.qmin then 1 else 0)] s
        (raiseOwn .capacityCapped (flagNat (saturated s).capability.unfit) (saturated s)) := by
      have silent : Records [] s (saturated s) := .of_frame frame (by decide) (by decide)
      have raised := silent.trans (Records.raiseOwn (s := saturated s) .capacityCapped (flagNat (saturated s).capability.unfit))
      rw [own_congr (frame .ident (by decide)), unfit, flagNat_decide] at raised
      rw [unfit, flagNat_decide]
      exact raised
    exact ⟨_, run, (frame.mono (by decide)).trans
        (((raiseOwn_frame _ _).mono (by decide)).trans ((trim_frame _).mono (by decide))),
      capability, rfl, speed, mode, staging, capped_.queue⟩
  · have run := exec_saturationTimerExpiry params runs
    rw [takeSaturation_of_other other] at run
    exact run

end Sys2Proof.Machine
end

section
/-! The level and its source after a change of the roster or of channel 4 (R1 to R4), and the peers that fall silent (R46,
R47). -/

namespace Sys2Proof.Machine

open Sys2Proof

variable {s t u g : State} {p : Params}

/-! ## The lower median (R2) -/

theorem insertSorted_eq (a : Nat) (l : List Nat) : insertSorted a l = l.orderedInsert (· ≤ ·) a := by
  induction l with
  | nil => rfl
  | cons b l ih => rw [insertSorted, List.orderedInsert, ih]

theorem sortAsc_eq (l : List Nat) : sortAsc l = l.insertionSort (· ≤ ·) := by
  induction l with
  | nil => rfl
  | cons a l ih =>
    rw [sortAsc, List.foldr_cons, insertSorted_eq, List.insertionSort_cons, ← ih]
    rfl

theorem sortAsc_perm (l : List Nat) : (sortAsc l).Perm l := sortAsc_eq l ▸ List.perm_insertionSort _ l

theorem sortAsc_sorted (l : List Nat) : (sortAsc l).Pairwise (· ≤ ·) := sortAsc_eq l ▸ List.pairwise_insertionSort _ l

/-- In ascending readings no more than its index stand below a reading, and more than its index at or below it. -/
theorem counts_of_sorted {l : List Nat} (sorted : l.Pairwise (· ≤ ·)) {i : Nat} (h : i < l.length) :
    (l.filter fun n => decide (n < l[i])).length ≤ i ∧ i < (l.filter fun n => decide (n ≤ l[i])).length := by
  have ordered := List.pairwise_iff_getElem.mp sorted
  refine ⟨?_, ?_⟩
  · have above : (l.drop i).filter (fun n => decide (n < l[i])) = [] := by
      rw [List.filter_eq_nil_iff]
      intro n mem
      obtain ⟨j, hj, rfl⟩ := List.getElem_of_mem mem
      rw [List.getElem_drop, decide_eq_true_iff, Nat.not_lt]
      rcases Nat.eq_zero_or_pos j with rfl | pos
      · simp
      · exact ordered i (i + j) h _ (by omega)
    calc (l.filter fun n => decide (n < l[i])).length
        = ((l.take i ++ l.drop i).filter fun n => decide (n < l[i])).length := by rw [List.take_append_drop]
      _ = ((l.take i).filter fun n => decide (n < l[i])).length := by rw [List.filter_append, above, List.append_nil]
      _ ≤ (l.take i).length := List.length_filter_le ..
      _ ≤ i := List.length_take_le ..
  · have below : (l.take (i + 1)).filter (fun n => decide (n ≤ l[i])) = l.take (i + 1) := by
      rw [List.filter_eq_self]
      intro n mem
      obtain ⟨j, hj, rfl⟩ := List.getElem_of_mem mem
      rw [List.getElem_take, decide_eq_true_iff]
      rw [List.length_take] at hj
      rcases Nat.lt_or_eq_of_le (show j ≤ i by omega) with lt | rfl
      · exact ordered j i _ h lt
      · exact Nat.le_refl _
    calc i < (l.take (i + 1)).length := by rw [List.length_take]; omega
      _ = ((l.take (i + 1)).filter fun n => decide (n ≤ l[i])).length := by rw [below]
      _ ≤ ((l.take (i + 1) ++ l.drop (i + 1)).filter fun n => decide (n ≤ l[i])).length := by
        rw [List.filter_append, List.length_append]; omega
      _ = (l.filter fun n => decide (n ≤ l[i])).length := by rw [List.take_append_drop]

theorem filter_length_sortAsc (l : List Nat) (f : Nat → Bool) : ((sortAsc l).filter f).length = (l.filter f).length :=
  ((sortAsc_perm l).filter f).length_eq

theorem median_isLowerMedian {l : List Nat} {m : Nat} (h : median l = some m) : isLowerMedian l m := by
  obtain ⟨hi, rfl⟩ := List.getElem?_eq_some_iff.mp h
  obtain ⟨below, upto⟩ := counts_of_sorted (sortAsc_sorted l) hi
  rw [filter_length_sortAsc] at below upto
  exact ⟨(sortAsc_perm l).mem_iff.mp (List.getElem_mem hi), below, upto⟩

theorem median_eq_none {l : List Nat} : median l = none ↔ l = [] := by
  rw [median, List.getElem?_eq_none_iff, (sortAsc_perm l).length_eq]
  cases l <;> simp
  omega

/-! ## The level follows (R1 to R4) -/

theorem judgeLevel_of_available {src : LevelSource} {lvl : Nat} (params : s.loader.params = some p)
    (available : s.availableLevel = some (src, lvl)) :
    (judgeLevel s).demand =
        (if s.demand.source = .lost then { s.demand with source := src, level := lvl, lostTimer := none, lPrev := none }
        else { s.demand with source := src, level := lvl, lostTimer := none }) ∧
      Records (if s.demand.source = .lost then [(.levelRestored, s.own, src.code)] else []) s (judgeLevel s) := by
  simp only [judgeLevel, params, available]
  split <;> exact ⟨rfl, rfl, rfl⟩

theorem judgeLevel_of_none (params : s.loader.params = some p) (none : s.availableLevel = none) :
    (judgeLevel s).demand =
        (if s.demand.source = .lost then s.demand
        else { s.demand with
          lostTimer := s.demand.lostTimer.orElse fun _ => some { since := s.time, span := p.levelLostDelay * 1024 } }) ∧
      Records [] s (judgeLevel s) := by
  simp only [judgeLevel, params, none]
  split <;> exact ⟨rfl, rfl, rfl⟩

theorem availableLevel_of_valid (h : s.chanValid 4 = true) : s.availableLevel = some (.own, min (s.chan 4) 10000) := if_pos h

theorem availableLevel_of_invalid (h : s.chanValid 4 = false) :
    s.availableLevel = (median s.qualifyingLevels).map fun m => (.peers, m) := if_neg (by rw [h]; exact Bool.false_ne_true)

/-- A record stands among those of a taking. -/
theorem Records.within {l : List (EventKind × Nat × Nat)} {r : EventKind × Nat × Nat} (before : Records l s u)
    (raised : Records [r] u g) (after : Logged g t) : raisedWithin r s t := by
  obtain ⟨more, queue⟩ := raised.first after
  have append : raiseAll (l ++ r :: more) s = raiseAll (r :: more) (raiseAll l s) := by simp [raiseAll]
  refine ⟨l, more, queue.trans ?_⟩
  rw [State.queueAfter, State.queueAfter, append]
  exact raiseAll_queue_congr (r :: more) before.queue (by rw [before.time, raiseAll_time])

theorem qualifyingLevels_congr (ident : t.ident = s.ident) (entries : t.roster.entries = s.roster.entries) :
    t.qualifyingLevels = s.qualifyingLevels := by
  refine List.filterMap_congr fun i _ => ?_
  by_cases own : i = s.ident.station
  · simp [ident, own]
  · simp [State.entry, ident, entries, own]

/-- The level follows where the estimator re-examines it in a state `g` of the taking and nothing touches it before or
after. -/
theorem levelFollows_of_judged {l : List (EventKind × Nat × Nat)} (params : s.loader.params = some p)
    (before : Records l s g) (loader : g.loader = s.loader) (own : g.own = s.own) (unjudged : g.demand = s.demand)
    (judged : t.demand = (judgeLevel g).demand) (levels : t.qualifyingLevels = g.qualifyingLevels)
    (channels : t.port.channels = g.port.channels) (after : Logged (judgeLevel g) t) : levelFollows p s t := by
  have gparams : g.loader.params = some p := loader ▸ params
  have valid : t.chanValid 4 = g.chanValid 4 := by rw [State.chanValid, State.chanValid, channels]
  have value : t.chan 4 = g.chan 4 := by rw [State.chan, State.chan, channels]
  rw [levelFollows, valid, value, levels]
  cases available : g.availableLevel with
  | none =>
    obtain ⟨demand, -⟩ := judgeLevel_of_none gparams available
    rw [demand, unjudged, before.time] at judged
    have invalid : g.chanValid 4 = false := by
      by_contra h
      rw [availableLevel_of_valid (by simpa using h)] at available
      exact nomatch available
    have silent : g.qualifyingLevels = [] := by
      rw [availableLevel_of_invalid invalid, Option.map_eq_none_iff] at available
      exact median_eq_none.mp available
    refine ⟨fun h => absurd h (by rw [invalid]; exact Bool.false_ne_true), fun _ h => absurd silent h, fun _ _ => judged,
      fun lost => ?_, fun lost => ?_, ?_⟩
    · rw [judged, if_pos lost]
      exact fun h => absurd lost h
    · rw [judged, if_neg lost]
    · rw [judged]
      split <;> rfl
  | some found =>
    obtain ⟨src, lvl⟩ := found
    obtain ⟨demand, raised⟩ := judgeLevel_of_available gparams available
    rw [demand, unjudged] at judged
    rw [unjudged, own] at raised
    have source : t.demand.source = src := by rw [judged]; split <;> rfl
    have level : t.demand.level = lvl := by rw [judged]; split <;> rfl
    have timer : t.demand.lostTimer = none := by rw [judged]; split <;> rfl
    refine ⟨fun h => ?_, fun h some => ?_, fun h empty => ?_, fun lost _ => ?_, fun lost => ?_, ?_⟩
    · rw [availableLevel_of_valid h] at available
      obtain ⟨rfl, rfl⟩ := Prod.mk.inj (Option.some.inj available)
      exact ⟨source, level, timer⟩
    · rw [availableLevel_of_invalid h] at available
      obtain ⟨m, median, pair⟩ := Option.map_eq_some_iff.mp available
      obtain ⟨rfl, rfl⟩ := Prod.mk.inj pair
      exact ⟨source, level ▸ median_isLowerMedian median, timer⟩
    · rw [availableLevel_of_invalid h, median_eq_none.mpr empty] at available
      exact nomatch available
    · rw [if_pos lost] at judged raised
      exact ⟨by rw [judged], source ▸ before.within raised after⟩
    · rw [judged, if_neg lost]
    · rw [source, level, timer, judged]
      split <;> rfl

/-! ## The roster hands its change on (R54, R56) -/

theorem setMinority_kept (v : Bool) : (setMinority v s).demand = s.demand ∧ (setMinority v s).roster.entries = s.roster.entries := by
  unfold setMinority
  split
  · exact ⟨rfl, rfl⟩
  · exact ⟨withholdChanged_frame _ _ .demand (by decide), congrArg (·.entries) (withholdChanged_frame _ _ .roster (by decide))⟩

theorem minorityTest_kept : (minorityTest s).demand = s.demand ∧ (minorityTest s).roster.entries = s.roster.entries := by
  unfold minorityTest
  split
  · exact setMinority_kept _
  · exact ⟨rfl, rfl⟩

/-- What follows a change of an entry's validity: the level is judged, then the minority test is made. -/
theorem rosterChanged_kept (changed : Bool) :
    (rosterChanged changed s).demand = (judgeLevel s).demand ∧
      (rosterChanged changed s).roster.entries = s.roster.entries := by
  have roster : (judgeLevel s).roster = s.roster := judgeLevel_frame .roster (by decide)
  cases changed with
  | false => exact ⟨rfl, by rw [← roster]; rfl⟩
  | true => exact ⟨minorityTest_kept.1, by rw [← roster]; exact minorityTest_kept.2⟩

theorem finish_channels (before : State) : (finish before s).port.channels = s.port.channels := by
  unfold finish
  split
  · exact arbitrate_channels
  · rw [arbitrate_channels, recomposeTally_frame .port (by decide)]

theorem finish_logged (before : State) : Logged s (finish before s) :=
  Logged.of_eq (finish_time before) (finish_queue before) (finish_lport before)

/-- What the roster does with an entry whose silence has run: the entry `e` in its place, its record, and the handing
on. -/
def silenceActed (i : Station) (e : Entry) (k : EventKind) (detail : Nat) (s : State) : State :=
  rosterChanged true (raisePeer k i detail (setEntry i e s))

theorem silenceActed_frame (i : Station) (e : Entry) (k : EventKind) (detail : Nat) :
    changesOnly [.demand, .capability, .roster, .staging, .slot, .sequencer, .trim, .protection, .line, .port, .lport, .queue]
      s (silenceActed i e k detail s) := by
  have entry : changesOnly [.roster, .lport, .queue] s (raisePeer k i detail (setEntry i e s)) := fun b hb => by
    cases b <;> first | rfl | exact absurd (by decide) hb
  refine (entry.mono (by decide)).trans ((judgeLevel_frame.mono (by decide)).trans (minorityTest_frame.mono (by decide)))

theorem silenceActed_entries (i j : Station) (e : Entry) (k : EventKind) (detail : Nat) :
    (silenceActed i e k detail s).roster.entries[j] = if i = j then e else s.roster.entries[j] := by
  rw [silenceActed, (rosterChanged_kept true).2]
  exact setEntry_entries i j e

theorem silenceActed_records (i : Station) (e : Entry) (k : EventKind) (detail : Nat) :
    firstRaised (k, i.val + 1, detail) s (silenceActed i e k detail s) :=
  have entered : Records [] s (setEntry i e s) := ⟨rfl, rfl⟩
  (entered.trans (Records.raise k (stationNumber i) detail)).first (rosterChanged_offPort true).logged

theorem silenceActed_level (i : Station) (e : Entry) (k : EventKind) (detail : Nat) (params : s.loader.params = some p) :
    levelFollows p s (finish s (silenceActed i e k detail s)) := by
  have entered : Records [] s (setEntry i e s) := ⟨rfl, rfl⟩
  obtain ⟨demand, entries⟩ := rosterChanged_kept (s := raisePeer k i detail (setEntry i e s)) true
  have logged : Logged (judgeLevel (raisePeer k i detail (setEntry i e s))) (silenceActed i e k detail s) :=
    minorityTest_offPort.logged
  have offPort : OffPort (raisePeer k i detail (setEntry i e s)) (silenceActed i e k detail s) := rosterChanged_offPort true
  have ident : (finish s (silenceActed i e k detail s)).ident = s.ident :=
    (finish_ident s).trans (silenceActed_frame i e k detail .ident (by decide))
  refine levelFollows_of_judged params (entered.trans (Records.raise k (stationNumber i) detail)) rfl rfl rfl ?_ ?_ ?_
    (logged.trans (finish_logged s))
  · rw [finish_demand]
    exact demand
  · exact qualifyingLevels_congr ident (by rw [finish_roster]; exact entries)
  · rw [finish_channels]
    exact offPort.channels

/-- What the two expiries of a silence do. -/
theorem silence_acts (i : Station) (e : Entry) (k : EventKind) (detail : Nat) :
    let t := finish s (silenceActed i e k detail s)
    changesOnly [.demand, .capability, .roster, .staging, .slot, .sequencer, .trim, .protection, .line, .port, .lport, .queue] s t ∧
      t.roster.entries[i] = e ∧ (∀ j : Station, j ≠ i → t.roster.entries[j] = s.roster.entries[j]) ∧
      firstRaised (k, i.val + 1, detail) s t ∧ (∀ p, s.loader.params = some p → levelFollows p s t) := by
  refine ⟨(silenceActed_frame i e k detail).trans ((finish_frame s).mono (by decide)), ?_, fun j other => ?_, ?_,
    fun p params => silenceActed_level i e k detail params⟩
  · rw [finish_roster, silenceActed_entries, if_pos rfl]
  · rw [finish_roster, silenceActed_entries, if_neg other.symm]
  · obtain ⟨more, queue⟩ := silenceActed_records (s := s) i e k detail
    exact ⟨more, (finish_queue s).trans queue⟩

theorem canGoStale_of {i : Station} (other : s.ident.station ≠ i) (timed : s.roster.entries[i].silence.isSome = true)
    (validity : s.roster.entries[i].validity = .live ∨ s.roster.entries[i].validity = .excluded) : s.canGoStale i = true := by
  rw [State.canGoStale, timed, decide_eq_false other.symm]
  rcases validity with live | excluded
  · rw [live]; rfl
  · rw [excluded]; rfl

theorem canDrop_of {i : Station} (other : s.ident.station ≠ i) (timed : s.roster.entries[i].silence.isSome = true)
    (validity : s.roster.entries[i].validity = .stale) : s.canDrop i = true := by
  rw [State.canDrop, timed, decide_eq_false other.symm, validity]
  rfl

/-- Settles O51. -/
theorem lostLevelAndSilentPeers : Obligations.LostLevelAndSilentPeers := by
  intro i s
  refine ⟨fun runs => ?_, fun other timed => ⟨fun validity => ?_, fun validity => ?_⟩⟩
  · obtain ⟨timer, runs⟩ := Option.isSome_iff_exists.mp runs
    simp only [exec, execLevelLost, runs]
    rfl
  · have run : exec (.peerStale i) s = .next (finish s (silenceActed i { s.roster.entries[i] with validity := .stale }
        .peerStale s.roster.entries[i].tally.stateCode s)) := if_pos (canGoStale_of other timed validity)
    exact ⟨_, run, silence_acts ..⟩
  · have run : exec (.peerDropped i) s = .next (finish s (silenceActed i Entry.none
        .peerDropped s.roster.entries[i].tally.stateCode s)) := if_pos (canDrop_of other timed validity)
    exact ⟨_, run, silence_acts ..⟩

end Sys2Proof.Machine
end

section
/-! The Train Port's errors, its loss and its restoring by a retry read (R179 to R183). -/

namespace Sys2Proof.Machine

open Sys2Proof

variable {s t u : State}

/-! ## The scan pointer (R179) -/

theorem channel_add_val (c i : Channel) : (c + i).val = (c.val + i.val) % 8 := Fin.val_add c i

/-- The pointer goes to the first enabled channel above it, and round to itself. -/
theorem nextEnabled_nextInScan {mask : BitVec 8} (some : mask ≠ 0) (c : Channel) : nextInScan mask c (nextEnabled mask c) := by
  have ascending : ([1, 2, 3, 4, 5, 6, 7] : List Channel).Pairwise (· < ·) := by decide
  have above : ∀ m, 1 ≤ m → m < 8 → ∃ i ∈ ([1, 2, 3, 4, 5, 6, 7] : List Channel), i.val = m := by decide
  rw [nextEnabled, List.find?_map]
  cases found : ([1, 2, 3, 4, 5, 6, 7] : List Channel).find? ((fun d : Channel => mask.getLsbD d.val) ∘ (c + ·)) with
  | some i =>
    obtain ⟨enabled, before, after, split, skipped⟩ := List.find?_eq_some_iff_append.mp found
    have mem : i ∈ ([1, 2, 3, 4, 5, 6, 7] : List Channel) := split ▸ by simp
    have low : ∀ j ∈ ([1, 2, 3, 4, 5, 6, 7] : List Channel), 1 ≤ j.val := by decide
    refine ⟨enabled, i.val, low i mem, by omega, channel_add_val c i, fun m one lt => ?_⟩
    obtain ⟨j, inList, rfl⟩ := above m one (by omega)
    rw [split] at inList ascending
    rw [← channel_add_val]
    rcases List.mem_append.mp inList with earlier | later
    · simpa using skipped j earlier
    · have tail := (List.pairwise_append.mp ascending).2.1
      rcases List.mem_cons.mp later with rfl | later
      · exact absurd lt (Nat.lt_irrefl _)
      · exact absurd (List.rel_of_pairwise_cons tail later) (Nat.lt_asymm lt)
  | none =>
    have off : ∀ m, 1 ≤ m → m < 8 → mask.getLsbD ((c.val + m) % 8) = false := fun m one lt => by
      obtain ⟨j, inList, rfl⟩ := above m one lt
      rw [← channel_add_val]
      simpa using List.find?_eq_none.mp found j inList
    refine ⟨?_, 8, by decide, Nat.le_refl 8, by show c.val = _; omega, off⟩
    show mask.getLsbD c.val = true
    by_contra clear
    refine some (BitVec.eq_of_getLsbD_eq fun j hj => ?_)
    rw [show (0 : BitVec 8).getLsbD j = false from BitVec.getLsbD_zero]
    rcases Nat.eq_zero_or_pos ((j + 8 - c.val) % 8) with same | pos
    · rw [show j = c.val by omega]
      simpa using clear
    · rw [show j = (c.val + (j + 8 - c.val) % 8) % 8 by omega]
      exact off _ pos (Nat.mod_lt _ (by decide))

/-! ## The arbiter (R181) -/

/-- The arbiter begins a transaction: of the port it touches the state, the two pending writes and the pace timer. -/
theorem arbitrate_port :
    (arbitrate s).port =
      { s.port with
        state := (arbitrate s).port.state, pendValve := (arbitrate s).port.pendValve,
        pendSpeed := (arbitrate s).port.pendSpeed, pace := (arbitrate s).port.pace } := by
  unfold arbitrate
  split
  · split <;> rfl
  · rfl

theorem arbitrate_of_speed {v : Nat} (idle : s.port.state = .idle) (valve : s.port.pendValve = none)
    (waits : s.port.pendSpeed = some v) :
    arbitrate s = { s with port :=
      { s.port with
        state := .inTransaction { kind := .speed v, settings := s.portSettings }, pendSpeed := none } } := by
  simp [arbitrate, idle, valve, waits]

theorem arbitrate_of_idle_connected (idle : s.port.state = .idle) : (arbitrate s).port.state.isLost = false := by
  simp only [arbitrate, idle]
  split
  iterate 3 rfl
  rw [idle]
  rfl

/-! ## Errors (R180, R182) -/

/-- A write that waits goes before the one given back. -/
theorem given_back {α : Type} (o : Option α) (v : α) : (o.orElse fun _ => some v) = some (o.getD v) := by cases o <;> rfl

theorem countError_port (k : TxnKind) : (countError k s).port = { s.port with
    state := .idle, errors := min 255 (s.port.errors + 1), pendRead := none
    pendValve := (countError k s).port.pendValve, pendSpeed := (countError k s).port.pendSpeed } := by
  rw [← satInc_eq_min]
  cases k <;> rfl

theorem countError_frame (k : TxnKind) : changesOnly [.port] s (countError k s) := fun b hb => by
  cases k <;> cases b <;> first | rfl | exact absurd (by decide) hb

theorem arbitrate_countError_frame (k : TxnKind) : changesOnly [.port] s (arbitrate (countError k s)) :=
  (countError_frame k).trans arbitrate_frame

/-- An error below the third. -/
theorem portError_of_few (k : TxnKind) (few : min 255 (s.port.errors + 1) < 3) : portError k s = countError k s := by
  rw [portError_eq, satInc_eq_min, if_neg (by omega)]

/-- The third error. -/
theorem portError_of_third (k : TxnKind) (third : 3 ≤ min 255 (s.port.errors + 1)) :
    portError k s = enterLost k (countError k s) := by
  rw [portError_eq, satInc_eq_min, if_pos third]

theorem enterLost_offPort (k : TxnKind) : OffPort (losePort s) (enterLost k s) := by
  rw [enterLost_eq]
  have raised : OffPort (losePort s) (raiseOwn .portLost k.number (losePort s)) := raiseOwn_offPort _ _
  exact channelsLost_offPort.after (OffPort.ite (raised.trans judgePortLoss_offPort) raised)

theorem enterLost_firstRaised (k : TxnKind) : firstRaised (.portLost, s.own, k.number) s (enterLost k s) := by
  have lost : Records [] s (losePort s) := ⟨rfl, rfl⟩
  have raised : Records [(.portLost, s.own, k.number)] s (raiseOwn .portLost k.number (losePort s)) :=
    lost.trans (Records.raise .portLost (losePort s).own k.number)
  refine raised.first (t := raiseOwn .portLost k.number (losePort s)) ?_
  rw [enterLost_eq]
  refine channelsLost_offPort.logged.after ?_
  split
  · exact judgePortLoss_offPort.logged
  · exact (OffPort.refl _).logged

theorem enterLost_latched (k : TxnKind) (ended : s.loadEnded = true) (clear : s.protection.portFlag = false) :
    (enterLost k s).protection.latches.portLoss = true := by
  have judged : judgePortLoss (raiseOwn .portLost k.number (losePort s)) =
      arrive .portLoss { raiseOwn .portLost k.number (losePort s) with
        protection := { s.protection with portFlag := true } } := by
    show arriveIf true s.protection.portFlag .portLoss _ = _
    rw [clear]
    rfl
  rw [enterLost_eq, if_pos ended, judged]
  refine channelsLost_offPort.latches .portLoss ?_
  rw [arrive_latches]
  exact PerCause.get_put_self ..

/-- The state of the port in LOST, as the third error leaves it. -/
theorem enterLost_port (k : TxnKind) :
    (enterLost k s).port = { (losePort s).port with
      pendValve := (enterLost k s).port.pendValve, pendSpeed := (enterLost k s).port.pendSpeed } := (enterLost_offPort k).port

theorem finish_of_lost {x : Option Txn} (before : State) (lost : s.port.state = .lost x) : (finish before s).port = s.port := by
  unfold finish
  rw [arbitrate_of_busy]
  · split
    · rfl
    · exact recomposeTally_frame .port (by decide)
  · split
    · rw [lost]; exact fun h => nomatch h
    · rw [recomposeTally_frame .port (by decide), lost]; exact fun h => nomatch h

/-- What follows the third error. -/
theorem third_error {x : Txn} (third : 3 ≤ min 255 (s.port.errors + 1)) :
    let t := finish s (portError x.kind s)
    changesOnly [.demand, .capability, .staging, .slot, .sequencer, .trim, .protection, .line, .port, .lport, .queue] s t ∧
      t.port.state = .lost none ∧ t.port.retryTimer = some { since := s.time, span := 1024 } ∧
      t.port.errors = min 255 (s.port.errors + 1) ∧ t.port.pendRead = none ∧ t.port.pointer = s.port.pointer ∧
      (∀ c : Channel, t.chanValid c = false ∧ t.chan c = s.chan c) ∧ firstRaised (.portLost, s.own, x.kind.number) s t ∧
      (s.loadEnded = true → s.protection.portFlag = false → t.protection.latches.portLoss = true ∧ t.runPermit = false) := by
  intro t
  have error := portError_of_third x.kind third
  have counted := countError_port (s := s) x.kind
  have port : t.port = (enterLost x.kind (countError x.kind s)).port := by
    show (finish s (portError x.kind s)).port = _
    rw [error]
    exact finish_of_lost (x := none) s (by rw [enterLost_port]; rfl)
  rw [enterLost_port, losePort, counted] at port
  have time : (countError x.kind s).time = s.time := countError_frame x.kind .time (by decide)
  have value (c : Channel) : t.port.channels[c] = s.port.channels[c].after s.time none := by
    rw [port, time]
    exact Vector.getElem_map ..
  refine ⟨?_, by rw [port], ?_, by rw [port], by rw [port], by rw [port], fun c => ⟨?_, ?_⟩, ?_, fun ended clear => ?_⟩
  · show changesOnly _ s (finish s (portError x.kind s))
    rw [error]
    exact ((countError_frame x.kind).mono (by decide)).trans (((enterLost_frame x.kind).mono (by decide)).trans
      ((finish_frame s).mono (by decide)))
  · rw [port, time]
    rfl
  · rw [State.chanValid, value, ChannelEntry.after_none_invalid]
  · rw [State.chan, value]
    rfl
  · show firstRaised _ s (finish s (portError x.kind s))
    rw [error]
    refine firstRaised.finish s ?_
    have raised := enterLost_firstRaised (s := countError x.kind s) x.kind
    rw [own_congr (countError_frame x.kind .ident (by decide))] at raised
    exact raised.rebase (u := s) (countError_frame x.kind .queue (by decide)) (countError_frame x.kind .time (by decide))
  · have latched : t.protection.latches.portLoss = true := by
      show (finish s (portError x.kind s)).protection.latches.portLoss = true
      rw [error, finish_protection]
      refine enterLost_latched x.kind ?_ ?_
      · rw [State.loadEnded, countError_frame x.kind .loader (by decide)]
        exact ended
      · rw [countError_frame x.kind .protection (by decide)]
        exact clear
    exact ⟨latched, runPermit_of_latched (k := .portLoss) latched⟩

/-! ## The retry (R183) -/

/-- The port as a retry read that named channel `n` restores it, before the arbiter takes it. -/
def portRestored (n : Channel) (s : State) : State :=
  let port : Port :=
    { s.port with
      state := .idle, retryTimer := none, errors := 0, pendRead := some n
      pointer := nextEnabled s.portSettings.mask s.port.pointer, pendValve := some s.sequencer.valve
      pendSpeed := some s.trim.s }
  let s1 := raiseOwn .portRestored n.val { s with port := port }
  if s.loadEnded then { s1 with protection := { s.protection with portFlag := false } } else s1

theorem restorePort_eq (n : Channel) : restorePort n s = portRestored n s := by
  unfold restorePort portRestored
  dsimp only
  rfl

theorem portRestored_frame (n : Channel) : changesOnly [.protection, .port, .lport, .queue] s (portRestored n s) := fun b hb => by
  unfold portRestored
  split <;> cases b <;> first | rfl | exact absurd (by decide) hb

/-- The restored port, with the valve word's write under way. -/
theorem restored_port (n : Channel) :
    (arbitrate (portRestored n s)).port =
      { s.port with
        state := .inTransaction { kind := .valve s.sequencer.valve, settings := s.portSettings }
        retryTimer := none, errors := 0, pendRead := some n
        pointer := nextEnabled s.portSettings.mask s.port.pointer, pendValve := none, pendSpeed := some s.trim.s } := by
  unfold portRestored
  split <;> rw [arbitrate_of_valve (v := s.sequencer.valve) rfl rfl] <;> rfl

theorem portRestored_records (n : Channel) : Records [(.portRestored, s.own, n.val)] s (portRestored n s) := by
  unfold portRestored
  split <;> exact ⟨rfl, rfl⟩

/-- Settles O59. -/
theorem errorsLoseThePortAndARetryRestoresIt : Obligations.ErrorsLoseThePortAndARetryRestoresIt := by
  intro x s n second
  refine ⟨fun busy => ?_, fun lost => ⟨?_, fun c w read => ?_⟩, fun lost runs => ?_⟩
  · have run : exec .transactionError s = .next (finish s (portError x.kind s)) := by
      simp only [exec, execTransactionError, busy]
    rcases Nat.lt_or_ge n 3 with few | third
    · have counts : finish s (portError x.kind s) = arbitrate (countError x.kind s) := by
        rw [portError_of_few x.kind few]
        exact finish_of_slot_kept (countError_frame x.kind .slot (by decide))
      have port := arbitrate_port (s := countError x.kind s)
      rw [countError_port] at port
      rw [counts] at run
      refine ⟨_, run, by rw [port], by rw [port], by rw [port], fun _ => ⟨arbitrate_countError_frame x.kind, ?_,
        by rw [port], fun v write => ?_, fun v write empty => ?_, fun v w write waits => ?_⟩,
        fun third => absurd third (Nat.not_le_of_lt few)⟩
      · exact arbitrate_of_idle_connected (by rw [countError_port])
      · rw [arbitrate_of_valve (s := countError x.kind s) (v := s.port.pendValve.getD v) (by rw [countError_port])]
        · rw [write]
          exact ⟨rfl, rfl⟩
        · rw [write]
          exact given_back ..
      · rw [arbitrate_of_speed (s := countError x.kind s) (v := s.port.pendSpeed.getD v) (by rw [countError_port])]
        · rw [write]
          exact ⟨rfl, rfl⟩
        · rw [write]
          exact empty
        · rw [write]
          exact given_back ..
      · rw [arbitrate_of_valve (s := countError x.kind s) (v := w) (by rw [countError_port])]
        · rw [write]
          exact ⟨given_back .., rfl, rfl⟩
        · rw [write]
          exact waits
    · obtain ⟨frame, state, timer, errors, pendRead, pointer, channels, raised, latched⟩ := third_error (x := x) third
      refine ⟨_, run, errors, pendRead, pointer, fun few => absurd few (Nat.not_lt_of_le third), fun _ =>
        ⟨frame, state, timer, channels, ?_, latched⟩⟩
      cases kind : x.kind <;> rw [kind] at raised <;> exact raised
  · simp only [exec, execTransactionError, lost, retryFailed, satInc_eq_min]
    rfl
  · obtain ⟨kind, settings⟩ := x
    subst read
    have run : exec (.retryReadComplete w) s = .next (finish s (restorePort c s)) := by
      simp only [exec, execRetryReadComplete, lost]
    have restored : finish s (restorePort c s) = arbitrate (portRestored c s) := by
      rw [restorePort_eq]
      exact finish_of_slot_kept (portRestored_frame c .slot (by decide))
    have port := restored_port (s := s) c
    have protection : (arbitrate (portRestored c s)).protection = (portRestored c s).protection := arbitrate_frame .protection (by decide)
    rw [restored] at run
    refine ⟨_, run, (portRestored_frame c).trans (arbitrate_frame.mono (by decide)), ?_, fun some => ?_, ?_, fun ended => ?_, ?_⟩
    · rw [port]
    · rw [port]
      exact nextEnabled_nextInScan some _
    · rw [protection, portRestored]
      split <;> rfl
    · rw [protection, portRestored, if_pos ended]
    · rw [arbitrate_frame .queue (by decide)]
      exact (portRestored_records c).queue
  · obtain ⟨timer, runs⟩ := Option.isSome_iff_exists.mp runs
    simp only [exec, execRetryTimerExpiry, lost, runs]
    rfl

end Sys2Proof.Machine
end

section
/-! The demand period end (R6): the profile, the three paths of the estimator, the overflow they set, the stage evaluation
and the share. -/

namespace Sys2Proof.Machine

open Sys2Proof

variable {s t u : State} {p : Params} {tariff : Bool}

/-! ## The own entry -/

/-- The blocks that the own entry reads nothing of, but for channels and withhold causes. -/
def tallyBlind : List Block := [.pins, .demand, .roster, .staging, .protection, .line, .port, .lport, .queue, .pending]

theorem ownTally_of_same (frame : changesOnly tallyBlind s t) (channels : t.port.channels = s.port.channels)
    (withheld : t.withheld = s.withheld) : t.ownTally = s.ownTally := by
  have same : ∀ b : Block, b ∉ tallyBlind → b.same s t := frame
  have time : t.time = s.time := same .time (by decide)
  have ident : t.ident = s.ident := same .ident (by decide)
  have capability : t.capability = s.capability := same .capability (by decide)
  have slot : t.slot = s.slot := same .slot (by decide)
  have sequencer : t.sequencer = s.sequencer := same .sequencer (by decide)
  have trim : t.trim = s.trim := same .trim (by decide)
  have loader : t.loader = s.loader := same .loader (by decide)
  have holding : t.ownHolding = s.ownHolding := by rw [State.ownHolding, State.ownHolding, slot, time]
  have code : t.ownCode = s.ownCode := by rw [State.ownCode, State.ownCode, sequencer]
  have health : t.effectiveClass = s.effectiveClass := by rw [State.effectiveClass, State.effectiveClass, capability]
  have hours : t.runHours = s.runHours := by rw [State.runHours, State.runHours, sequencer]
  have configured : t.configured = s.configured := by rw [State.configured, State.configured, loader]
  simp only [State.ownTally, State.chanValid, State.chan, ident, capability, sequencer, trim, loader, holding, code,
    health, hours, configured, channels, withheld]

theorem entry_of_same (frame : changesOnly tallyBlind s t) (channels : t.port.channels = s.port.channels)
    (withheld : t.withheld = s.withheld) (i : Station) :
    t.entry i =
      if i = s.ident.station then { s.entry i with snapshot := t.roster.entries[i].snapshot } else t.roster.entries[i] := by
  have ident : t.ident = s.ident := frame .ident (by decide)
  have ended : t.loadEnded = s.loadEnded := by rw [State.loadEnded, State.loadEnded, frame .loader (by decide)]
  rw [State.entry, ident, ownTally_of_same frame channels withheld, ended]
  split
  · next own => rw [State.entry, if_pos own]
  · rfl

/-! ## The profile (R5) -/

/-- The profile that the TARIFF level names. -/
def tariffProfile (tariff : Bool) (p : Params) : Profile := if tariff then p.peak else p.offPeak

theorem profileOf_profileFor : p.profileOf (profileFor tariff) = tariffProfile tariff p := by cases tariff <;> rfl

/-- The timer started again and the level taken. -/
def periodSet (tariff : Bool) (p : Params) (s : State) : State :=
  { s with
    pins := { s.pins with tariff := tariff }
    demand := { s.demand with periodTimer := startTimer s.time (seconds p.tD) } }

theorem periodSet_frame : changesOnly [.pins, .demand] s (periodSet tariff p s) := fun b hb => by
  cases b <;> first | rfl | exact absurd (by decide) hb

theorem periodSet_logged : Logged s (periodSet tariff p s) := Logged.of_eq rfl rfl rfl

/-- The period as it begins: the timer started again and the profile sampled. -/
def periodBegun (tariff : Bool) (p : Params) (s : State) : State := sampleProfile (periodSet tariff p s)

/-- Q_req brought within the profile that the level names. -/
def limitedQreq (tariff : Bool) (p : Params) (s : State) : Nat :=
  if s.demand.profile = some (profileFor tariff) then s.demand.qReq else min s.demand.qReq (tariffProfile tariff p).qPlantMax

theorem periodBegun_demand (params : s.loader.params = some p) :
    (periodBegun tariff p s).demand =
      { s.demand with
        profile := some (profileFor tariff), periodTimer := some { since := s.time, span := p.tD * 1024 }
        qReq := limitedQreq tariff p s } := by
  unfold periodBegun sampleProfile limitedQreq periodSet
  dsimp only
  split
  · next same => rw [← same]; rfl
  · rw [limitQreq]
    simp only [State.activeProfile, raiseOwn, raise, params, profileOf_profileFor]
    rfl

theorem periodBegun_frame : changesOnly [.pins, .demand, .lport, .queue] s (periodBegun tariff p s) :=
  (periodSet_frame.mono (by decide)).trans (sampleProfile_frame.mono (by decide))

theorem periodBegun_pins : (periodBegun tariff p s).pins = { s.pins with tariff := tariff } :=
  sampleProfile_frame .pins (by decide)

theorem periodBegun_records (changes : s.demand.profile ≠ some (profileFor tariff)) :
    Records [(.profileChange, s.own, profileCode (profileFor tariff))] s (periodBegun tariff p s) := by
  unfold periodBegun sampleProfile periodSet
  dsimp only
  rw [if_neg changes]
  have limited : ∀ u : State, Records [] u (limitQreq u) := fun u => by
    unfold limitQreq
    split <;> exact ⟨rfl, rfl⟩
  have raised : Records [(.profileChange, s.own, profileCode (profileFor tariff))] s
      (raiseOwn .profileChange (profileCode (profileFor tariff))
        { s with
          pins := { s.pins with tariff := tariff }
          demand := { s.demand with
            periodTimer := startTimer s.time (seconds p.tD), profile := some (profileFor tariff) } }) := ⟨rfl, rfl⟩
  exact raised.trans (limited _)

theorem periodBegun_logged : Logged s (periodBegun tariff p s) :=
  periodSet_logged.trans sampleProfile_offPort.logged

theorem periodBegun_withheld : (periodBegun tariff p s).withheld = s.withheld := by
  have command : (periodBegun tariff p s).lport.withholdCmd = s.lport.withholdCmd := by
    rw [periodBegun_logged.lport_eq]
  rw [State.withheld, State.withheld, command, periodBegun_pins, periodBegun_frame .roster (by decide)]

theorem periodBegun_entry (i : Station) : (periodBegun tariff p s).entry i = s.entry i := by
  have port : (periodBegun tariff p s).port = s.port := periodBegun_frame .port (by decide)
  have roster : (periodBegun tariff p s).roster = s.roster := periodBegun_frame .roster (by decide)
  rw [entry_of_same (periodBegun_frame.mono (by decide)) (by rw [port]) periodBegun_withheld, roster, State.entry]
  split <;> rfl

theorem periodBegun_params (params : s.loader.params = some p) : (periodBegun tariff p s).loader.params = some p := by
  rw [periodBegun_frame .loader (by decide), params]

theorem periodBegun_activeProfile (params : s.loader.params = some p) :
    (periodBegun tariff p s).activeProfile = some (tariffProfile tariff p) := by
  have loader : (periodBegun tariff p s).loader.params = some p := periodBegun_params params
  simp only [State.activeProfile, periodBegun_demand params, loader, profileOf_profileFor]

/-! ## The paths (R6 to R17) -/

/-- The estimator's part of the period. -/
def estimated (tariff : Bool) (p : Params) (s : State) : State := demandPath (periodBegun tariff p s)

theorem snapshotPeriod_frame : changesOnly [.demand, .roster] s (snapshotPeriod p s) :=
  changesOnly.trans (t := setSnapshots s) ((roster_frame _).mono (by decide)) ((demand_frame _).mono (by decide))

theorem fullPeriod_frame {f : Profile} {prev : Nat} : changesOnly [.demand, .roster] s (fullPeriod p f prev s) :=
  changesOnly.trans (t := refreshSnapshots s) ((roster_frame _).mono (by decide)) ((demand_frame _).mono (by decide))

theorem demandPath_frame : changesOnly [.demand, .roster] s (demandPath s) := by
  unfold demandPath
  split
  · split
    · exact changesOnly_refl _ _
    · split
      · exact snapshotPeriod_frame
      · exact fullPeriod_frame
  · exact changesOnly_refl _ _

theorem estimated_frame : changesOnly [.pins, .demand, .roster, .lport, .queue] s (estimated tariff p s) :=
  (periodBegun_frame.mono (by decide)).trans (demandPath_frame.mono (by decide))

theorem estimated_of_lost (params : s.loader.params = some p) (lost : s.demand.source = .lost) :
    estimated tariff p s = periodBegun tariff p s := by
  have loader : (periodBegun tariff p s).loader.params = some p := periodBegun_params params
  have source : (periodBegun tariff p s).demand.source = .lost := by rw [periodBegun_demand params]; exact lost
  simp only [estimated, demandPath, loader, periodBegun_activeProfile params, source, if_true]

theorem estimated_of_unset (params : s.loader.params = some p) (read : s.demand.source ≠ .lost)
    (unset : s.demand.lPrev = none) : estimated tariff p s = snapshotPeriod p (periodBegun tariff p s) := by
  have loader : (periodBegun tariff p s).loader.params = some p := periodBegun_params params
  have source : (periodBegun tariff p s).demand.source ≠ .lost := by rw [periodBegun_demand params]; exact read
  have prev : (periodBegun tariff p s).demand.lPrev = none := by rw [periodBegun_demand params]; exact unset
  simp only [estimated, demandPath, loader, periodBegun_activeProfile params, if_neg source, prev]

theorem estimated_of_set {prev : Nat} (params : s.loader.params = some p) (read : s.demand.source ≠ .lost)
    (set : s.demand.lPrev = some prev) :
    estimated tariff p s = fullPeriod p (tariffProfile tariff p) prev (periodBegun tariff p s) := by
  have loader : (periodBegun tariff p s).loader.params = some p := periodBegun_params params
  have source : (periodBegun tariff p s).demand.source ≠ .lost := by rw [periodBegun_demand params]; exact read
  have lPrev : (periodBegun tariff p s).demand.lPrev = some prev := by rw [periodBegun_demand params]; exact set
  simp only [estimated, demandPath, loader, periodBegun_activeProfile params, if_neg source, lPrev]

/-! ## The overflow and the stage evaluation -/

/-- An overflow that the period set has acted on the train. -/
def overflowActed (tariff : Bool) (p : Params) (s : State) : State :=
  if (estimated tariff p s).demand.overflow && !s.demand.overflow then overflowCheck (estimated tariff p s)
  else estimated tariff p s

/-- Staging has evaluated and a withheld RUNNING train has asked for its stop. -/
def evaluated (tariff : Bool) (p : Params) (s : State) : State :=
  withheldStopRequest
    (stageEvaluation p (tariffProfile tariff p) (decide (s.demand.source = .lost)) (overflowActed tariff p s))

theorem overflowActed_frame : changesOnly trainBlocks (estimated tariff p s) (overflowActed tariff p s) :=
  changesOnly_ite overflowCheck_frame (changesOnly_refl _ _)

theorem overflowActed_logged : Logged (estimated tariff p s) (overflowActed tariff p s) :=
  (OffPort.ite overflowCheck_offPort (OffPort.refl _)).logged

theorem overflowActed_demand : (overflowActed tariff p s).demand = (estimated tariff p s).demand :=
  overflowActed_frame .demand (by decide)

theorem periodBegun_overflow (params : s.loader.params = some p) :
    (periodBegun tariff p s).demand.overflow = s.demand.overflow := by rw [periodBegun_demand params]

theorem periodBegun_source (params : s.loader.params = some p) :
    (periodBegun tariff p s).demand.source = s.demand.source := by rw [periodBegun_demand params]

theorem estimated_profile (params : s.loader.params = some p) :
    (estimated tariff p s).demand.profile = some (profileFor tariff) := by
  have kept : (estimated tariff p s).demand.profile = (periodBegun tariff p s).demand.profile := by
    unfold estimated demandPath
    split
    · split
      · rfl
      · split <;> rfl
    · rfl
  rw [kept, periodBegun_demand params]

theorem overflowActed_params (params : s.loader.params = some p) : (overflowActed tariff p s).loader.params = some p := by
  rw [overflowActed_frame .loader (by decide), estimated_frame .loader (by decide), params]

theorem overflowActed_activeProfile (params : s.loader.params = some p) :
    (overflowActed tariff p s).activeProfile = some (tariffProfile tariff p) := by
  have loader : (overflowActed tariff p s).loader.params = some p := overflowActed_params params
  have profile : (overflowActed tariff p s).demand.profile = some (profileFor tariff) := by
    rw [overflowActed_demand, estimated_profile params]
  simp only [State.activeProfile, loader, profile, profileOf_profileFor]

theorem demandPeriod_eq (params : s.loader.params = some p) :
    demandPeriod p { s with pins := { s.pins with tariff := tariff } } = computeShare (evaluated tariff p s) := by
  have acted : (if (demandPath (periodBegun tariff p s)).demand.overflow && !(periodBegun tariff p s).demand.overflow then
      overflowCheck (demandPath (periodBegun tariff p s)) else demandPath (periodBegun tariff p s)) =
      overflowActed tariff p s := by
    rw [periodBegun_overflow params]
    rfl
  show computeShare (withheldStopRequest
    (match (if (demandPath (periodBegun tariff p s)).demand.overflow && !(periodBegun tariff p s).demand.overflow then
        overflowCheck (demandPath (periodBegun tariff p s)) else demandPath (periodBegun tariff p s)).activeProfile with
      | some f => stageEvaluation p f (decide ((periodBegun tariff p s).demand.source = .lost))
        (if (demandPath (periodBegun tariff p s)).demand.overflow && !(periodBegun tariff p s).demand.overflow then
          overflowCheck (demandPath (periodBegun tariff p s)) else demandPath (periodBegun tariff p s))
      | none => (if (demandPath (periodBegun tariff p s)).demand.overflow && !(periodBegun tariff p s).demand.overflow then
        overflowCheck (demandPath (periodBegun tariff p s)) else demandPath (periodBegun tariff p s)))) = _
  rw [acted, overflowActed_activeProfile params, periodBegun_source params]
  rfl

/-- The answer to DEMAND_PERIOD_END. -/
def periodEnded (tariff : Bool) (p : Params) (s : State) : State := finish s (computeShare (evaluated tariff p s))

theorem exec_demandPeriodEnd (params : s.loader.params = some p) (runs : s.demand.periodTimer.isSome = true) :
    exec (.demandPeriodEnd tariff) s = .next (periodEnded tariff p s) := by
  obtain ⟨timer, runs⟩ := Option.isSome_iff_exists.mp runs
  simp only [exec, execDemandPeriodEnd, runs, params]
  rw [demandPeriod_eq params]
  rfl

theorem startRequest_frame : changesOnly [.staging, .slot, .line] s (startRequest p s) :=
  changesOnly_ite (request_frame_claims _) (changesOnly_refl _ _)

theorem stopRequest_frame : changesOnly [.staging, .slot, .line] s (stopRequest p s) :=
  changesOnly_ite (request_frame_claims _) (changesOnly_refl _ _)

theorem evaluated_frame : changesOnly [.staging, .slot, .line] (overflowActed tariff p s) (evaluated tariff p s) := by
  have asked : ∀ u : State, changesOnly [.staging, .slot, .line] u (withheldStopRequest u) := fun u =>
    changesOnly_ite (request_frame_claims _) (changesOnly_refl _ _)
  refine changesOnly.trans ?_ (asked _)
  refine changesOnly_ite ((staging_frame _).mono (by decide)) (changesOnly_ite (changesOnly_refl _ _) ?_)
  exact ((staging_frame _).mono (by decide)).trans (startRequest_frame.trans stopRequest_frame)

theorem periodEnded_demand : (periodEnded tariff p s).demand = (estimated tariff p s).demand := by
  rw [periodEnded, finish_demand, computeShare_frame .demand (by decide), evaluated_frame .demand (by decide),
    overflowActed_demand]

theorem periodEnded_roster : (periodEnded tariff p s).roster = (estimated tariff p s).roster := by
  rw [periodEnded, finish_roster, computeShare_frame .roster (by decide), evaluated_frame .roster (by decide),
    overflowActed_frame .roster (by decide)]

theorem periodEnded_frame :
    changesOnly
      [.pins, .demand, .capability, .roster, .staging, .slot, .sequencer, .trim, .protection, .line, .port, .lport, .queue] s
      (periodEnded tariff p s) :=
  (estimated_frame.mono (by decide)).trans ((overflowActed_frame.mono (by decide)).trans
    ((evaluated_frame.mono (by decide)).trans ((computeShare_frame.mono (by decide)).trans ((finish_frame s).mono (by decide)))))

theorem periodEnded_sequencer : (periodEnded tariff p s).sequencer = (overflowActed tariff p s).sequencer := by
  rw [periodEnded, finish_sequencer, computeShare_frame .sequencer (by decide), evaluated_frame .sequencer (by decide)]

theorem evaluated_params (params : s.loader.params = some p) : (evaluated tariff p s).loader.params = some p := by
  rw [evaluated_frame .loader (by decide), overflowActed_params params]

/-- In RUNNING the setpoint is the share (R83). -/
theorem periodEnded_share (params : s.loader.params = some p)
    (running : (periodEnded tariff p s).sequencer.train = .running) :
    (periodEnded tariff p s).staging.sp = (periodEnded tariff p s).share p := by
  rw [periodEnded, finish_sequencer, computeShare_frame .sequencer (by decide)] at running
  have shared := computeShare_of_running (evaluated_params params) running
  have frame : changesOnly shareBlocks (evaluated tariff p s) (periodEnded tariff p s) :=
    (computeShare_frame.mono (by decide)).trans ((finish_frame s).mono (by decide))
  rw [share_congr frame, periodEnded, finish_staging, shared]
  rfl

theorem periodEnded_counters (params : s.loader.params = some p) :
    (periodEnded tariff p s).staging.up = (evaluated tariff p s).staging.up ∧
      (periodEnded tariff p s).staging.down = (evaluated tariff p s).staging.down ∧
      (periodEnded tariff p s).slot = (evaluated tariff p s).slot := by
  rw [periodEnded, finish_staging, finish_slot, computeShare_frame .slot (by decide)]
  by_cases running : (evaluated tariff p s).sequencer.train = .running
  · rw [computeShare_of_running (evaluated_params params) running]
    exact ⟨rfl, rfl, rfl⟩
  · rw [computeShare_of_not_running running]
    exact ⟨rfl, rfl, rfl⟩

/-! ## A new overflow (R125; before Staging evaluates, log 21) -/

theorem startRequest_of_not_ready (h : s.sequencer.train ≠ .ready) : startRequest p s = s :=
  if_neg fun k => h (own_startCandidate k.1)

theorem stopRequest_of_not_running (h : s.sequencer.train ≠ .running) : stopRequest p s = s :=
  if_neg fun k => h (own_stopCandidate k.1)

/-- A train in neither READY nor RUNNING asks for no slot. -/
theorem evaluated_of_idle (ready : (overflowActed tariff p s).sequencer.train ≠ .ready)
    (running : (overflowActed tariff p s).sequencer.train ≠ .running) :
    SameClaims (overflowActed tariff p s) (evaluated tariff p s) ∧
      (evaluated tariff p s).staging.sp = (overflowActed tariff p s).staging.sp := by
  have stages : ∀ (f : Profile) (lost : Bool) (u : State), u.sequencer.train ≠ .ready → u.sequencer.train ≠ .running →
      SameClaims u (stageEvaluation p f lost u) ∧ (stageEvaluation p f lost u).staging.sp = u.staging.sp ∧
        (stageEvaluation p f lost u).sequencer = u.sequencer := fun f lost u ready running => by
    unfold stageEvaluation
    split
    · exact ⟨⟨rfl, rfl⟩, rfl, rfl⟩
    · split
      · exact ⟨⟨rfl, rfl⟩, rfl, rfl⟩
      · rw [startRequest_of_not_ready (by exact ready), stopRequest_of_not_running (by exact running)]
        exact ⟨⟨rfl, rfl⟩, countStages_sp _ _ _, rfl⟩
  obtain ⟨claims, sp, sequencer⟩ := stages (tariffProfile tariff p) (decide (s.demand.source = .lost)) _ ready running
  rw [evaluated, withheldStopRequest_of_other (by rw [sequencer]; exact running)]
  exact ⟨claims, sp⟩

/-- What an overflow that the period sets leaves of a train that is not in READY or RUNNING after it. -/
theorem periodEnded_of_idle (ready : (overflowActed tariff p s).sequencer.train ≠ .ready)
    (running : (overflowActed tariff p s).sequencer.train ≠ .running) :
    (periodEnded tariff p s).slot = (overflowActed tariff p s).slot ∧
      (periodEnded tariff p s).line.set.yield = (overflowActed tariff p s).line.set.yield ∧
      (periodEnded tariff p s).line.set.bid = (overflowActed tariff p s).line.set.bid ∧
      (periodEnded tariff p s).staging.sp = (overflowActed tariff p s).staging.sp := by
  obtain ⟨claims, sp⟩ := evaluated_of_idle ready running
  have off : (evaluated tariff p s).sequencer.train ≠ .running := by
    rw [evaluated_frame .sequencer (by decide)]
    exact running
  rw [periodEnded, computeShare_of_not_running off, finish_slot, finish_staging, (finish_set s).1, (finish_set s).2.1,
    claims.slot, claims.line]
  exact ⟨rfl, rfl, rfl, sp⟩

theorem overflowActed_of_set (overflow : (estimated tariff p s).demand.overflow = true)
    (clear : s.demand.overflow = false) : overflowActed tariff p s = overflowCheck (estimated tariff p s) := by
  rw [overflowActed, overflow, clear]
  rfl

section

variable (params : s.loader.params = some p) (overflow : (estimated tariff p s).demand.overflow = true)
  (clear : s.demand.overflow = false) (mark : s.sequencer.conflict = false)
  (valve : s.sequencer.valve = valveOf s.sequencer.train)

include params overflow clear mark valve

theorem overflow_stops_running (running : s.sequencer.train = .running) :
    let t := periodEnded tariff p s
    t.sequencer.train = s.unloadsTo p ∧ t.sequencer.staged = false ∧ t.staging.sp = 0 ∧
      (∀ q, s.slot.view = .ownPending q → q.intent = .stop → cancelsClaim .aborted q s t) := by
  have sequencer : (estimated tariff p s).sequencer = s.sequencer := estimated_frame .sequencer (by decide)
  have slot : (estimated tariff p s).slot = s.slot := estimated_frame .slot (by decide)
  have run : (estimated tariff p s).sequencer.valve.run = true := by rw [sequencer, valve, running]; rfl
  have runs : (estimated tariff p s).sequencer.train = .running := by rw [sequencer]; exact running
  have loader : (estimated tariff p s).loader.params = some p := by rw [estimated_frame .loader (by decide), params]
  have port : (estimated tariff p s).port = s.port := estimated_frame .port (by decide)
  have trim : (estimated tariff p s).trim = s.trim := estimated_frame .trim (by decide)
  have goes : (estimated tariff p s).unloadsTo p = s.unloadsTo p := unloadsTo_congr (by rw [trim]) (by rw [port])
  have acts : overflowActed tariff p s = enterUnload false (estimated tariff p s) := by
    rw [overflowActed_of_set overflow clear, overflowCheck_of_running overflow runs]
  have train : (overflowActed tariff p s).sequencer.train = s.unloadsTo p := by
    rw [acts, enterUnload_train false loader run, goes]
  obtain ⟨ended, yield, bid, sp⟩ := periodEnded_of_idle (s := s) (tariff := tariff) (p := p)
    (by rw [train]; rcases unloadsTo_cases (s := s) p with h | h <;> rw [h] <;> decide)
    (by rw [train]; rcases unloadsTo_cases (s := s) p with h | h <;> rw [h] <;> decide)
  intro t
  refine ⟨periodEnded_sequencer ▸ train, ?_, ?_, fun q view stop => ?_⟩
  · show (periodEnded tariff p s).sequencer.staged = false
    rw [periodEnded_sequencer, acts, enterUnload_sequencer false loader run runs, Sequencer.unloaded]
    split <;> rfl
  · exact sp.trans (by rw [acts]; exact enterUnload_sp_zero false runs)
  · obtain ⟨claims, line⟩ := enterUnload_unstaged (s := estimated tariff p s)
    rw [acts] at ended yield bid
    rw [claims] at ended
    rw [line] at yield bid
    have cancels := leaving_cancels (s := estimated tariff p s) (o := .aborted) (x := .unload) (q := q)
      (by rw [slot]; exact view) (by rw [runs]; decide) (by rw [sequencer]; exact mark) (.inr ⟨stop, runs⟩)
    exact (cancels.rebase (s := s) estimated_frame (by decide) (by decide) (by decide) (by decide) (by decide)).congr
      ended bid yield

theorem overflow_aborts_start (start : s.sequencer.train.isStarting = true) :
    let t := periodEnded tariff p s
    t.sequencer.train = s.abortsTo p ∧ t.sequencer.failures = s.sequencer.failures ∧
      (∀ k hold, s.slot.view = .ownHeld k hold → givesSlotUp .aborted k s t) := by
  have sequencer : (estimated tariff p s).sequencer = s.sequencer := estimated_frame .sequencer (by decide)
  have slot : (estimated tariff p s).slot = s.slot := estimated_frame .slot (by decide)
  have starts : (estimated tariff p s).sequencer.train.isStarting = true := by rw [sequencer]; exact start
  have loader : (estimated tariff p s).loader.params = some p := by rw [estimated_frame .loader (by decide), params]
  have port : (estimated tariff p s).port = s.port := estimated_frame .port (by decide)
  have trim : (estimated tariff p s).trim = s.trim := estimated_frame .trim (by decide)
  have goes : (estimated tariff p s).abortsTo p = s.abortsTo p :=
    abortsTo_congr (by rw [sequencer]) (by rw [trim]) (by rw [port])
  have other : (estimated tariff p s).sequencer.train ≠ .running := fun e => by rw [e] at starts; cases starts
  have acts : overflowActed tariff p s = abortStart (estimated tariff p s) := by
    rw [overflowActed_of_set overflow clear, overflowCheck, if_pos overflow, if_neg other]
  have train : (overflowActed tariff p s).sequencer.train = s.abortsTo p := by
    rw [acts, abortStart_train starts loader (by rw [sequencer]; exact valve), goes]
  have waits : s.abortsTo p = .unload ∨ s.abortsTo p = .flush := by
    unfold State.abortsTo
    split
    · exact .inr rfl
    · exact unloadsTo_cases p
  obtain ⟨ended, yield, -, -⟩ := periodEnded_of_idle (s := s) (tariff := tariff) (p := p)
    (by rw [train]; rcases waits with h | h <;> rw [h] <;> decide)
    (by rw [train]; rcases waits with h | h <;> rw [h] <;> decide)
  intro t
  refine ⟨periodEnded_sequencer ▸ train, ?_, fun k hold view => ?_⟩
  · show (periodEnded tariff p s).sequencer.failures = _
    rw [periodEnded_sequencer, overflowActed_of_set overflow clear, overflowCheck_onlyMoves.failures, sequencer]
  · have gives := abortStart_gives (k := k) (hold := hold) starts (by rw [slot]; exact view) (by rw [sequencer]; exact mark)
    rw [acts] at ended yield
    exact (gives.rebase (s := s) estimated_frame (by decide) (by decide) (by decide) (by decide)).congr ended yield

end

/-! ## What the three paths set -/

theorem overflowActed_of_kept (kept : (estimated tariff p s).demand.overflow = true → s.demand.overflow = true) :
    overflowActed tariff p s = estimated tariff p s := by
  refine if_neg fun k => ?_
  obtain ⟨set, clear⟩ := Bool.and_eq_true_iff.mp k
  rw [kept set] at clear
  cases clear

/-- A period of a LOST source resets the stage counters (R7, R72). -/
theorem evaluated_of_lost (lost : s.demand.source = .lost) :
    (evaluated tariff p s).staging.up = 0 ∧ (evaluated tariff p s).staging.down = 0 := by
  have reset : stageEvaluation p (tariffProfile tariff p) (decide (s.demand.source = .lost)) (overflowActed tariff p s) =
      resetCounters (overflowActed tariff p s) := if_pos (decide_eq_true lost)
  rw [evaluated, reset, withheldStopRequest]
  split
  · cases takes : (resetCounters (overflowActed tariff p s)).takesRequest with
    | true =>
      obtain ⟨-, -, up, down⟩ := request_takesClaim .stop takes
      exact ⟨up, down⟩
    | false =>
      rw [request_of_refused .stop takes]
      exact ⟨rfl, rfl⟩
  · exact ⟨rfl, rfl⟩

theorem setSnapshots_snapshot (i : Station) :
    ((s.entry i).counted = true → (setSnapshots s).roster.entries[i].snapshot = some (s.entry i).tally.totalizer) ∧
      ((s.entry i).counted = false → (setSnapshots s).roster.entries[i].snapshot = s.roster.entries[i].snapshot) := by
  have set : (setSnapshots s).roster.entries[i] =
      if (s.entry i).counted then { s.roster.entries[i] with snapshot := some (s.entry i).tally.totalizer }
      else s.roster.entries[i] := Vector.getElem_ofFn i.isLt
  rw [set]
  exact ⟨fun h => by rw [if_pos h], fun h => by rw [h]; rfl⟩

theorem refreshSnapshots_snapshot (i : Station) :
    (refreshSnapshots s).roster.entries[i].snapshot =
      if (s.entry i).counted = true then some (s.entry i).tally.totalizer else none := by
  have set : (refreshSnapshots s).roster.entries[i] =
      { s.roster.entries[i] with
        snapshot := if (s.entry i).counted then some (s.entry i).tally.totalizer else none } := Vector.getElem_ofFn i.isLt
  rw [set]

theorem absDiff_eq (a b : Nat) : absDiff a b = ((a : Int) - b).natAbs := by
  unfold absDiff
  split <;> omega

theorem clampInt_zero_eq (hi : Nat) (x : Int) : clampInt 0 hi x = min (max x 0) hi := by
  unfold clampInt
  split
  · omega
  · split <;> omega

theorem entryProduction_of_none {tD : Nat} {e : Entry} (none : e.snapshot = none) : entryProduction tD e = 0 := by
  rw [entryProduction, none]

theorem entryProduction_of_some {tD n : Nat} {e : Entry} (some : e.snapshot = some n) :
    entryProduction tD e =
      if (e.tally.totalizer + 2 ^ 32 - n) % 2 ^ 32 ≤ 2 * (e.tally.qmaxAvail * tD / 360) then
        (e.tally.totalizer + 2 ^ 32 - n) % 2 ^ 32
      else 0 := by
  rw [entryProduction, some]
  by_cases high : 2 * (e.tally.qmaxAvail * tD / 360) < (e.tally.totalizer + 2 ^ 32 - n) % 2 ^ 32
  · rw [if_neg (Nat.not_le_of_lt high)]
    exact if_pos high
  · rw [if_pos (Nat.not_lt.mp high)]
    exact if_neg high

theorem periodBegun_production (tD : Nat) : (periodBegun tariff p s).production tD = s.production tD := by
  refine congrArg List.sum (List.map_congr_left fun i _ => ?_)
  rw [periodBegun_entry]

/-- Settles O48. -/
theorem demandPeriodComputesDemand : Obligations.DemandPeriodComputesDemand := by
  intro tariff p s params runs name f lvl again limited counted produced spill low
  have begun := periodBegun_demand (s := s) (tariff := tariff) params
  have begunEntries : (periodBegun tariff p s).roster = s.roster := periodBegun_frame .roster (by decide)
  have spills : s.demand.source ≠ .lost → (estimated tariff p s).demand.overflow = spill := fun read => by
    cases set : s.demand.lPrev with
    | none =>
      rw [estimated_of_unset params read set, snapshotPeriod]
      dsimp only
      rw [begun]
      rfl
    | some prev =>
      rw [estimated_of_set params read set, fullPeriod]
      dsimp only
      rw [begun]
      rfl
  refine ⟨_, exec_demandPeriodEnd params runs, periodEnded_frame, ?_, fun changes => ?_,
    fun running => periodEnded_share params running, fun read clear high mark valve => ⟨fun running => ?_, fun start => ?_⟩,
    fun lost => ?_, fun read unset => ?_, fun prev read set => ?_⟩
  · have pins : (periodEnded tariff p s).pins = (periodBegun tariff p s).pins := by
      rw [periodEnded, finish_pins, computeShare_frame .pins (by decide), evaluated_frame .pins (by decide),
        overflowActed_frame .pins (by decide), estimated, demandPath_frame .pins (by decide)]
    rw [pins, periodBegun_pins]
  · have logged : Logged (periodBegun tariff p s) (periodEnded tariff p s) :=
      (demandPath_offPort (s := periodBegun tariff p s)).logged.trans (overflowActed_logged.trans
        (((withheldStopRequest_offPort).after (stageEvaluation_offPort _ _ _)).logged.trans
          (computeShare_offPort.logged.trans (finish_logged s))))
    have raised := (periodBegun_records (tariff := tariff) (p := p) changes).first logged
    cases tariff <;> exact raised
  · exact overflow_stops_running params ((spills read).trans high) clear mark valve running
  · exact overflow_aborts_start params ((spills read).trans high) clear mark valve start
  · have same := estimated_of_lost (tariff := tariff) params lost
    obtain ⟨up, down, -⟩ := periodEnded_counters (s := s) (tariff := tariff) params
    obtain ⟨zeroUp, zeroDown⟩ := evaluated_of_lost (tariff := tariff) (p := p) lost
    exact ⟨by rw [periodEnded_demand, same, begun]; rfl, by rw [periodEnded_roster, same, begunEntries], up.trans zeroUp,
      down.trans zeroDown⟩
  · rw [periodEnded_demand, periodEnded_roster, estimated_of_unset params read unset]
    refine ⟨?_, fun i => ?_⟩
    · rw [snapshotPeriod]
      dsimp only
      rw [setSnapshots_demand, begun]
      rfl
    · obtain ⟨taken, kept⟩ := setSnapshots_snapshot (s := periodBegun tariff p s) i
      rw [periodBegun_entry] at taken kept
      rw [begunEntries] at kept
      refine ⟨fun h => taken ((counted_iff _).mpr h), fun h => kept ?_⟩
      exact Bool.eq_false_iff.mpr fun k => h ((counted_iff _).mp k)
  · rw [periodEnded_demand, periodEnded_roster, estimated_of_set params read set]
    refine ⟨?_, fun i => ?_⟩
    · have sum : s.production p.tD = (stations.map produced).sum := by
        refine congrArg List.sum (List.map_congr_left fun i _ => ?_)
        cases counts : (s.entry i).counted with
        | false =>
          show 0 = produced i
          simp only [produced, counts, Bool.false_eq_true, false_and, if_false]
          split <;> rfl
        | true =>
          show entryProduction p.tD (s.entry i) = produced i
          cases taken : (s.entry i).snapshot with
          | none => simp only [produced, taken, entryProduction_of_none taken]
          | some n => simp only [produced, taken, counts, true_and, entryProduction_of_some taken]
      have correct : levelCorrection p f.lTarget lvl =
          if ((f.lTarget : Int) - lvl).natAbs ≤ p.band then 0
          else (((f.lTarget : Int) - lvl) * p.tankC * 3600).tdiv (1000 * p.tRec : Nat) := by
        rw [levelCorrection, absDiff_eq]
      rw [fullPeriod, ← correct, ← sum]
      dsimp only
      rw [clampInt_zero_eq, periodBegun_production]
      rw [refreshSnapshots_demand, begun]
      rfl
    · exact (refreshSnapshots_snapshot (s := periodBegun tariff p s) i).trans (by rw [periodBegun_entry])

end Sys2Proof.Machine
end

section
/-! The stage evaluation within a period (R68 to R78, R81): what it counts, and what it asks for. -/

namespace Sys2Proof.Machine

open Sys2Proof

variable {s t u : State} {p : Params} {tariff : Bool}

/-! ## What the evaluation reads of the entries -/

/-- Every entry stands as it stood, with the fields of its TALLY: only snapshots differ. -/
structure SameStandings (s t : State) : Prop where
  ident : t.ident = s.ident
  loader : t.loader = s.loader
  withheld : t.withheld = s.withheld
  validity : ∀ i, (t.entry i).validity = (s.entry i).validity
  tally : ∀ i, (t.entry i).tally = (s.entry i).tally

namespace SameStandings

variable (h : SameStandings s t)

include h

theorem countsInPlant (i : Station) : t.countsInPlant i = s.countsInPlant i := by
  simp only [State.countsInPlant, h.validity, h.tally, h.loader]

theorem activeSet : t.activeSet = s.activeSet := by simp only [State.activeSet, h.countsInPlant, h.tally]

theorem startCandidates : t.startCandidates = s.startCandidates := by
  simp only [State.startCandidates, h.validity, h.tally, h.ident, h.withheld]

theorem stopCandidates : t.stopCandidates = s.stopCandidates := by
  simp only [State.stopCandidates, h.validity, h.tally]

theorem rankIn (key : TallyBody → Nat) (set : List Station) (i : Station) : t.rankIn key set i = s.rankIn key set i := by
  simp only [State.rankIn, State.comesBefore, h.tally]

theorem bestStop : t.bestStop = s.bestStop := by simp only [State.bestStop, h.stopCandidates, h.rankIn]

theorem capSum : t.capSum = s.capSum := by simp only [State.capSum, h.activeSet, h.tally]

theorem periodHeld (slot : t.slot = s.slot) : t.periodHeld = s.periodHeld := by
  simp only [State.periodHeld, slot, h.validity, h.tally]

end SameStandings

/-! ## The estimator leaves the standings -/

theorem demandPath_entries (i : Station) :
    (demandPath s).roster.entries[i] =
        { s.roster.entries[i] with snapshot := (demandPath s).roster.entries[i].snapshot } ∧
      (demandPath s).roster.minority = s.roster.minority := by
  have set : (setSnapshots s).roster.entries[i] =
      if (s.entry i).counted then { s.roster.entries[i] with snapshot := some (s.entry i).tally.totalizer }
      else s.roster.entries[i] := Vector.getElem_ofFn i.isLt
  have refreshed : (refreshSnapshots s).roster.entries[i] =
      { s.roster.entries[i] with
        snapshot := if (s.entry i).counted then some (s.entry i).tally.totalizer else none } := Vector.getElem_ofFn i.isLt
  unfold demandPath
  split
  · split
    · exact ⟨rfl, rfl⟩
    · split
      · refine ⟨?_, rfl⟩
        show (setSnapshots s).roster.entries[i] = { s.roster.entries[i] with
          snapshot := (setSnapshots s).roster.entries[i].snapshot }
        rw [set]
        split <;> rfl
      · refine ⟨?_, rfl⟩
        show (refreshSnapshots s).roster.entries[i] = { s.roster.entries[i] with
          snapshot := (refreshSnapshots s).roster.entries[i].snapshot }
        rw [refreshed]
  · exact ⟨rfl, rfl⟩

/-- What the estimator keeps of the withhold causes. -/
theorem estimated_causes :
    (estimated tariff p s).pins.withhold = s.pins.withhold ∧
      (estimated tariff p s).lport.withholdCmd = s.lport.withholdCmd ∧
      (estimated tariff p s).roster.minority = s.roster.minority := by
  have pins : (estimated tariff p s).pins = { s.pins with tariff := tariff } := by
    rw [estimated, demandPath_frame .pins (by decide), periodBegun_pins]
  have logged : Logged s (estimated tariff p s) := periodBegun_logged.trans demandPath_offPort.logged
  refine ⟨by rw [pins], by rw [logged.lport_eq], ?_⟩
  rw [estimated, (demandPath_entries (0 : Station)).2, periodBegun_frame .roster (by decide)]

theorem estimated_withheld : (estimated tariff p s).withheld = s.withheld := by
  obtain ⟨pin, command, minority⟩ := estimated_causes (s := s) (tariff := tariff) (p := p)
  rw [State.withheld, State.withheld, pin, command, minority]

theorem estimated_ownTally : (estimated tariff p s).ownTally = s.ownTally :=
  ownTally_of_same (estimated_frame.mono (by decide)) (by rw [estimated_frame .port (by decide)]) estimated_withheld

theorem estimated_standings : SameStandings s (estimated tariff p s) := by
  have port : (estimated tariff p s).port = s.port := estimated_frame .port (by decide)
  have roster : (periodBegun tariff p s).roster = s.roster := periodBegun_frame .roster (by decide)
  have entries (i : Station) : (estimated tariff p s).entry i =
      { s.entry i with snapshot := (estimated tariff p s).roster.entries[i].snapshot } := by
    rw [entry_of_same (estimated_frame.mono (by decide)) (by rw [port]) estimated_withheld]
    split
    · rfl
    · next other =>
      rw [State.entry, if_neg other]
      have path := (demandPath_entries (s := periodBegun tariff p s) i).1
      rw [roster] at path
      exact path
  exact ⟨estimated_frame .ident (by decide), estimated_frame .loader (by decide), estimated_withheld,
    fun i => by rw [entries], fun i => by rw [entries]⟩

/-! ## A request refused, and a request taken -/

theorem startRequest_of_refused (h : s.takesRequest = false) : startRequest p s = s := by
  unfold startRequest
  dsimp only
  rw [request_of_refused .start h, ite_self]

theorem stopRequest_of_refused (h : s.takesRequest = false) : stopRequest p s = s := by
  unfold stopRequest
  dsimp only
  rw [request_of_refused .stop h, ite_self]

theorem withheldStopRequest_of_refused (h : s.takesRequest = false) : withheldStopRequest s = s := by
  unfold withheldStopRequest
  rw [request_of_refused .stop h, ite_self]

/-- A request taken leaves no room for another. -/
theorem request_refuses {k : Kind} (takes : s.takesRequest = true) : (request k s).takesRequest = false := by
  by_contra again
  obtain ⟨view, -⟩ := takesRequest_iff.mp (by simpa using again)
  obtain ⟨slot, -⟩ := request_takesClaim k takes
  rw [slot] at view
  cases view

/-- The evaluation's three requests, in their order. -/
def requestsMade (p : Params) (s : State) : State := withheldStopRequest (stopRequest p (startRequest p s))

/-- The conditions of the three requests. -/
def State.startsNow (p : Params) (s : State) : Prop :=
  let r := s.rankIn startKey s.startCandidates s.ident.station
  s.ident.station ∈ s.startCandidates ∧ (p.nUp * r ≤ s.staging.up ∨ (r ≤ s.staging.up ∧ s.demand.lowLow = true))

def State.stopsNow (p : Params) (s : State) : Prop :=
  s.ident.station ∈ s.stopCandidates ∧
    p.nDn * s.rankIn stopKey s.stopCandidates s.ident.station ≤ s.staging.down

def State.withheldRun (s : State) : Prop := s.sequencer.train = .running ∧ s.withheld = true

theorem requestsMade_of_refused (h : s.takesRequest = false) : requestsMade p s = s := by
  rw [requestsMade, startRequest_of_refused h, stopRequest_of_refused h, withheldStopRequest_of_refused h]

theorem requestsMade_of_start (starts : s.startsNow p) (takes : s.takesRequest = true) :
    requestsMade p s = request .start s := by
  have first : startRequest p s = request .start s := if_pos starts
  have refuses := request_refuses (k := .start) takes
  rw [requestsMade, first, stopRequest_of_refused refuses, withheldStopRequest_of_refused refuses]

theorem requestsMade_of_stop (asks : s.stopsNow p ∨ s.withheldRun) (takes : s.takesRequest = true) :
    requestsMade p s = request .stop s := by
  have running : s.sequencer.train = .running := asks.elim (fun h => own_stopCandidate h.1) (fun h => h.1)
  have first : startRequest p s = s := startRequest_of_not_ready (by rw [running]; decide)
  rw [requestsMade, first]
  by_cases stops : s.stopsNow p
  · have second : stopRequest p s = request .stop s := if_pos stops
    rw [second, withheldStopRequest_of_refused (request_refuses takes)]
  · have second : stopRequest p s = s := if_neg stops
    rw [second]
    exact if_pos (asks.resolve_left stops)

theorem requestsMade_of_none (starts : ¬s.startsNow p) (stops : ¬s.stopsNow p) (withheld : ¬s.withheldRun) :
    requestsMade p s = s := by
  have first : startRequest p s = s := if_neg starts
  have second : stopRequest p s = s := if_neg stops
  rw [requestsMade, first, second]
  exact if_neg withheld

/-! ## The period's evaluation -/

/-- The estimator's part with the stage counters counted. -/
def counted (tariff : Bool) (p : Params) (s : State) : State :=
  { estimated tariff p s with
    staging := countStages ((estimated tariff p s).upCond p (tariffProfile tariff p))
      ((estimated tariff p s).downCond p (tariffProfile tariff p)) (estimated tariff p s).staging }

theorem counted_standings : SameStandings s (counted tariff p s) :=
  have h := estimated_standings (s := s) (tariff := tariff) (p := p)
  ⟨h.ident, h.loader, h.withheld, h.validity, h.tally⟩

theorem evaluated_of_held (read : s.demand.source ≠ .lost) (held : s.periodHeld = true)
    (kept : (estimated tariff p s).demand.overflow = true → s.demand.overflow = true) :
    evaluated tariff p s = withheldStopRequest (estimated tariff p s) := by
  have holds : (estimated tariff p s).periodHeld = true :=
    (estimated_standings.periodHeld (estimated_frame .slot (by decide))).trans held
  rw [evaluated, overflowActed_of_kept kept, decide_eq_false read, stageEvaluation, if_neg Bool.false_ne_true, if_pos holds]

theorem evaluated_of_counting (read : s.demand.source ≠ .lost) (held : s.periodHeld = false)
    (kept : (estimated tariff p s).demand.overflow = true → s.demand.overflow = true) :
    evaluated tariff p s = requestsMade p (counted tariff p s) := by
  have runs : ¬(estimated tariff p s).periodHeld = true := by
    rw [estimated_standings.periodHeld (estimated_frame .slot (by decide)), held]
    exact Bool.false_ne_true
  rw [evaluated, overflowActed_of_kept kept, decide_eq_false read, stageEvaluation, if_neg Bool.false_ne_true, if_neg runs]
  rfl

theorem estimated_key (k : Kind) : (estimated tariff p s).requestKey k = s.requestKey k := by
  have ended : (estimated tariff p s).loadEnded = s.loadEnded := by
    rw [State.loadEnded, State.loadEnded, estimated_frame .loader (by decide)]
  cases k with
  | start => show State.ownStartKey _ = _; rw [State.ownStartKey, ended, estimated_ownTally]; rfl
  | stop => show State.ownStopKey _ = _; rw [State.ownStopKey, ended, estimated_ownTally]; rfl

theorem estimated_cause (k : Kind) : (estimated tariff p s).requestCause k = s.requestCause k := by
  obtain ⟨pin, command, minority⟩ := estimated_causes (s := s) (tariff := tariff) (p := p)
  cases k with
  | start => rfl
  | stop => show State.bidCause _ = _; rw [State.bidCause, pin, command, minority]; rfl

/-- A claim that the evaluation takes stands in the answer. -/
theorem periodEnded_takesClaim {k : Kind} (params : s.loader.params = some p)
    (takes : (estimated tariff p s).takesRequest = true) {w : State} (slot : w.slot = (estimated tariff p s).slot)
    (sequencer : w.sequencer = (estimated tariff p s).sequencer) (ident : w.ident = (estimated tariff p s).ident)
    (key : w.requestKey k = (estimated tariff p s).requestKey k)
    (cause : w.requestCause k = (estimated tariff p s).requestCause k)
    (asked : evaluated tariff p s = request k w) :
    takesClaim k (s.requestKey k) (s.requestCause k) s (periodEnded tariff p s) := by
  have taken : w.takesRequest = true := by
    rw [takesRequest_iff] at takes ⊢
    rw [slot, sequencer]
    exact takes
  have claim := request_takesClaim k taken
  rw [key, cause, estimated_key, estimated_cause, ← asked] at claim
  obtain ⟨view, bid, up, down⟩ := claim.rebase (s := s) (slot.trans (estimated_frame .slot (by decide)))
    (ident.trans (estimated_frame .ident (by decide)))
  obtain ⟨sameUp, sameDown, sameSlot⟩ := periodEnded_counters (s := s) (tariff := tariff) params
  refine ⟨sameSlot.trans view, ?_, sameUp.trans up, sameDown.trans down⟩
  rw [periodEnded, (finish_set s).2.1, computeShare_frame .line (by decide)]
  exact bid

theorem upCond_iff {f : Profile} :
    s.upCond p f = true ↔
      (s.activeSet.length < p.mMin ∨ s.capSum * f.stageUpPct < s.demand.qReq * 100) ∧ s.activeSet.length < f.mMax ∧
        s.startCandidates ≠ [] ∧ s.demand.overflow = false := by
  simp [State.upCond, and_assoc]

theorem downCond_iff {f : Profile} :
    s.downCond p f = true ↔
      p.mMin < s.activeSet.length ∧ (∀ i ∈ s.activeSet, (s.entry i).tally.stateCode ≠ 3) ∧ s.demand.overflow = false ∧
        ∃ c, s.bestStop = some c ∧
          s.demand.qReq * 100 < (s.capSum - (s.entry c).tally.qmaxAvail) * f.stageDownPct := by
  unfold State.downCond
  cases s.bestStop with
  | none => simp
  | some c =>
    simp only [Bool.and_eq_true, decide_eq_true_eq, List.all_eq_true, Bool.not_eq_true', decide_eq_false_iff_not,
      Option.some.injEq, exists_eq_left']
    exact ⟨fun ⟨⟨⟨a, b⟩, c⟩, d⟩ => ⟨a, b, d, c⟩, fun ⟨a, b, d, c⟩ => ⟨⟨⟨a, b⟩, c⟩, d⟩⟩

theorem countStages_spec (up down : Bool) (q : Staging) :
    (up = true → (countStages up down q).up = min 255 (q.up + 1) ∧ (countStages up down q).down = 0) ∧
      (¬up = true → down = true → (countStages up down q).up = 0 ∧ (countStages up down q).down = min 255 (q.down + 1)) ∧
      (¬up = true → ¬down = true → (countStages up down q).up = 0 ∧ (countStages up down q).down = 0) := by
  rw [← satInc_eq_min, ← satInc_eq_min]
  cases up <;> cases down <;> simp [countStages]

/-- The Arbiter takes a request of a train in READY or RUNNING exactly when the view is FREE, the gap run out and the
join wait passed. -/
theorem takesRequest_of_asking (asks : s.sequencer.train = .ready ∨ s.sequencer.train = .running) :
    s.takesRequest = true ↔
      s.slot.view = .free ∧ s.slot.gap = none ∧ s.slot.joinPassed = true ∧ s.sequencer.conflict = false := by
  rw [takesRequest_iff]
  have configured : s.sequencer.train ≠ .unconfigured := by rcases asks with h | h <;> rw [h] <;> decide
  exact ⟨fun ⟨view, gap, join, clear, _⟩ => ⟨view, gap, join, clear⟩,
    fun ⟨view, gap, join, clear⟩ => ⟨view, gap, join, clear, configured⟩⟩

/-- Settles O49. -/
theorem stageCountersFollowTheConditions : Obligations.StageCountersFollowTheConditions := by
  intro tariff p s params runs read f n own withheldRun accepts
  refine ⟨_, exec_demandPeriodEnd params runs, fun kept => ?_⟩
  rw [periodEnded_demand] at kept ⊢
  have sequencer : (estimated tariff p s).sequencer = s.sequencer := estimated_frame .sequencer (by decide)
  have slot : (estimated tariff p s).slot = s.slot := estimated_frame .slot (by decide)
  have staging : (estimated tariff p s).staging = s.staging := estimated_frame .staging (by decide)
  obtain ⟨up, down, claims⟩ := periodEnded_counters (s := s) (tariff := tariff) params
  have takes (asks : s.sequencer.train = .ready ∨ s.sequencer.train = .running) :
      (estimated tariff p s).takesRequest = true ↔ accepts := by
    rw [takesRequest_of_asking (by rw [sequencer]; exact asks), slot, sequencer]
  refine ⟨fun held => ?_, fun counting => ?_⟩
  · have evaluation := evaluated_of_held (tariff := tariff) (p := p) read held kept
    have asks : (estimated tariff p s).withheldRun ↔ withheldRun := by
      rw [State.withheldRun, sequencer, estimated_withheld]
    refine ⟨fun quiet => ?_, fun withheld accepted => ?_⟩
    · have none : evaluated tariff p s = estimated tariff p s := by
        rw [evaluation]
        by_cases withheld : withheldRun
        · refine withheldStopRequest_of_refused ?_
          exact Bool.eq_false_iff.mpr fun k => quiet ⟨withheld, (takes (.inr withheld.1)).mp k⟩
        · exact if_neg fun k => withheld (asks.mp k)
      rw [up, down, claims, none, staging, slot]
      exact ⟨rfl, rfl, rfl⟩
    · refine periodEnded_takesClaim (k := .stop) params ((takes (.inr withheld.1)).mpr accepted) rfl rfl rfl rfl rfl ?_
      rw [evaluation]
      exact if_pos (asks.mpr withheld)
  · have evaluation := evaluated_of_counting (tariff := tariff) (p := p) read counting kept
    have same := counted_standings (s := s) (tariff := tariff) (p := p)
    have conds := estimated_standings (s := s) (tariff := tariff) (p := p)
    have spec := countStages_spec ((estimated tariff p s).upCond p (tariffProfile tariff p))
      ((estimated tariff p s).downCond p (tariffProfile tariff p)) (estimated tariff p s).staging
    rw [upCond_iff, downCond_iff, conds.activeSet, conds.capSum, conds.startCandidates, conds.bestStop, staging] at spec
    simp only [conds.tally] at spec
    obtain ⟨raises, lowers, resets⟩ := spec
    have candidates : (counted tariff p s).startsNow p ↔
        own ∈ s.startCandidates ∧
          (p.nUp * s.rankIn startKey s.startCandidates own ≤ (counted tariff p s).staging.up ∨
            (s.rankIn startKey s.startCandidates own ≤ (counted tariff p s).staging.up ∧
              (estimated tariff p s).demand.lowLow = true)) := by
      rw [State.startsNow, same.ident, same.startCandidates, same.rankIn]
      rfl
    have stopping : (counted tariff p s).stopsNow p ↔
        own ∈ s.stopCandidates ∧
          p.nDn * s.rankIn stopKey s.stopCandidates own ≤ (counted tariff p s).staging.down := by
      rw [State.stopsNow, same.ident, same.stopCandidates, same.rankIn]
    have asks : (counted tariff p s).withheldRun ↔ withheldRun := by
      rw [State.withheldRun, same.withheld]
      show (estimated tariff p s).sequencer.train = .running ∧ _ ↔ _
      rw [sequencer]
    have moved : (counted tariff p s).takesRequest = (estimated tariff p s).takesRequest := rfl
    refine ⟨(counted tariff p s).staging.up, (counted tariff p s).staging.down, by rw [counted, staging]; exact raises,
      by rw [counted, staging]; exact lowers, by rw [counted, staging]; exact resets,
      fun starts accepted => ?_, fun stops accepted => ?_, fun quiet => ?_⟩
    · have accepted := (takes (.inl (own_startCandidate starts.1))).mpr accepted
      refine periodEnded_takesClaim (k := .start) (w := counted tariff p s) params accepted rfl rfl rfl rfl rfl ?_
      rw [evaluation]
      exact requestsMade_of_start (candidates.mpr starts) accepted
    · have running : s.sequencer.train = .running := stops.elim (fun h => own_stopCandidate h.1) (fun h => h.1)
      have accepted := (takes (.inr running)).mpr accepted
      refine periodEnded_takesClaim (k := .stop) (w := counted tariff p s) params accepted rfl rfl rfl rfl rfl ?_
      rw [evaluation]
      exact requestsMade_of_stop (stops.imp stopping.mpr asks.mpr) accepted
    · have none : evaluated tariff p s = counted tariff p s := by
        rw [evaluation]
        by_cases asking : ((counted tariff p s).startsNow p ∨ (counted tariff p s).stopsNow p) ∨
            (counted tariff p s).withheldRun
        · refine requestsMade_of_refused (Bool.eq_false_iff.mpr fun k => ?_)
          rw [moved] at k
          rcases asking with (starts | stops) | withheld
          · have starts := candidates.mp starts
            exact quiet ⟨.inl starts, (takes (.inl (own_startCandidate starts.1))).mp k⟩
          · have stops := stopping.mp stops
            exact quiet ⟨.inr (.inl stops), (takes (.inr (own_stopCandidate stops.1))).mp k⟩
          · have withheld := asks.mp withheld
            exact quiet ⟨.inr (.inr withheld), (takes (.inr withheld.1)).mp k⟩
        · exact requestsMade_of_none (fun k => asking (.inl (.inl k))) (fun k => asking (.inl (.inr k)))
            fun k => asking (.inr k)
      rw [up, down, claims, none]
      exact ⟨rfl, rfl, slot⟩

end Sys2Proof.Machine
end

section
/-! The load at device reset (R192): a failed one, and the conditions that a successful one judges afresh (R147). -/

namespace Sys2Proof.Machine

open Sys2Proof

variable {s t u : State}

/-! ## Records within a taking -/

theorem Logged.records_of (h : Logged s t) : ∃ l, Records l s t := by
  obtain ⟨time, l, queue, -⟩ := h
  exact ⟨l, time, queue⟩

theorem raisedWithin_of_logged {r : EventKind × Nat × Nat} {g : State} (before : Logged s u) (raised : Records [r] u g)
    (after : Logged g t) : raisedWithin r s t := by
  obtain ⟨l, records⟩ := before.records_of
  exact records.within raised after

theorem raisedWithin.mono {r : EventKind × Nat × Nat} (h : raisedWithin r s t) (time : t.time = s.time)
    (after : Logged t u) : raisedWithin r s u := by
  obtain ⟨l, m, queue⟩ := h
  obtain ⟨-, n, more, -⟩ := after
  refine ⟨l, m ++ n, ?_⟩
  have append : raiseAll (l ++ r :: (m ++ n)) s = raiseAll n (raiseAll (l ++ r :: m) s) := by simp [raiseAll]
  rw [more, State.queueAfter, append]
  exact raiseAll_queue_congr n queue (time.trans (raiseAll_time _).symm)

theorem raisedWithin.after {r : EventKind × Nat × Nat} (h : raisedWithin r u t) (before : Logged s u) :
    raisedWithin r s t := by
  obtain ⟨l, m, queue⟩ := h
  obtain ⟨time, n, more, -⟩ := before
  have append : raiseAll (n ++ l ++ r :: m) s = raiseAll (l ++ r :: m) (raiseAll n s) := by simp [raiseAll]
  refine ⟨n ++ l, m, ?_⟩
  rw [queue, State.queueAfter, State.queueAfter, append]
  exact raiseAll_queue_congr _ more (time.trans (raiseAll_time _).symm)

/-! ## A move between states at rest -/

/-- A train that waits, or has tripped, with its valve word at rest. -/
def State.waits (s : State) : Prop :=
  (s.sequencer.train = .rest ∨ s.sequencer.train = .withheld) ∧ s.sequencer.valve = Valve.atRest

/-- The Sequencer parked in another state. -/
def Sequencer.parkedIn (x : Train) (q : Sequencer) : Sequencer :=
  { q with train := x, phase := none, quality := none, staged := false }

theorem State.waits.leaving (h : s.waits) (o : YieldOutcome) (x : Train) : leaving o x s = s :=
  leaving_of_no_claim (by rcases h.1 with k | k <;> rw [k] <;> decide) (by rcases h.1 with k | k <;> rw [k] <;> decide)

theorem State.waits.moveTo_frame (h : s.waits) (o : YieldOutcome) {x : Train} (parked : x.isParked = true) :
    changesOnly [.sequencer, .port, .lport, .queue] s (moveTo o x s) :=
  moveTo_frame_of_off (h.leaving o x) (by rw [h.2]; rfl) (by rw [valveOf_parked parked]; rfl)
    (by rcases h.1 with k | k <;> rw [k] <;> decide)

theorem State.waits.moveTo_sequencer (h : s.waits) (o : YieldOutcome) {x : Train} (parked : x.isParked = true) :
    (moveTo o x s).sequencer = s.sequencer.parkedIn x := by
  rw [Machine.moveTo_sequencer, if_neg fun k => ?_, valveOf_parked parked, phaseTimerOf_parked parked, ← h.2]
  · rfl
  · rcases h.1 with e | e <;> rw [e] at k <;> exact nomatch k.1

theorem State.waits.moveTo_records (_ : s.waits) (clear : s.sequencer.conflict = false) (o : YieldOutcome) {x : Train}
    (parked : x.isParked = true) (code : x.code ≠ s.sequencer.train.code) :
    Records [(.stateChange, s.own, x.code * 16)] s (moveTo o x s) := by
  have moved := Machine.moveTo_records (s := s) o x
  rw [moveRecords_of_code clear code, phaseCode_parked parked] at moved
  exact moved

/-! ## A failed load -/

theorem judgeExternal_of_released (pin : s.pins.tripIn = false) :
    judgeExternal s = { s with protection := { s.protection with extFlag := false } } := by
  rw [judgeExternal, pin]
  rfl

theorem judgePortLoss_of_connected (connected : s.port.state.isLost = false) :
    judgePortLoss s = { s with protection := { s.protection with portFlag := false } } := by
  rw [judgePortLoss, connected]
  rfl

/-- The Loader without a parameter set, with the record of the failure. -/
def loadDropped (r : Nat) (s : State) : State :=
  raiseOwn .configFailed r { s with loader := { s.loader with phase := .idle, params := none, signature := 0 } }

/-- What a failed load leaves of a part that waits, with no condition held. -/
theorem loadFailed_eq (r : Nat) (waits : s.waits) (pin : s.pins.tripIn = false) (connected : s.port.state.isLost = false) :
    loadFailed r s =
      { startTallyTimer (moveTo .aborted .unconfigured (loadDropped r s)) with
        protection := { s.protection with extFlag := false, portFlag := false } } := by
  have frame : changesOnly [.sequencer, .port, .lport, .queue] (loadDropped r s)
      (moveTo .aborted .unconfigured (loadDropped r s)) :=
    State.waits.moveTo_frame (s := loadDropped r s) waits .aborted rfl
  have pins : (moveTo .aborted .unconfigured (loadDropped r s)).pins = s.pins := frame .pins (by decide)
  have protection : (moveTo .aborted .unconfigured (loadDropped r s)).protection = s.protection := frame .protection (by decide)
  have port : (moveTo .aborted .unconfigured (loadDropped r s)).port.state = s.port.state := by
    rw [(moveTo_offPort (s := loadDropped r s) .aborted .unconfigured).port]
    rfl
  show judgePortLoss (judgeExternal (startTallyTimer (moveTo .aborted .unconfigured (loadDropped r s)))) = _
  rw [judgeExternal_of_released (s := startTallyTimer (moveTo .aborted .unconfigured (loadDropped r s)))
    ((congrArg Pins.tripIn pins).trans pin), judgePortLoss_of_connected]
  · show { startTallyTimer (moveTo .aborted .unconfigured (loadDropped r s)) with
      protection := { (moveTo .aborted .unconfigured (loadDropped r s)).protection with extFlag := false, portFlag := false } } = _
    rw [protection]
  · exact (congrArg PortState.isLost port).trans connected

/-- Settles O21. -/
theorem failedLoadLeavesPartUnconfigured : Obligations.FailedLoadLeavesPartUnconfigured := by
  intro image tariff r s loading failed train clear valve pin connected
  let read : State := { s with pins := { s.pins with tariff := tariff } }
  have waits : read.waits := ⟨.inl train, valve⟩
  let moved := moveTo .aborted .unconfigured (loadDropped r read)
  have frame : changesOnly [.sequencer, .port, .lport, .queue] (loadDropped r read) moved :=
    State.waits.moveTo_frame (s := loadDropped r read) waits .aborted rfl
  have ends := loadFailed_eq r waits (s := read) pin connected
  have sequencer : moved.sequencer = s.sequencer.parkedIn .unconfigured :=
    State.waits.moveTo_sequencer (s := loadDropped r read) waits .aborted rfl
  have records : Records [(.configFailed, s.own, r), (.stateChange, s.own, 0)] s moved := by
    have dropped : Records [(.configFailed, s.own, r)] s (loadDropped r read) := ⟨rfl, rfl⟩
    have other : Train.unconfigured.code ≠ s.sequencer.train.code := by rw [train]; decide
    exact dropped.trans (State.waits.moveTo_records (s := loadDropped r read) waits clear .aborted rfl other)
  have loader : moved.loader = { s.loader with phase := .idle, params := none, signature := 0 } :=
    frame .loader (by decide)
  have line : moved.line = s.line := frame .line (by decide)
  have ident : moved.ident = s.ident := frame .ident (by decide)
  have time : moved.time = s.time := frame .time (by decide)
  have run : exec (.configLoadEnd image tariff) s = .next (finish s (loadFailed r read)) := by
    simp only [exec, execConfigLoadEnd, loading, failed, read]
  have slot : (loadFailed r read).slot = s.slot := by
    rw [ends]
    exact frame .slot (by decide)
  have answer : finish s (loadFailed r read) = arbitrate (loadFailed r read) := finish_of_slot_kept slot
  have sequencer' : (finish s (loadFailed r read)).sequencer = s.sequencer.parkedIn .unconfigured := by
    rw [finish_sequencer, ends]
    exact sequencer
  have loader' : (finish s (loadFailed r read)).loader = { s.loader with phase := .idle, params := none, signature := 0 } := by
    rw [finish_loader, ends]
    exact loader
  have entry : (finish s (loadFailed r read)).entry s.ident.station =
      { validity := .live, tally := (finish s (loadFailed r read)).ownTally, silence := none
        snapshot := (finish s (loadFailed r read)).roster.entries[s.ident.station].snapshot } := by
    have ended : (finish s (loadFailed r read)).loadEnded = true := by rw [State.loadEnded, loader']; rfl
    have own : (finish s (loadFailed r read)).ident = s.ident := by rw [finish_ident, ends]; exact ident
    rw [State.entry, own, if_pos rfl, ended]
    rfl
  refine ⟨_, run, loader', sequencer', by rw [entry], ?_, ?_, ?_, ?_, ?_, ?_, ?_⟩
  · rw [entry]
    show State.ownCode _ = 0
    rw [State.ownCode, sequencer']
    show (if s.sequencer.conflict = true then 8 else 0) = 0
    rw [clear]
    rfl
  · rw [entry]
    simp only [State.ownTally, loader']
  · rw [entry]
    simp only [State.ownTally, loader']
  · rw [answer, arbitrate_line, ends]
    show { moved.line with
      tally := startTimer moved.time (moved.ident.station.val * moved.tS / 16), tallyFirst := true } = _
    rw [line, time, ident, State.tS, loader]
    rfl
  · rw [State.runPermit, sequencer']
    simp [Sequencer.parkedIn]
  · rw [finish_queue, ends]
    exact records.queue
  · rw [answer, ends]
    refine changesOnly.trans ?_ (arbitrate_frame.mono (by decide))
    intro b hb
    have kept := frame b
    cases b <;> first | exact absurd (by decide) hb | exact kept (by decide)

end Sys2Proof.Machine
end

section
/-! A successful load at device reset (R192): the conditions that hold are judged afresh, each an arrival (R147). -/

namespace Sys2Proof.Machine

open Sys2Proof

variable {s t u : State} {holds : Cause → Bool} {done : List Cause} {c : Cause}

/-! ## An arrival at a train that waits -/

/-- A train that waits trips at once, and one that has tripped stays. -/
theorem sequencerTrip_of_waiting (waits : s.waits) : sequencerTrip s = moveTo .tripped .tripped s := by
  rcases waits.1 with train | train <;> simp only [sequencerTrip, train]

theorem sequencerTrip_of_tripped (tripped : s.sequencer.train = .tripped) : sequencerTrip s = s := by
  simp only [sequencerTrip, tripped]

theorem arrive_flags (c : Cause) :
    (arrive c s).protection.driveFlag = s.protection.driveFlag ∧ (arrive c s).protection.highFlag = s.protection.highFlag ∧
      (arrive c s).protection.portFlag = s.protection.portFlag := by
  cases latch : s.protection.latches.get c with
  | true =>
    rw [arrive_latched c latch]
    exact ⟨rfl, rfl, rfl⟩
  | false =>
    rw [arrive_of_clear c latch, (sequencerTrip_onlyMoves (s := latched c s)).protection]
    exact ⟨rfl, rfl, rfl⟩

theorem arriveIf_flags (now before : Bool) (c : Cause) :
    (arriveIf now before c s).protection.driveFlag = s.protection.driveFlag ∧
      (arriveIf now before c s).protection.highFlag = s.protection.highFlag ∧
      (arriveIf now before c s).protection.portFlag = s.protection.portFlag := by
  unfold arriveIf
  split
  · exact arrive_flags c
  · exact ⟨rfl, rfl, rfl⟩

/-! ## Conditions judged one after another -/

/-- Some conditions have been judged in a train that waits with no latch set: each that holds has latched, counted and
raised its TRIP, and the first of them has tripped the train. -/
structure Judged (holds : Cause → Bool) (done : List Cause) (s t : State) : Prop where
  frame : changesOnly [.sequencer, .protection, .port, .lport, .queue] s t
  port : t.port = { s.port with pendValve := t.port.pendValve, pendSpeed := t.port.pendSpeed }
  logged : Logged s t
  latches : ∀ k, t.protection.latches.get k = (decide (k ∈ done) && holds k)
  counts : ∀ k, t.protection.counts.get k =
    if k ∈ done ∧ holds k = true then min 63 (s.protection.counts.get k + 1) else s.protection.counts.get k
  sequencer : t.sequencer = if done.any holds then s.sequencer.parkedIn .tripped else s.sequencer
  trips : ∀ k ∈ done, holds k = true → raisedWithin (.trip, s.own, k.code) s t
  quiet : done.any holds = false → Records [] s t

theorem Judged.start (clear : s.protection.latches.any = false) : Judged holds [] s s := by
  refine ⟨changesOnly_refl _ s, rfl, .of_eq rfl rfl rfl, fun k => ?_, fun k => ?_, rfl, fun k mem => (nomatch mem), fun _ => .refl s⟩
  · rw [decide_eq_false List.not_mem_nil, Bool.false_and]
    by_contra set
    have some : s.protection.latches.any = true := s.protection.latches.any_eq_true_iff.mpr ⟨k, by simpa using set⟩
    rw [clear] at some
    cases some
  · rw [if_neg fun e => List.not_mem_nil e.1]

/-- Protection's flags and timers do not matter to what has been judged. -/
theorem Judged.protection (h : Judged holds done s t) {q : Protection} (latches : q.latches = t.protection.latches)
    (counts : q.counts = t.protection.counts) : Judged holds done s { t with protection := q } := by
  refine ⟨?_, h.port, h.logged.trans (.of_eq rfl rfl rfl), fun k => ?_, fun k => ?_, h.sequencer, fun k mem holding => ?_,
    fun none => (h.quiet none).trans ⟨rfl, rfl⟩⟩
  · exact h.frame.trans ((protection_frame q).mono (by decide))
  · show q.latches.get k = _
    rw [latches]
    exact h.latches k
  · show q.counts.get k = _
    rw [counts]
    exact h.counts k
  · exact (h.trips k mem holding).mono h.logged.time (.of_eq rfl rfl rfl)

/-- The trip of a train whose conditions have been judged so far. -/
theorem Judged.trip (h : Judged holds done s t) (waits : s.waits) (same : u.sequencer = t.sequencer) :
    changesOnly [.sequencer, .port, .lport, .queue] u (sequencerTrip u) ∧
      (sequencerTrip u).sequencer = s.sequencer.parkedIn .tripped := by
  have now := same.trans h.sequencer
  cases tripped : done.any holds with
  | true =>
    rw [tripped, if_pos rfl] at now
    rw [sequencerTrip_of_tripped (by rw [now]; rfl)]
    exact ⟨changesOnly_refl _ u, now⟩
  | false =>
    rw [tripped, if_neg Bool.false_ne_true] at now
    have still : u.waits := by rw [State.waits, now]; exact waits
    rw [sequencerTrip_of_waiting still]
    exact ⟨still.moveTo_frame .tripped rfl, by rw [still.moveTo_sequencer .tripped rfl, now]⟩

theorem Judged.arrives (h : Judged holds done s t) (waits : s.waits) (fresh : c ∉ done) (now : holds c = true) :
    Judged holds (c :: done) s (arrive c t) := by
  have clear : t.protection.latches.get c = false := by rw [h.latches, decide_eq_false fresh, Bool.false_and]
  have counts := arrive_counts (s := t) c
  have latches := arrive_latches (s := t) c
  have offPort := arrive_offPort (s := t) c
  obtain ⟨frame, sequencer⟩ := h.trip (u := latched c t) waits rfl
  have eq := arrive_of_clear c clear
  have raised : Records [(.trip, t.own, c.code)] t (latched c t) := ⟨rfl, rfl⟩
  have own : t.own = s.own := own_congr (h.frame .ident (by decide))
  have any : (c :: done).any holds = true := by rw [List.any_cons, now]; rfl
  refine ⟨h.frame.trans ?_, by rw [offPort.port, h.port], h.logged.trans offPort.logged, fun k => ?_, fun k => ?_, ?_,
    fun k mem holding => ?_, fun none => absurd (any.symm.trans none) (by decide)⟩
  · rw [eq]
    refine changesOnly.trans (t := latched c t) (fun b hb => ?_) (frame.mono (by decide))
    cases b <;> first | rfl | exact absurd (by decide) hb
  · rw [latches]
    by_cases same : k = c
    · subst same
      rw [PerCause.get_put_self, now, decide_eq_true (List.mem_cons_self ..)]
      rfl
    · rw [PerCause.get_put_of_ne _ _ same, h.latches]
      simp [same]
  · rw [counts]
    by_cases same : k = c
    · subst same
      rw [PerCause.get_put_self, h.counts, if_neg fun e => fresh e.1, if_pos ⟨List.mem_cons_self .., now⟩]
    · rw [PerCause.get_put_of_ne _ _ same, h.counts]
      simp [same]
  · rw [any, if_pos rfl, eq, sequencer]
  · rcases List.mem_cons.mp mem with rfl | before
    · rw [own] at raised
      rw [eq]
      exact raisedWithin_of_logged h.logged raised sequencerTrip_offPort.logged
    · exact (h.trips k before holding).mono h.logged.time offPort.logged

theorem Judged.passes (h : Judged holds done s t) (not : holds c = false) : Judged holds (c :: done) s t := by
  have any : (c :: done).any holds = done.any holds := by rw [List.any_cons, not, Bool.false_or]
  refine ⟨h.frame, h.port, h.logged, fun k => ?_, fun k => ?_, by rw [any]; exact h.sequencer, fun k mem holding => ?_,
    fun none => h.quiet (any.symm.trans none)⟩
  · rw [h.latches]
    by_cases same : k = c
    · subst same
      rw [not, Bool.and_false, Bool.and_false]
    · simp [same]
  · rw [h.counts]
    by_cases same : k = c
    · subst same
      rw [if_neg fun e => Bool.false_ne_true (not.symm.trans e.2), if_neg fun e => Bool.false_ne_true (not.symm.trans e.2)]
    · simp [same]
  · rcases List.mem_cons.mp mem with rfl | before
    · rw [not] at holding
      cases holding
    · exact h.trips k before holding

/-- One condition more, judged with its flag clear before. -/
theorem Judged.step (h : Judged holds done s t) (waits : s.waits) (fresh : c ∉ done) {q : Protection}
    (latches : q.latches = t.protection.latches) (counts : q.counts = t.protection.counts) :
    Judged holds (c :: done) s (arriveIf (holds c) false c { t with protection := q }) := by
  have set := h.protection latches counts
  unfold arriveIf
  cases now : holds c with
  | true => exact set.arrives waits fresh now
  | false => exact set.passes now

/-- The conditions that the end of a load finds (R147, R150 to R153). -/
def conditionsFound (p : Params) (s : State) (k : Cause) : Bool :=
  match k with
  | .external => s.pins.tripIn
  | .driveFault => s.driveFault
  | .highPressure => decide (p.pTrip ≤ s.chan 5)
  | .portLoss => s.port.state.isLost
  | _ => false

theorem Judged.reads (h : Judged holds done s t) :
    t.driveFault = s.driveFault ∧ t.chan 5 = s.chan 5 ∧ t.port.state = s.port.state := by
  have channels : t.port.channels = s.port.channels := by rw [h.port]
  have state : t.port.state = s.port.state := by rw [h.port]
  exact ⟨by rw [State.driveFault, State.driveFault, State.chan, State.chan, channels],
    by rw [State.chan, State.chan, channels], state⟩

section

variable {p : Params} (waits : s.waits)

include waits

theorem Judged.drive (h : Judged (conditionsFound p s) [.external] s t) (flag : t.protection.driveFlag = false) :
    Judged (conditionsFound p s) [.driveFault, .external] s (judgeDriveFault t) := by
  rw [judgeDriveFault, h.reads.1, flag]
  exact h.step waits (by decide) rfl rfl

theorem Judged.high (h : Judged (conditionsFound p s) [.driveFault, .external] s t) (params : s.loader.params = some p)
    (flag : t.protection.highFlag = false) :
    Judged (conditionsFound p s) [.highPressure, .driveFault, .external] s (judgeHighPressure t) := by
  have loader : t.loader.params = some p := by rw [h.frame .loader (by decide), params]
  have judged : judgeHighPressure t = arriveIf (decide (p.pTrip ≤ s.chan 5)) false .highPressure
      { t with protection := { t.protection with highFlag := decide (p.pTrip ≤ s.chan 5) } } := by
    simp only [judgeHighPressure, loader, flag, h.reads.2.1]
  rw [judged]
  exact h.step waits (by decide) rfl rfl

theorem Judged.lost (h : Judged (conditionsFound p s) [.highPressure, .driveFault, .external] s t)
    (flag : t.protection.portFlag = false) :
    Judged (conditionsFound p s) [.portLoss, .highPressure, .driveFault, .external] s (judgePortLoss t) := by
  rw [judgePortLoss, h.reads.2.2, flag]
  exact h.step waits (by decide) rfl rfl

end

/-- The four flags, clear before the conditions are judged afresh. -/
def flagsCleared (s : State) : State :=
  { s with protection :=
    { s.protection with extFlag := false, driveFlag := false, highFlag := false, portFlag := false } }

theorem judgeAfresh_flags :
    let d := judgeDriveFault (judgeExternal (flagsCleared s))
    (judgeExternal (flagsCleared s)).protection.driveFlag = false ∧ d.protection.highFlag = false ∧
      (judgeHighPressure d).protection.portFlag = false := by
  intro d
  obtain ⟨drive, high, port⟩ := arriveIf_flags (c := .external) (s := { flagsCleared s with
    protection := { (flagsCleared s).protection with extFlag := s.pins.tripIn } }) s.pins.tripIn false
  obtain ⟨-, high', port'⟩ := arriveIf_flags (c := .driveFault) (s := { judgeExternal (flagsCleared s) with
    protection := { (judgeExternal (flagsCleared s)).protection with driveFlag := (judgeExternal (flagsCleared s)).driveFault } })
    (judgeExternal (flagsCleared s)).driveFault (judgeExternal (flagsCleared s)).protection.driveFlag
  have lost : d.protection.portFlag = false := port'.trans port
  refine ⟨drive, high'.trans high, ?_⟩
  unfold judgeHighPressure
  split
  · exact lost
  · exact (arriveIf_flags _ _ _).2.2.trans lost

/-- The end of a load or reload judges the four conditions afresh, in the order of their codes. -/
theorem judgeAfresh_judged {p : Params} (params : s.loader.params = some p) (waits : s.waits)
    (clear : s.protection.latches.any = false) :
    Judged (conditionsFound p s) [.portLoss, .highPressure, .driveFault, .external] s (judgeAfresh s) := by
  obtain ⟨drive, high, port⟩ := judgeAfresh_flags (s := s)
  have cleared : Judged (conditionsFound p s) [] s (flagsCleared s) := (Judged.start clear).protection rfl rfl
  have first : Judged (conditionsFound p s) [.external] s (judgeExternal (flagsCleared s)) :=
    cleared.step waits List.not_mem_nil rfl rfl
  exact (((first.drive waits drive).high waits params high).lost waits port)

/-- Every condition found is among the four. -/
theorem conditionsFound_mem {p : Params} {k : Cause} (h : conditionsFound p s k = true) :
    k ∈ [Cause.portLoss, .highPressure, .driveFault, .external] := by
  cases k <;> first | decide | cases h

/-! ## The load up to its judgements -/

/-- The Sequencer with the preload handed over and the rest timer started. -/
def Sequencer.preloaded (i : Image) (now : Nat) (q : Sequencer) : Sequencer :=
  { q with
    runSeconds := i.preload.runHours * 3600, runTicks := 0, starts := i.preload.starts,
    totalizer := i.preload.totalizer, totRem := 0,
    rest := .running { since := now, span := i.params.minRestMin * 60 * 1024 } }

/-- The image installed and the blocks started, before any condition is looked at. -/
def loadStarted (i : Image) (s : State) : State := startRest (startJoinWait (loadBegun i s))

theorem loadStarted_eq (i : Image) (s : State) :
    loadStarted i s =
      { raiseOwn .configLoaded 0 (install i s) with
        sequencer := s.sequencer.preloaded i s.time
        line := { s.line with
          tally := some { since := s.time, span := s.ident.station.val * (i.params.tsCode * 256) / 16 }, tallyFirst := true }
        demand := { s.demand with
          profile := some (profileFor s.pins.tariff)
          periodTimer := some { since := s.time, span := i.params.tD * 1024 } }
        slot := { s.slot with
          joinTimer := some { since := s.time, span := 3 * (i.params.tsCode * 256) }, joinPassed := false } } := rfl

theorem loadStarted_frame (i : Image) :
    changesOnly [.demand, .capability, .slot, .sequencer, .line, .loader, .lport, .queue] s (loadStarted i s) := fun b hb => by
  rw [loadStarted_eq]
  cases b <;> first | rfl | exact absurd (by decide) hb

theorem loadStarted_records (i : Image) : Records [(.configLoaded, s.own, 0)] s (loadStarted i s) := by
  rw [loadStarted_eq]
  exact ⟨rfl, rfl⟩

theorem loadStarted_logged (i : Image) : Logged s (loadStarted i s) := by
  rw [loadStarted_eq]
  have raised : Logged s (raiseOwn .configLoaded 0 (install i s)) :=
    Logged.trans (Logged.of_eq rfl rfl rfl : Logged s (install i s)) (Logged.raise ..)
  exact raised.trans (Logged.of_eq rfl rfl rfl)

theorem loadStarted_withheld (i : Image) : (loadStarted i s).withheld = s.withheld := rfl

section

variable (i : Image) (rest : s.sequencer.train = .rest) (clear : s.sequencer.conflict = false)
  (valve : s.sequencer.valve = Valve.atRest)

include rest valve

theorem loadStarted_waits : (loadStarted i s).waits := by
  rw [loadStarted_eq]
  exact ⟨.inl rest, valve⟩

omit valve in
theorem judgeWithheld_started :
    judgeWithheld (loadStarted i s) =
      if s.withheld then moveTo .aborted .withheld (loadStarted i s) else loadStarted i s := by
  have train : (loadStarted i s).sequencer.train = .rest := rest
  have rises : withholdRises (loadStarted i s) = moveTo .aborted .withheld (loadStarted i s) := by
    simp only [withholdRises, train]
  rw [judgeWithheld, loadStarted_withheld, rises]

theorem judgeWithheld_started_frame :
    changesOnly [.sequencer, .port, .lport, .queue] (loadStarted i s) (judgeWithheld (loadStarted i s)) := by
  rw [judgeWithheld_started i rest]
  exact changesOnly_ite ((loadStarted_waits i rest valve).moveTo_frame .aborted rfl) (changesOnly_refl _ _)

theorem judgeWithheld_started_sequencer :
    (judgeWithheld (loadStarted i s)).sequencer =
      if s.withheld then (s.sequencer.preloaded i s.time).parkedIn .withheld else s.sequencer.preloaded i s.time := by
  rw [judgeWithheld_started i rest]
  split
  · exact (loadStarted_waits i rest valve).moveTo_sequencer .aborted rfl
  · rfl

theorem judgeWithheld_started_waits : (judgeWithheld (loadStarted i s)).waits := by
  rw [State.waits, judgeWithheld_started_sequencer i rest valve]
  split
  · exact ⟨.inr rfl, valve⟩
  · exact ⟨.inl rest, valve⟩

include clear in
theorem judgeWithheld_started_records :
    Records ((.configLoaded, s.own, 0) :: if s.withheld then [(.stateChange, s.own, 112)] else []) s
      (judgeWithheld (loadStarted i s)) := by
  rw [judgeWithheld_started i rest]
  split
  · have other : Train.withheld.code ≠ (loadStarted i s).sequencer.train.code := by
      show _ ≠ s.sequencer.train.code
      rw [rest]
      decide
    exact (loadStarted_records i).trans ((loadStarted_waits i rest valve).moveTo_records clear .aborted rfl other)
  · exact loadStarted_records i

end

/-! ## The ending of the load -/

theorem minorityTest_of_no_peer (minority : s.roster.minority = false)
    (none : ∀ j : Station, s.roster.entries[j].validity = .empty) : minorityTest s = s := by
  have included : s.minorityD = 0 := by
    rw [State.minorityD, List.length_eq_zero_iff, List.filter_eq_nil_iff]
    intro j _
    rw [decide_eq_true_iff, State.entry]
    split
    · show ¬(if s.loadEnded = true then Validity.live else .empty) = .excluded
      split <;> decide
    · rw [none]
      decide
  have same : setMinority false s = s := if_pos minority.symm
  rw [minorityTest, included, decide_eq_false (Nat.not_lt_zero _), same, ite_self]

theorem adoptPortSettings_frame : changesOnly [.port] s (adoptPortSettings s) := port_frame _

/-- Settles O20. -/
theorem loadInstallsImageAndStartsBlocks : Obligations.LoadInstallsImageAndStartsBlocks := by
  intro image tariff i s loading valid rest clear valve none minority empty holds trips counted
  let read : State := { s with pins := { s.pins with tariff := tariff } }
  let w := judgeWithheld (loadStarted i read)
  let a := judgeAfresh w
  let e := adoptPortSettings (recompute a)
  have started : changesOnly [.demand, .capability, .slot, .sequencer, .line, .loader, .lport, .queue] read (loadStarted i read) :=
    loadStarted_frame i
  have waiting : changesOnly [.sequencer, .port, .lport, .queue] (loadStarted i read) w :=
    judgeWithheld_started_frame i rest valve
  have waits : w.waits := judgeWithheld_started_waits i rest valve
  have params : w.loader.params = some i.params := by rw [waiting .loader (by decide)]; rfl
  have channels : w.port.channels = s.port.channels := judgeWithheld_offPort.channels
  have state : w.port.state = s.port.state := by
    rw [(judgeWithheld_offPort (s := loadStarted i read)).port]
    rfl
  have found (k : Cause) : conditionsFound i.params w k = holds k := by
    cases k <;> first | rfl | skip
    · show w.pins.tripIn = s.pins.tripIn
      rw [waiting .pins (by decide)]
      rfl
    · show w.driveFault = s.driveFault
      rw [State.driveFault, State.driveFault, State.chan, State.chan, channels]
    · show decide (i.params.pTrip ≤ w.chan 5) = decide (i.params.pTrip ≤ s.chan 5)
      rw [State.chan, State.chan, channels]
    · show w.port.state.isLost = s.port.state.isLost
      rw [state]
  have protection : w.protection = s.protection := (waiting .protection (by decide)).trans (started .protection (by decide))
  have judged : Judged (conditionsFound i.params w) [.portLoss, .highPressure, .driveFault, .external] w a :=
    judgeAfresh_judged params waits (by rw [protection]; exact none)
  have any : [Cause.portLoss, .highPressure, .driveFault, .external].any (conditionsFound i.params w) = true ↔ trips := by
    rw [List.any_eq_true]
    exact ⟨fun ⟨k, _, now⟩ => ⟨k, by rw [← found]; exact now⟩,
      fun ⟨k, now⟩ => ⟨k, conditionsFound_mem (by rw [found]; exact now), by rw [found]; exact now⟩⟩
  have still : w.sequencer = if s.withheld then counted.parkedIn .withheld else counted :=
    judgeWithheld_started_sequencer i rest valve
  have stopped : a.sequencer.train ≠ .running := by
    rw [judged.sequencer, still]
    split
    · exact fun k => nomatch k
    · split
      · exact fun k => nomatch k
      · show s.sequencer.train ≠ _
        rw [rest]
        decide
  have ended : changesOnly [.capability, .port] a e :=
    ((recompute_of_not_running stopped).mono (by decide)).trans (adoptPortSettings_frame.mono (by decide))
  have capability : e.capability = { a.capability with
      qmaxAvail := (capacityChain i.params a.capability.tcf a.capability.temp a.capability.held a.capability.cap).1
      unfit := (capacityChain i.params a.capability.tcf a.capability.temp a.capability.held a.capability.cap).2 } :=
    recompute_capability (by rw [judged.frame .loader (by decide)]; exact params)
  have chain : a.capability = { s.capability with tcf := i.tcf } :=
    (judged.frame .capability (by decide)).trans ((waiting .capability (by decide)).trans rfl)
  rw [chain] at capability
  have all : changesOnly [.demand, .capability, .slot, .sequencer, .protection, .line, .port, .loader, .lport, .queue] read e :=
    (started.mono (by decide)).trans ((waiting.mono (by decide)).trans ((judged.frame.mono (by decide)).trans
      (ended.mono (by decide))))
  have quiet : minorityTest e = e := by
    have roster : e.roster = s.roster := all .roster (by decide)
    exact minorityTest_of_no_peer (by rw [roster]; exact minority) (by rw [roster]; exact empty)
  have loaded : loadSucceeded i read = e := by
    rw [loadSucceeded_eq]
    exact quiet
  have run : exec (.configLoadEnd image tariff) s = .next (finish s e) := by
    rw [← loaded]
    simp only [exec, execConfigLoadEnd, loading, valid, read]
  have slot : e.slot =
      { s.slot with
        joinTimer := some { since := s.time, span := 3 * (i.params.tsCode * 256) }, joinPassed := false } :=
    (ended .slot (by decide)).trans ((judged.frame .slot (by decide)).trans ((waiting .slot (by decide)).trans rfl))
  have line : e.line = { s.line with
      tally := some { since := s.time, span := s.ident.station.val * (i.params.tsCode * 256) / 16 }, tallyFirst := true } :=
    (ended .line (by decide)).trans ((judged.frame .line (by decide)).trans ((waiting .line (by decide)).trans rfl))
  have loader : e.loader = { phase := .idle, params := some i.params, signature := i.signature, succeeded := true } :=
    (ended .loader (by decide)).trans ((judged.frame .loader (by decide)).trans ((waiting .loader (by decide)).trans rfl))
  have demand : e.demand =
      { s.demand with
        profile := some (profileFor tariff), periodTimer := some { since := s.time, span := i.params.tD * 1024 } } :=
    (ended .demand (by decide)).trans ((judged.frame .demand (by decide)).trans ((waiting .demand (by decide)).trans rfl))
  have sequencer : e.sequencer = a.sequencer := ended .sequencer (by decide)
  have latched : e.protection = a.protection := ended .protection (by decide)
  have line' : (finish s e).line = e.line := by
    rw [finish_of_same_holding (by rw [slot]), arbitrate_line]
  have entry : ((finish s e).entry s.ident.station).validity = .live := by
    have own : (finish s e).ident = s.ident := by rw [finish_ident]; exact all .ident (by decide)
    have live : (finish s e).loadEnded = true := by rw [State.loadEnded, finish_loader, loader]; rfl
    rw [State.entry, own, if_pos rfl, live]
    rfl
  have chained : Logged a e := recompute_offPort.logged.trans (Logged.of_eq rfl rfl rfl)
  have ending : Logged a (finish s e) := chained.trans (finish_logged s)
  have logged : Logged w (finish s e) := judged.logged.trans ending
  have taken : Records [] s read := ⟨rfl, rfl⟩
  have records : Records ((.configLoaded, s.own, 0) :: if s.withheld then [(.stateChange, s.own, 112)] else []) s w :=
    taken.trans (judgeWithheld_started_records (s := read) i rest clear valve)
  have still' (none : ¬trips) : (finish s e).sequencer = if s.withheld then counted.parkedIn .withheld else counted := by
    rw [finish_sequencer, sequencer, judged.sequencer, if_neg fun h => none (any.mp h), still]
  have permits : ¬trips → (finish s e).sequencer.train ≠ .unconfigured → (finish s e).sequencer.train ≠ .conflict →
      (finish s e).runPermit = true := fun none configured clear => by
    have off : (finish s e).protection.latches.any = false := by
      by_contra set
      obtain ⟨k, set⟩ := PerCause.any_eq_true_iff _ |>.mp (by simpa using set)
      rw [latched, judged.latches, found, Bool.and_eq_true] at set
      exact none ⟨k, set.2⟩
    rw [State.runPermit, off, decide_eq_false configured, decide_eq_false clear, finish_loader, loader]
    rfl
  have silent : ¬trips → Records [] w (finish s e) := fun none => by
    have quiet := judged.quiet (by rw [← Bool.not_eq_true, any]; exact none)
    exact (quiet.trans (Records.of_frame ended (by decide) (by decide))).finish
  refine ⟨_, run, by rw [finish_loader, loader], ?_, by rw [finish_capability, capability], by rw [finish_capability, capability],
    ?_, by rw [finish_slot, slot], by rw [line', line], by rw [line', line], entry, fun k => ⟨?_, ?_⟩, fun trip => ⟨?_, ?_, ?_, ?_⟩,
    fun none free => ⟨?_, ?_, ?_⟩, fun none withheld => ⟨?_, ?_, ?_⟩, ?_⟩
  · rw [State.mcs, finish_loader, loader]
    rfl
  · rw [finish_demand, demand]
    cases tariff <;> rfl
  · rw [finish_protection, latched, judged.latches, found]
    cases now : holds k with
    | false => rw [Bool.and_false]
    | true => rw [decide_eq_true (conditionsFound_mem ((found k).trans now))]; rfl
  · rw [finish_protection, latched, judged.counts, found, protection]
    by_cases now : holds k = true
    · rw [if_pos ⟨conditionsFound_mem ((found k).trans now), now⟩, if_pos now]
    · rw [if_neg fun h => now h.2, if_neg now]
  · rw [finish_sequencer, sequencer, judged.sequencer, if_pos (any.mpr trip), still]
    split <;> rfl
  · obtain ⟨k, now⟩ := trip
    refine runPermit_of_latched (k := k) ?_
    rw [finish_protection, latched, judged.latches, found, now, decide_eq_true (conditionsFound_mem ((found k).trans now))]
    rfl
  · have first : Records [(.configLoaded, s.own, 0)] s (loadStarted i read) := taken.trans (loadStarted_records (s := read) i)
    exact first.first (judgeWithheld_offPort.logged.trans logged)
  · intro k now
    have raised := judged.trips k (conditionsFound_mem ((found k).trans now)) ((found k).trans now)
    have own : w.own = s.own := own_congr ((waiting .ident (by decide)).trans rfl)
    rw [own] at raised
    exact (raised.mono judged.logged.time ending).after
      ((Logged.of_eq rfl rfl rfl : Logged s read).trans ((loadStarted_logged i).trans judgeWithheld_offPort.logged))
  · exact (still' none).trans (by rw [free]; rfl)
  · refine permits none ?_ ?_ <;> rw [still' none, free] <;> show s.sequencer.train ≠ _ <;> rw [rest] <;> decide
  · rw [free] at records
    exact (records.trans (silent none)).queue
  · exact (still' none).trans (by rw [withheld]; rfl)
  · refine permits none ?_ ?_ <;> rw [still' none, withheld] <;> exact fun k => nomatch k
  · rw [withheld] at records
    exact (records.trans (silent none)).queue
  · refine changesOnly.trans (t := e) (fun b hb => ?_) ((finish_frame s).mono (by decide))
    have kept := all b
    cases b <;> first | exact absurd (by decide) hb | exact kept (by decide)


end Sys2Proof.Machine
end

section
/-! What a reload does to a part whose train is at rest: the operations of a reload move a parked train between parked
states and leave its counters, its latches and its capability. -/

namespace Sys2Proof.Machine

open Sys2Proof

variable {s t u : State}

/-! ## Operations on a parked train -/

/-- Of the capability only a class fall under way. -/
def SameChain (s t : State) : Prop :=
  t.capability = { s.capability with holdTimer := t.capability.holdTimer, fallTarget := t.capability.fallTarget }

theorem SameChain.of_eq (h : t.capability = s.capability) : SameChain s t := by rw [SameChain, h]

theorem SameChain.trans (h : SameChain s t) (k : SameChain t u) : SameChain s u := by
  unfold SameChain at h k ⊢
  rw [k, h]

theorem setValve_sameChain (v : Valve) : SameChain s (setValve v s) := by
  have watched : ∀ u : State, (judgeInstrument (judgeLowSuction u)).capability = u.capability := fun u =>
    (judgeInstrument_frame .capability (by decide)).trans (judgeLowSuction_frame .capability (by decide))
  unfold setValve
  split
  · exact .of_eq rfl
  · dsimp only
    split
    · refine .of_eq ?_
      unfold afterRunOn
      rw [watched, trimStart_frame .capability (by decide)]
      rfl
    · split
      · rw [SameChain, afterRunOff, watched]
        rfl
      · exact .of_eq rfl

/-- Outside RUNNING a move leaves the chain, and touches nothing of Staging. -/
theorem moveTo_sameChain {o : YieldOutcome} {x : Train} (stopped : s.sequencer.train ≠ .running) :
    SameChain s (moveTo o x s) := by
  rw [moveTo_eq, if_neg fun k => stopped k.1]
  refine SameChain.trans ?_ (.of_eq (noteChange_frame s .capability (by decide)))
  unfold entering
  refine SameChain.trans ?_ (.of_eq (trimFor_frame x .capability (by decide)))
  refine SameChain.trans (t := { leaving o x s with sequencer :=
    { (leaving o x s).sequencer with train := x, phase := phaseTimerOf x s, quality := none, staged := false } })
    (.of_eq (leaving_frame o x .capability (by decide))) (setValve_sameChain _)

/-- A parked train stays parked, with its counters, latches and chain, and with its slot unless a claim is pending. -/
structure Idle (s t : State) : Prop where
  moves : OnlyMoves s t
  parked : t.sequencer.train.isParked = true
  chain : SameChain s t
  slot : (∀ q, s.slot.view ≠ .ownPending q) → t.slot = s.slot

/-- An operation that leaves a parked train idle. -/
def Idles (s t : State) : Prop := s.sequencer.train.isParked = true → Idle s t

theorem Idles.refl (s : State) : Idles s s := fun parked => ⟨.refl s, parked, .of_eq rfl, fun _ => rfl⟩

theorem Idles.trans (h : Idles s t) (k : Idles t u) : Idles s u := fun parked => by
  obtain ⟨moves, here, chain, slot⟩ := h parked
  obtain ⟨moves', there, chain', slot'⟩ := k here
  refine ⟨moves.trans moves', there, chain.trans chain', fun none => ?_⟩
  have same := slot none
  exact (slot' (by rw [same]; exact none)).trans same

theorem Idles.after (k : Idles t u) (h : Idles s t) : Idles s u := h.trans k

theorem Idles.ite {c : Prop} [Decidable c] (h : Idles s t) (k : Idles s u) : Idles s (if c then t else u) := by
  split
  · exact h
  · exact k

theorem Idles.of_parked (h : s.sequencer.train.isParked = true → Idles s t) : Idles s t := fun parked => h parked parked

theorem Idles.of_frame {bs : List Block} (h : changesOnly bs s t)
    (sub : bs ⊆ [.demand, .roster, .trim, .line, .port, .lport, .queue]) : Idles s t := fun parked => by
  have same : ∀ b : Block, b ∉ [Block.demand, .roster, .trim, .line, .port, .lport, .queue] → b.same s t :=
    fun b hb => h b fun k => hb (sub k)
  have sequencer : t.sequencer = s.sequencer := same .sequencer (by decide)
  exact ⟨.of_frame h (List.Subset.trans sub (by decide)), by rw [sequencer]; exact parked, .of_eq (same .capability (by decide)),
    fun _ => same .slot (by decide)⟩

theorem moveTo_idles (o : YieldOutcome) {x : Train} (there : x.isParked = true) : Idles s (moveTo o x s) := fun parked => by
  refine ⟨moveTo_onlyMoves o x, by rw [moveTo_train]; exact there, moveTo_sameChain (parked_ne parked rfl), fun none => ?_⟩
  rw [moveTo_slot, leaving_of_not_pending none]

/-- Of the Sequencer only the rest timer. -/
theorem Idles.of_rest (r : RestTimer) : Idles s { s with sequencer := { s.sequencer with rest := r } } := fun parked =>
  ⟨⟨rfl, rfl, rfl⟩, parked, .of_eq rfl, fun _ => rfl⟩

theorem enterRest_idles : Idles s (enterRest s) := by
  have rest : Idles s (moveTo .aborted .rest s) := moveTo_idles .aborted rfl
  unfold enterRest
  dsimp only
  split
  · exact (moveTo_idles .aborted rfl).after rest
  · exact rest

theorem withholdRises_idles : Idles s (withholdRises s) := Idles.of_parked fun parked => by
  unfold withholdRises
  split
  · exact moveTo_idles .aborted rfl
  · exact moveTo_idles .aborted rfl
  iterate 3 next train => exact absurd train (parked_ne parked rfl)
  · exact Idles.refl s

theorem withholdFalls_idles : Idles s (withholdFalls s) := by
  unfold withholdFalls
  split
  · exact enterRest_idles
  · exact Idles.refl s

theorem withheldStopRequest_idles : Idles s (withheldStopRequest s) := Idles.of_parked fun parked => by
  rw [withheldStopRequest, if_neg fun e => parked_ne parked rfl e.1]
  exact Idles.refl s

theorem withholdChanged_idles (was arose : Bool) : Idles s (withholdChanged was arose s) := by
  have acted : Idles s (if !was && s.withheld then withholdRises s else if was && !s.withheld then withholdFalls s
      else s) := Idles.ite withholdRises_idles (Idles.ite withholdFalls_idles (Idles.refl s))
  exact Idles.ite (Idles.ite (withheldStopRequest_idles.after acted) acted) (Idles.refl s)

theorem setMinority_idles (v : Bool) : Idles s (setMinority v s) := by
  have noted : changesOnly [.roster, .lport, .queue] s
      (raiseOwn .minority (flagNat v) { s with roster := { s.roster with minority := v } }) :=
    ((roster_frame _).mono (by decide)).trans ((raiseOwn_frame _ _).mono (by decide))
  exact Idles.ite (Idles.refl s) ((withholdChanged_idles _ _).after (.of_frame noted (by decide)))

theorem minorityTest_idles : Idles s (minorityTest s) := Idles.ite (setMinority_idles _) (Idles.refl s)

theorem judgeLevel_idles : Idles s (judgeLevel s) := .of_frame judgeLevel_frame (by decide)

theorem rosterChanged_idles (changed : Bool) : Idles s (rosterChanged changed s) :=
  Idles.ite (minorityTest_idles.after judgeLevel_idles) judgeLevel_idles

/-! ## The silences compared (R48) -/

theorem compareSilence_frame (i : Station) : changesOnly [.roster, .lport, .queue] s (compareSilence s i) := by
  have stale : ∀ s : State, changesOnly [.roster, .lport, .queue] s (goStale i s) := fun s =>
    changesOnly.trans (t := setEntry i { s.roster.entries[i] with validity := .stale } s)
      ((roster_frame _).mono (by decide)) ((raise_frame _ _ _).mono (by decide))
  have dropped : ∀ s : State, changesOnly [.roster, .lport, .queue] s (dropPeer i s) := fun s =>
    changesOnly.trans (t := setEntry i Entry.none s) ((roster_frame _).mono (by decide)) ((raise_frame _ _ _).mono (by decide))
  unfold compareSilence
  dsimp only
  have first := changesOnly_ite (c := (s.canGoStale i && silentFor 4 s.roster.entries[i] s) = true) (stale s)
    (changesOnly_refl [.roster, .lport, .queue] s)
  exact changesOnly_ite (first.trans (dropped _)) first

/-- The silences of all entries compared, before the change is handed on. -/
def silencesCompared (s : State) : State := stations.foldl compareSilence s

theorem silencesCompared_frame : changesOnly [.roster, .lport, .queue] s (silencesCompared s) := by
  have fold : ∀ (l : List Station) (s : State), changesOnly [.roster, .lport, .queue] s (l.foldl compareSilence s) := by
    intro l
    induction l with
    | nil => exact fun s => changesOnly_refl _ s
    | cons i l ih => exact fun s => (compareSilence_frame i).trans (ih _)
  exact fold stations s

theorem compareSilences_cases :
    compareSilences s = silencesCompared s ∨ compareSilences s = rosterChanged true (silencesCompared s) := by
  unfold compareSilences silencesCompared
  dsimp only
  split
  · exact .inl rfl
  · exact .inr rfl

theorem compareSilences_idles : Idles s (compareSilences s) := by
  have compared : Idles s (silencesCompared s) := .of_frame silencesCompared_frame (by decide)
  rcases compareSilences_cases (s := s) with h | h <;> rw [h]
  · exact compared
  · exact (rosterChanged_idles true).after compared

/-! ## The level in a reload -/

/-- Of the demand only the source, the level, its timer and L_prev, which an absent one stays. -/
structure LevelOnly (s t : State) : Prop where
  demand : t.demand = { s.demand with
    source := t.demand.source, level := t.demand.level, lostTimer := t.demand.lostTimer, lPrev := t.demand.lPrev }
  lPrev : s.demand.lPrev = none → t.demand.lPrev = none

theorem LevelOnly.refl (s : State) : LevelOnly s s := ⟨rfl, id⟩

theorem LevelOnly.trans (h : LevelOnly s t) (k : LevelOnly t u) : LevelOnly s u :=
  ⟨by rw [k.demand, h.demand], fun none => k.lPrev (h.lPrev none)⟩

theorem LevelOnly.of_eq (demand : t.demand = s.demand) : LevelOnly s t := ⟨by rw [demand], fun none => by rw [demand, none]⟩

theorem judgeLevel_levelOnly : LevelOnly s (judgeLevel s) := by
  unfold judgeLevel
  split
  · exact .refl s
  · split
    · split <;> exact ⟨rfl, fun none => by first | rfl | exact none⟩
    · split <;> exact ⟨rfl, id⟩

theorem compareSilences_levelOnly : LevelOnly s (compareSilences s) := by
  have compared : LevelOnly s (silencesCompared s) := .of_eq (silencesCompared_frame .demand (by decide))
  rcases compareSilences_cases (s := s) with h | h <;> rw [h]
  · exact compared
  · exact (compared.trans judgeLevel_levelOnly).trans (.of_eq (rosterChanged_kept true).1)

theorem retimeLevelLost_levelOnly (p : Params) : LevelOnly s (retimeLevelLost p s) := by
  unfold retimeLevelLost
  split
  · dsimp only
    split <;> exact ⟨rfl, id⟩
  · exact .refl s

theorem limitQreq_demand : (limitQreq s).demand = { s.demand with qReq := (limitQreq s).demand.qReq } := by
  unfold limitQreq
  split <;> rfl

/-- The estimator in a reload of a configured part: unprimed, without L_prev, its period begun again (R19). -/
theorem reloadEstimator_demand (p : Params) :
    (reloadEstimator p s).demand =
      { s.demand with
        primed := false, lPrev := none, periodTimer := some { since := s.time, span := p.tD * 1024 }
        qReq := (reloadEstimator p s).demand.qReq, source := (reloadEstimator p s).demand.source
        level := (reloadEstimator p s).demand.level, lostTimer := (reloadEstimator p s).demand.lostTimer } := by
  let begun : State := { s with demand :=
    { s.demand with primed := false, lPrev := none, periodTimer := startTimer s.time (seconds p.tD) } }
  have limited := limitQreq_demand (s := begun)
  obtain ⟨timed, lPrev⟩ := retimeLevelLost_levelOnly (s := limitQreq begun) p
  have none : (retimeLevelLost p (limitQreq begun)).demand.lPrev = none := lPrev (by rw [limited])
  rw [none, limited] at timed
  rw [show (reloadEstimator p s).demand = _ from timed]
  rfl

/-! ## The end of a reload -/

/-- The stage counters reset, a request dropped, and the gap compared, before the rest timer is looked at. -/
def claimsDropped (s : State) : State := compareGap (cancelRequest (some .aborted) (resetCounters s))

theorem compareGap_frame : changesOnly [.slot] s (compareGap s) := by
  unfold compareGap
  split
  · exact slot_frame _
  · exact changesOnly_refl _ _

theorem compareGap_view : (compareGap s).slot.view = s.slot.view := by
  unfold compareGap
  split <;> rfl

theorem claimsDropped_frame : changesOnly [.staging, .slot, .line] s (claimsDropped s) :=
  changesOnly.trans (t := resetCounters s) ((staging_frame _).mono (by decide))
    (((cancelRequest_frame _).mono (by decide)).trans (compareGap_frame.mono (by decide)))

theorem claimsDropped_not_pending (q : PendingView) : (claimsDropped s).slot.view ≠ .ownPending q := by
  rw [claimsDropped, compareGap_view, cancelRequest_view]
  cases view : (resetCounters s).slot.view <;> exact fun k => nomatch k

theorem claimsDropped_counters : (claimsDropped s).staging.up = 0 ∧ (claimsDropped s).staging.down = 0 := by
  rw [claimsDropped, compareGap_frame .staging (by decide), cancelRequest_frame _ .staging (by decide)]
  exact ⟨rfl, rfl⟩

theorem compareRest_idles (p : Params) : Idles s (compareRest p s) := by
  unfold compareRest
  split
  · dsimp only
    exact Idles.ite (Idles.ite ((moveTo_idles .aborted rfl).after (.of_rest .expired)) (.of_rest .expired)) (.of_rest _)
  · exact Idles.refl s

theorem compareRest_demand (p : Params) : (compareRest p s).demand = s.demand := by
  unfold compareRest
  split
  · dsimp only
    split
    · split
      · exact moveTo_frame _ _ .demand (by decide)
      · rfl
    · rfl
  · rfl

theorem compareTally_frame : changesOnly [.line] s (compareTally s) := by
  unfold compareTally
  split
  · refine changesOnly_ite (changesOnly_refl _ _) (changesOnly_ite ?_ (line_frame _))
    exact (queueFrame_frame _).trans (line_frame _)
  · exact changesOnly_refl _ _

/-- What the last part of a reload leaves of a parked train, whatever is done about its rest timer. -/
theorem reloadClosed_idles {before : State} : Idles s (finish before (compareTally (adoptPortSettings s))) :=
  Idles.of_frame (bs := [.line, .port])
    ((adoptPortSettings_frame.mono (by decide)).trans ((compareTally_frame.mono (by decide)).trans (finish_frame before)))
    (by decide)

theorem reloadClosed_levelOnly {before : State} : LevelOnly s (finish before (compareTally (adoptPortSettings s))) := by
  have frame : changesOnly [.line, .port] s (finish before (compareTally (adoptPortSettings s))) :=
    (adoptPortSettings_frame.mono (by decide)).trans ((compareTally_frame.mono (by decide)).trans (finish_frame before))
  exact .of_eq (frame .demand (by decide))

/-- What a reload of a configured part does once the claims are dropped. -/
def configuredClosed (p : Params) (before s : State) : State :=
  finish before (compareTally (adoptPortSettings (compareSilences (compareRest p s))))

theorem configuredClosed_idles {p : Params} {before : State} : Idles s (configuredClosed p before s) :=
  reloadClosed_idles.after (compareSilences_idles.after (compareRest_idles p))

theorem configuredClosed_levelOnly {p : Params} {before : State} : LevelOnly s (configuredClosed p before s) :=
  ((LevelOnly.of_eq (compareRest_demand p)).trans compareSilences_levelOnly).trans reloadClosed_levelOnly

/-- The image of a reload installed, with its record. -/
def imageInstalled (i : Image) (s : State) : State := raiseOwn .configLoaded 1 (install i s)

theorem reloadBegun_idles (i : Image) : Idles (imageInstalled i s) (reloadBegun i s) :=
  minorityTest_idles.after (.of_frame (rejudge_frame _) (by decide))

theorem reloadEnding_eq (i : Image) (configured : Bool) :
    reloadEnding i configured s =
      compareTally (adoptPortSettings (compareSilences
        (if configured then compareRest i.params (claimsDropped s) else leaveUnconfigured (claimsDropped s)))) := rfl

theorem reloadSucceeded_configured {i : Image} {before : State} (configured : s.configured = true) :
    finish before (reloadSucceeded i s) =
      configuredClosed i.params before (claimsDropped (recompute (reloadEstimator i.params (reloadBegun i s)))) := by
  rw [reloadSucceeded_eq, configured, reloadEnding_eq, if_pos rfl, reloadEstimated, if_pos rfl, configuredClosed]

/-- What the end of a reload raises first, and keeps of the local port. -/
theorem reloadSucceeded_records (i : Image) (before : State) :
    firstRaised (.configLoaded, s.own, 1) s (finish before (reloadSucceeded i s)) ∧
      (finish before (reloadSucceeded i s)).lport.withholdCmd = s.lport.withholdCmd := by
  have installed : Records [(.configLoaded, s.own, 1)] s (imageInstalled i s) := ⟨rfl, rfl⟩
  have logged : Logged (imageInstalled i s) (finish before (reloadSucceeded i s)) :=
    (reloadSucceeded_inTaking i).logged.trans (finish_logged before)
  refine ⟨installed.first logged, ?_⟩
  rw [logged.lport_eq]
  rfl

/-- What a successful reload of a configured part leaves, its train parked. -/
structure ReloadedInPlace (i : Image) (s t : State) : Prop where
  loader : t.loader = { phase := .idle, params := some i.params, signature := i.signature, succeeded := true }
  capability : t.capability =
    { s.capability with
      tcf := i.tcf, holdTimer := t.capability.holdTimer, fallTarget := t.capability.fallTarget
      qmaxAvail := (capacityChain i.params i.tcf s.capability.temp s.capability.held s.capability.cap).1
      unfit := (capacityChain i.params i.tcf s.capability.temp s.capability.held s.capability.cap).2 }
  demand : t.demand =
    { s.demand with
      primed := false, lPrev := none, periodTimer := some { since := s.time, span := i.params.tD * 1024 }
      qReq := t.demand.qReq, source := t.demand.source, level := t.demand.level, lostTimer := t.demand.lostTimer }
  counters : t.staging.up = 0 ∧ t.staging.down = 0
  request : ∀ q, t.slot.view ≠ .ownPending q
  moves : t.sequencer =
    { s.sequencer with
      train := t.sequencer.train, phase := t.sequencer.phase, quality := t.sequencer.quality, staged := t.sequencer.staged,
      valve := t.sequencer.valve, minRun := t.sequencer.minRun, minRunMet := t.sequencer.minRunMet,
      intPoint := t.sequencer.intPoint, rest := t.sequencer.rest }
  latches : t.protection.latches = s.protection.latches
  counts : t.protection.counts = s.protection.counts

/-- The estimator and the chain in a reload of a configured part, up to the dropped claims. -/
theorem reloadRested_frame {p : Params} (stopped : s.sequencer.train ≠ .running) :
    changesOnly [.demand, .lport, .queue, .capability, .staging, .slot, .line] s
      (claimsDropped (recompute (reloadEstimator p s))) := by
  have estimated : changesOnly [.demand, .lport, .queue] s (reloadEstimator p s) := reloadEstimator_frame p
  have chained : changesOnly [.capability] (reloadEstimator p s) (recompute (reloadEstimator p s)) :=
    recompute_of_not_running (by rw [estimated .sequencer (by decide)]; exact stopped)
  exact (estimated.mono (by decide)).trans ((chained.mono (by decide)).trans (claimsDropped_frame.mono (by decide)))

theorem reloadRested_capability {p : Params} (params : s.loader.params = some p) :
    (claimsDropped (recompute (reloadEstimator p s))).capability =
      { s.capability with
        qmaxAvail := (capacityChain p s.capability.tcf s.capability.temp s.capability.held s.capability.cap).1
        unfit := (capacityChain p s.capability.tcf s.capability.temp s.capability.held s.capability.cap).2 } := by
  have estimated : changesOnly [.demand, .lport, .queue] s (reloadEstimator p s) := reloadEstimator_frame p
  rw [claimsDropped_frame .capability (by decide),
    recompute_capability (p := p) (by rw [estimated .loader (by decide)]; exact params), estimated .capability (by decide)]

theorem reloadRested_demand {p : Params} (stopped : s.sequencer.train ≠ .running) :
    (claimsDropped (recompute (reloadEstimator p s))).demand = (reloadEstimator p s).demand := by
  have estimated : changesOnly [.demand, .lport, .queue] s (reloadEstimator p s) := reloadEstimator_frame p
  rw [claimsDropped_frame .demand (by decide),
    recompute_of_not_running (by rw [estimated .sequencer (by decide)]; exact stopped) .demand (by decide)]

theorem reloaded_in_place {i : Image} {before : State} (parked : s.sequencer.train.isParked = true)
    (configured : s.configured = true) : ReloadedInPlace i s (finish before (reloadSucceeded i s)) := by
  have begun := reloadBegun_idles (s := s) i parked
  have loader := reloadBegun_loader (s := s) i
  have demand := reloadBegun_demand (s := s) i
  have time : (reloadBegun i s).time = s.time := by
    rw [reloadBegun, minorityTest_frame .time (by decide), rejudge_frame _ .time (by decide)]
    rfl
  have loader' : (finish before (reloadSucceeded i s)).loader = (reloadBegun i s).loader := by
    rw [finish_loader, (reloadSucceeded_inTaking i).loader, loader]
    rfl
  rw [loader] at loader'
  rw [reloadSucceeded_configured configured] at loader' ⊢
  generalize reloadBegun i s = b at *
  have stopped : b.sequencer.train ≠ .running := parked_ne begun.parked rfl
  have rested := reloadRested_frame (p := i.params) stopped
  have capability := reloadRested_capability (p := i.params) (s := b) (by rw [loader])
  have demanded := reloadRested_demand (p := i.params) stopped
  have dropped := claimsDropped_counters (s := recompute (reloadEstimator i.params b))
  have request := claimsDropped_not_pending (s := recompute (reloadEstimator i.params b))
  rw [reloadEstimator_demand, demand, time] at demanded
  generalize claimsDropped (recompute (reloadEstimator i.params b)) = g at *
  have closing : Idle g (configuredClosed i.params before g) :=
    configuredClosed_idles (by rw [rested .sequencer (by decide)]; exact begun.parked)
  have levelled : LevelOnly g (configuredClosed i.params before g) := configuredClosed_levelOnly
  generalize configuredClosed i.params before g = t at *
  have chain := closing.chain
  have first := begun.chain
  unfold SameChain at chain first
  refine ⟨loader', ?_, ?_, ?_, fun q => ?_, ?_, ?_, ?_⟩
  · rw [chain, capability, first]
    rfl
  · obtain ⟨only, lPrev⟩ := levelled
    rw [lPrev (by rw [demanded]), demanded] at only
    rw [only]
  · rw [closing.moves.staging]
    exact dropped
  · rw [closing.slot request]
    exact request q
  · rw [closing.moves.sequencer, rested .sequencer (by decide), begun.moves.sequencer]
    rfl
  · rw [closing.moves.latches, rested .protection (by decide), begun.moves.latches]
    rfl
  · rw [closing.moves.counts, rested .protection (by decide), begun.moves.counts]
    rfl

section

variable {image : List Byte} {tariff : Bool} (reloading : s.loader.phase = .reloading)
  (may : s.sequencer.train.mayReload = true) (clear : s.sequencer.conflict = false)

include reloading may clear

theorem exec_reloadEnd_of_valid {i : Image} (valid : checkImage image = .valid i) :
    exec (.reloadEnd image tariff) s =
      .next (finish s (reloadSucceeded i { s with pins := { s.pins with tariff := tariff } })) := by
  have allowed : ¬(s.sequencer.train.mayReload = false ∨ s.sequencer.conflict = true) := by simp [may, clear]
  simp only [exec, execReloadEnd, reloading, endReload, if_neg allowed, valid]

theorem exec_reloadEnd_of_failed {r : Nat} (failed : checkImage image = .failed r) (configured : s.configured = true) :
    exec (.reloadEnd image tariff) s =
      .next (finish s (enterUnconfigured r { s with pins := { s.pins with tariff := tariff } })) := by
  have allowed : ¬(s.sequencer.train.mayReload = false ∨ s.sequencer.conflict = true) := by simp [may, clear]
  have set : ({ s with pins := { s.pins with tariff := tariff } } : State).configured = true := configured
  simp only [exec, execReloadEnd, reloading, endReload, if_neg allowed, failed, if_pos set]

end

/-- Settles O24. -/
theorem reloadReplacesParametersInPlace : Obligations.ReloadReplacesParametersInPlace := by
  intro image tariff i s reloading may clear configured valid
  have run := exec_reloadEnd_of_valid (tariff := tariff) reloading may clear valid
  obtain ⟨first, command⟩ := reloadSucceeded_records (s := { s with pins := { s.pins with tariff := tariff } }) i s
  have placed : ReloadedInPlace i { s with pins := { s.pins with tariff := tariff } } _ :=
    reloaded_in_place (before := s) (isParked_of_mayReload may) configured
  obtain ⟨loader, capability, demand, counters, request, moves, latches, counts⟩ := placed
  refine ⟨_, run, loader, ?_, ?_, ?_, ?_, ?_, ?_, ?_, ?_, ?_, ⟨?_, ?_⟩, counters, request, ?_, latches, counts, command,
    first.rebase (u := s) rfl rfl⟩
  iterate 4 rw [capability]
  iterate 7 rw [demand]
  rw [moves]
  exact ⟨rfl, rfl, rfl, rfl, rfl, rfl⟩

end Sys2Proof.Machine
end

section
/-! A failed reload of a configured part (R194): every block's entry into UNCONFIGURED. -/

namespace Sys2Proof.Machine

open Sys2Proof

variable {s t u : State}

/-! ## The roster without snapshots -/

/-- No entry holds a snapshot, and the minority cause is clear. -/
structure RosterStopped (s : State) : Prop where
  minority : s.roster.minority = false
  snapshots : ∀ j : Station, s.roster.entries[j].snapshot = none

theorem RosterStopped.setEntry (h : RosterStopped s) {i : Station} {e : Entry} (none : e.snapshot = none) :
    RosterStopped (setEntry i e s) := by
  refine ⟨h.minority, fun j => ?_⟩
  rw [setEntry_entries]
  split
  · exact none
  · exact h.snapshots j

theorem RosterStopped.raisePeer (h : RosterStopped s) (k : EventKind) (i : Station) (detail : Nat) :
    RosterStopped (raisePeer k i detail s) := ⟨h.minority, h.snapshots⟩

theorem RosterStopped.goStale (h : RosterStopped s) (i : Station) : RosterStopped (goStale i s) :=
  have set : RosterStopped (Machine.setEntry i { s.roster.entries[i] with validity := .stale } s) := h.setEntry (h.snapshots i)
  set.raisePeer _ _ _

theorem RosterStopped.dropPeer (h : RosterStopped s) (i : Station) : RosterStopped (dropPeer i s) :=
  have set : RosterStopped (Machine.setEntry i Entry.none s) := h.setEntry rfl
  set.raisePeer _ _ _

theorem RosterStopped.ite {c : Prop} [Decidable c] (h : RosterStopped s) (k : RosterStopped t) :
    RosterStopped (if c then s else t) := by
  split
  · exact h
  · exact k

theorem RosterStopped.compareSilence (h : RosterStopped s) (i : Station) : RosterStopped (compareSilence s i) :=
  have first := RosterStopped.ite (c := (s.canGoStale i && silentFor 4 s.roster.entries[i] s) = true) (h.goStale i) h
  RosterStopped.ite (first.dropPeer i) first

theorem RosterStopped.silencesCompared (h : RosterStopped s) : RosterStopped (silencesCompared s) := by
  have fold : ∀ (l : List Station) (s : State), RosterStopped s → RosterStopped (l.foldl Machine.compareSilence s) := by
    intro l
    induction l with
    | nil => exact fun s h => h
    | cons i l ih => exact fun s h => ih _ (h.compareSilence i)
  exact fold stations s h

theorem rejudgeEntry_minority (old : Word16) (i : Station) : (rejudgeEntry old s i).roster.minority = s.roster.minority := by
  unfold rejudgeEntry
  dsimp only
  split
  · rfl
  · split
    · split <;> rfl
    · split <;> rfl
    · split <;> rfl
    · rfl

theorem rejudge_minority (old : Word16) : (rejudge old s).roster.minority = s.roster.minority := by
  have fold : ∀ (l : List Station) (s : State), (l.foldl (rejudgeEntry old) s).roster.minority = s.roster.minority := by
    intro l
    induction l with
    | nil => exact fun s => rfl
    | cons i l ih => exact fun s => (ih _).trans (rejudgeEntry_minority old i)
  unfold rejudge
  exact fold stations s

/-- Without a parameter set the change of an entry reaches nothing. -/
theorem rosterChanged_of_unset (unset : s.loader.params = none) : rosterChanged true s = s := by
  have level : judgeLevel s = s := by simp only [judgeLevel, unset]
  have quiet : ¬s.configured = true := by rw [State.configured, unset]; exact Bool.false_ne_true
  show minorityTest (judgeLevel s) = s
  rw [level, minorityTest, if_neg quiet]

theorem compareSilences_of_unset (unset : s.loader.params = none) : compareSilences s = silencesCompared s := by
  rcases compareSilences_cases (s := s) with h | h
  · exact h
  · rw [h, rosterChanged_of_unset (by rw [silencesCompared_frame .loader (by decide)]; exact unset)]

/-! ## The train UNCONFIGURED -/

theorem withholdChanged_of_unconfigured {was arose : Bool} (train : s.sequencer.train = .unconfigured) :
    withholdChanged was arose s = s := by
  have rises : withholdRises s = s := by simp only [withholdRises, train]
  have falls : withholdFalls s = s := by simp only [withholdFalls, train]
  have asks : withheldStopRequest s = s := withheldStopRequest_of_other (by rw [train]; decide)
  unfold withholdChanged
  rw [rises, falls]
  simp only [ite_self, asks]

theorem cancelRequest_idles (o : Option YieldOutcome) : Idles s (cancelRequest o s) := fun parked => by
  have frame := cancelRequest_frame (s := s) o
  have sequencer : (cancelRequest o s).sequencer = s.sequencer := frame .sequencer (by decide)
  refine ⟨.of_frame frame (by decide), by rw [sequencer]; exact parked, .of_eq (frame .capability (by decide)), fun none => ?_⟩
  cases view : s.slot.view with
  | ownPending q => exact absurd view (none q)
  | _ => simp only [cancelRequest, view]

theorem trainUnconfigured_idles : Idles s (trainUnconfigured s) :=
  (moveTo_idles .aborted rfl).trans (Idles.of_rest (s := moveTo .aborted .unconfigured s) .stopped)

theorem trainStopped_idles : Idles s (trainStopped s) :=
  trainUnconfigured_idles.trans ((cancelRequest_idles _).trans (setMinority_idles _))

/-- The train UNCONFIGURED with its rest timer stopped, no request and no minority cause. -/
theorem trainStopped_spec :
    (trainStopped s).sequencer.train = .unconfigured ∧ (trainStopped s).sequencer.rest = .stopped ∧
      (∀ q, (trainStopped s).slot.view ≠ .ownPending q) ∧ (trainStopped s).roster.minority = false ∧
      (trainStopped s).demand = s.demand := by
  let c := cancelRequest (some .aborted) (trainUnconfigured s)
  have kept : c.sequencer = (trainUnconfigured s).sequencer := cancelRequest_frame _ .sequencer (by decide)
  have train : c.sequencer.train = .unconfigured := by rw [kept]; exact trainUnconfigured_train
  have noted : (setMinority false c).sequencer = c.sequencer ∧ (setMinority false c).slot = c.slot := by
    unfold setMinority
    split
    · exact ⟨rfl, rfl⟩
    · rw [withholdChanged_of_unconfigured (by exact train)]
      exact ⟨rfl, rfl⟩
  have stopped : trainStopped s = setMinority false c := rfl
  rw [stopped, noted.1, noted.2, setMinority_roster, (setMinority_kept false).1]
  refine ⟨train, by rw [kept]; rfl, fun q => ?_, rfl, ?_⟩
  · rw [cancelRequest_view]
    cases (trainUnconfigured s).slot.view <;> exact fun k => nomatch k
  · rw [cancelRequest_frame _ .demand (by decide)]
    exact moveTo_frame _ _ .demand (by decide)

/-! ## The blocks stopped -/

theorem stopEstimator_frame : changesOnly [.demand, .roster] s (stopEstimator s) := fun b hb => by
  cases b <;> first | rfl | exact absurd (by decide) hb

theorem stopEstimator_demand :
    (stopEstimator s).demand =
      { source := .lost, level := s.demand.level, lostTimer := none, lPrev := none, d := 0, primed := false,
        qReq := 0, profile := none, periodTimer := none, overflow := false, lowLow := false } := rfl

theorem stopEstimator_roster (minority : s.roster.minority = false) : RosterStopped (stopEstimator s) := by
  refine ⟨minority, fun j => ?_⟩
  have entry : (stopEstimator s).roster.entries[j] = { s.roster.entries[j] with snapshot := none } :=
    Vector.getElem_ofFn j.isLt
  rw [entry]

theorem estimatorStopped_frame (old : Word16) :
    changesOnly [.demand, .roster, .lport, .queue] s (estimatorStopped old s) := by
  unfold estimatorStopped
  exact ((rejudge_frame old).mono (by decide)).trans (stopEstimator_frame.mono (by decide))

theorem estimatorStopped_demand (old : Word16) :
    (estimatorStopped old s).demand =
      { source := .lost, level := s.demand.level, lostTimer := none, lPrev := none, d := 0, primed := false,
        qReq := 0, profile := none, periodTimer := none, overflow := false, lowLow := false } := by
  rw [estimatorStopped, stopEstimator_demand, rejudge_frame old .demand (by decide)]

theorem estimatorStopped_roster (old : Word16) (minority : s.roster.minority = false) :
    RosterStopped (estimatorStopped old s) := by
  unfold estimatorStopped
  exact stopEstimator_roster ((rejudge_minority old).trans minority)

/-- What follows the entry into UNCONFIGURED: the silences are compared, then the tally timer. -/
theorem unconfiguredClosed_frame {before : State} (unset : s.loader.params = none) :
    changesOnly [.roster, .line, .port, .lport, .queue] s (finish before (compareTally (compareSilences s))) := by
  rw [compareSilences_of_unset unset]
  exact (silencesCompared_frame.mono (by decide)).trans ((compareTally_frame.mono (by decide)).trans
    ((finish_frame before).mono (by decide)))

theorem unconfiguredClosed_roster {before : State} (unset : s.loader.params = none) (stopped : RosterStopped s) :
    RosterStopped (finish before (compareTally (compareSilences s))) := by
  have kept : (finish before (compareTally (compareSilences s))).roster = (silencesCompared s).roster := by
    rw [compareSilences_of_unset unset, finish_roster, compareTally_frame .roster (by decide)]
  obtain ⟨minority, snapshots⟩ := stopped.silencesCompared
  exact ⟨by rw [kept]; exact minority, fun j => by rw [kept]; exact snapshots j⟩

theorem enterUnconfigured_logged (r : Nat) (before : State) : Logged (unloaded r s) (finish before (enterUnconfigured r s)) := by
  rw [enterUnconfigured_eq]
  have stopped : Logged (unloaded r s) (trainStopped (unloaded r s)) :=
    ((setMinority_offPort _).after ((cancelRequest_offPort _).after trainUnconfigured_offPort)).logged
  have estimated : ∀ v : State, Logged v (estimatorStopped s.loader.signature v) := fun v =>
    (stopEstimator_offPort.after (rejudge_offPort _)).logged
  have blocks : ∀ v : State, Logged v (blocksStopped v) := fun v =>
    (dropJoinWait_offPort.after (stopProtection_offPort.after (resetCounters_offPort.after stopCapability_offPort))).logged
  exact (finish_logged before).after (compareTally_offPort.logged.after (compareSilences_offPort.logged.after
    ((blocks _).after ((estimated _).after stopped))))

/-- Settles O23. -/
theorem failedReloadEntersUnconfigured : Obligations.FailedReloadEntersUnconfigured := by
  intro image tariff r s reloading may clear configured failed
  have run := exec_reloadEnd_of_failed (tariff := tariff) reloading may clear failed configured
  have logged := enterUnconfigured_logged (s := { s with pins := { s.pins with tariff := tariff } }) r s
  refine ⟨_, run, ?_⟩
  have dropped : Records [(.configFailed, s.own, r)] s (unloaded r { s with pins := { s.pins with tariff := tariff } }) :=
    ⟨rfl, rfl⟩
  have first := dropped.first logged
  have command := congrArg LocalPort.withholdCmd logged.lport_eq
  rw [enterUnconfigured_eq] at first command ⊢
  have idle := trainStopped_idles (s := unloaded r { s with pins := { s.pins with tariff := tariff } })
    (isParked_of_mayReload may)
  obtain ⟨train, rest, pending, minority, demand⟩ :=
    trainStopped_spec (s := unloaded r { s with pins := { s.pins with tariff := tariff } })
  have loader := trainStopped_loader (s := unloaded r { s with pins := { s.pins with tariff := tariff } })
  generalize trainStopped (unloaded r { s with pins := { s.pins with tariff := tariff } }) = v at *
  have frame := estimatorStopped_frame (s := v) s.loader.signature
  have estimated := estimatorStopped_demand (s := v) s.loader.signature
  have roster := estimatorStopped_roster s.loader.signature minority
  generalize estimatorStopped s.loader.signature v = w at *
  have unset : (blocksStopped w).loader.params = none := by
    show w.loader.params = none
    rw [frame .loader (by decide), loader]
    rfl
  have closing := unconfiguredClosed_frame (before := s) unset
  obtain ⟨cause, snapshots⟩ := unconfiguredClosed_roster (before := s) unset ⟨roster.minority, roster.snapshots⟩
  generalize finish s (compareTally (compareSilences (blocksStopped w))) = t at *
  have sequencer : t.sequencer = v.sequencer := (closing .sequencer (by decide)).trans (frame .sequencer (by decide))
  have slot : t.slot = { v.slot with joinTimer := none, joinPassed := false } := by
    rw [closing .slot (by decide), ← frame .slot (by decide)]
    rfl
  have capability : t.capability = { w.capability with
      qmaxAvail := 0, unfit := false, cap := none, holdTimer := none, fallTarget := none } := closing .capability (by decide)
  have protection : t.protection = { w.protection with
      highFlag := false, lowSuction := none, qualityTrip := none, instrument := none } := closing .protection (by decide)
  have staging : t.staging = { w.staging with up := 0, down := 0 } := closing .staging (by decide)
  have chain := idle.chain
  unfold SameChain at chain
  refine ⟨?_, by rw [sequencer, train], by rw [sequencer, rest], ?_, ?_, ?_, ?_, by rw [staging]; exact ⟨rfl, rfl⟩, cause,
    snapshots, fun q => by rw [slot]; exact pending q, by rw [slot], by rw [slot], ?_, ?_, by rw [protection],
    by rw [protection], by rw [protection], by rw [protection], command, first⟩
  · rw [closing .loader (by decide)]
    show w.loader = _
    rw [frame .loader (by decide), loader]
    rfl
  · simp [State.runPermit, sequencer, train]
  · rw [sequencer, idle.moves.sequencer]
    exact ⟨rfl, rfl, rfl, rfl, rfl⟩
  · rw [closing .demand (by decide)]
    show w.demand = _
    rw [estimated, demand]
    rfl
  · rw [capability, frame .capability (by decide), chain]
    rfl
  · rw [protection, frame .protection (by decide)]
    exact idle.moves.latches
  · rw [protection, frame .protection (by decide)]
    exact idle.moves.counts

end Sys2Proof.Machine
end

section
/-! A successful reload of an UNCONFIGURED part (R194, R130): where the train goes, and that it stays where its conditions
put it. -/

namespace Sys2Proof.Machine

open Sys2Proof

variable {s t u : State} {timer : Timer}

/-! ## A train where its latches and its withhold causes put it -/

/-- The train stands where it leaves UNCONFIGURED for, its rest timer running. -/
structure Placed (timer : Timer) (s : State) : Prop where
  train : s.sequencer.train = s.unconfiguredExit
  rest : s.sequencer.rest = .running timer
  ended : s.loadEnded = true

theorem unconfiguredExit_congr (latches : t.protection.latches = s.protection.latches) (withheld : t.withheld = s.withheld) :
    t.unconfiguredExit = s.unconfiguredExit := by
  rw [State.unconfiguredExit, State.unconfiguredExit, latches, withheld]

theorem Placed.congr (h : Placed timer s) (sequencer : t.sequencer = s.sequencer)
    (latches : t.protection.latches = s.protection.latches) (withheld : t.withheld = s.withheld)
    (loader : t.loader = s.loader) : Placed timer t :=
  ⟨by rw [sequencer, h.train, unconfiguredExit_congr latches withheld], by rw [sequencer, h.rest],
    by rw [State.loadEnded, loader]; exact h.ended⟩

/-- A move neither touches the withhold causes nor the latches. -/
theorem moveTo_withheld (o : YieldOutcome) (x : Train) : (moveTo o x s).withheld = s.withheld := by
  rw [State.withheld, State.withheld, moveTo_frame o x .pins (by decide), moveTo_frame o x .roster (by decide),
    (moveTo_offPort (s := s) o x).logged.lport_eq]

theorem Placed.moveTo {x : Train} (h : s.sequencer.rest = .running timer) (ended : s.loadEnded = true)
    (exit : x = s.unconfiguredExit) : Placed timer (moveTo .aborted x s) := by
  refine ⟨?_, by rw [moveTo_rest, h], by rw [State.loadEnded, moveTo_loader]; exact ended⟩
  rw [moveTo_train, exit]
  exact (unconfiguredExit_congr (moveTo_onlyMoves ..).latches (moveTo_withheld ..)).symm

/-- A change of the minority cause moves the train with its conditions. -/
theorem Placed.withholdChanged {was arose : Bool} (rest : s.sequencer.rest = .running timer) (ended : s.loadEnded = true)
    (train : s.sequencer.train =
      if s.protection.latches.any then .tripped else if was then .withheld else .rest) :
    Placed timer (withholdChanged was arose s) := by
  have placed : Placed timer
      (if !was && s.withheld then withholdRises s else if was && !s.withheld then withholdFalls s else s) := by
    cases latched : s.protection.latches.any with
    | true =>
      rw [latched, if_pos rfl] at train
      have rises : withholdRises s = s := by simp only [withholdRises, train]
      have falls : withholdFalls s = s := by simp only [withholdFalls, train]
      rw [rises, falls, ite_self, ite_self]
      exact ⟨by rw [train, State.unconfiguredExit, latched, if_pos rfl], rest, ended⟩
    | false =>
      rw [latched, if_neg Bool.false_ne_true] at train
      have exit : s.unconfiguredExit = if s.withheld then .withheld else .rest := by
        rw [State.unconfiguredExit, latched, if_neg Bool.false_ne_true]
      cases was <;> cases now : s.withheld <;> rw [now] at exit
      · exact ⟨train.trans exit.symm, rest, ended⟩
      · have rises : withholdRises s = Machine.moveTo .aborted .withheld s := by
          simp only [withholdRises, show s.sequencer.train = .rest from train]
        show Placed timer (withholdRises s)
        rw [rises]
        exact Placed.moveTo rest ended exit.symm
      · have falls : withholdFalls s = Machine.moveTo .aborted .rest s := by
          simp only [withholdFalls, show s.sequencer.train = .withheld from train]
          exact enterRest_of_running rest
        show Placed timer (withholdFalls s)
        rw [falls]
        exact Placed.moveTo rest ended exit.symm
      · exact ⟨train.trans exit.symm, rest, ended⟩
  have running : ∀ v : State, Placed timer v → v.sequencer.train ≠ .running := fun v h => by
    rw [h.train]
    exact fun e => by have := unconfiguredExit_parked (s := v); rw [e] at this; cases this
  unfold Machine.withholdChanged
  rw [if_pos ended]
  dsimp only
  split
  · rw [withheldStopRequest_of_other (running _ placed)]
    exact placed
  · exact placed

theorem Placed.setMinority (h : Placed timer s) (v : Bool) : Placed timer (setMinority v s) := by
  unfold Machine.setMinority
  split
  · exact h
  · exact Placed.withholdChanged h.rest h.ended h.train

theorem Placed.minorityTest (h : Placed timer s) : Placed timer (minorityTest s) := by
  unfold Machine.minorityTest
  split
  · exact h.setMinority _
  · exact h

theorem Placed.of_offPort {bs : List Block} (h : Placed timer s) (frame : changesOnly bs s t) (offPort : OffPort s t)
    (minority : t.roster.minority = s.roster.minority) (sequencer : Block.sequencer ∉ bs) (protection : Block.protection ∉ bs)
    (pins : Block.pins ∉ bs) : Placed timer t := by
  refine h.congr (frame .sequencer sequencer) (by rw [frame .protection protection]) ?_ offPort.loader
  rw [State.withheld, State.withheld, frame .pins pins, minority, offPort.logged.lport_eq]

theorem goStale_minority (i : Station) : (goStale i s).roster.minority = s.roster.minority := rfl

theorem dropPeer_minority (i : Station) : (dropPeer i s).roster.minority = s.roster.minority := rfl

theorem compareSilence_minority (i : Station) : (compareSilence s i).roster.minority = s.roster.minority := by
  unfold compareSilence
  dsimp only
  generalize (s.canGoStale i && silentFor 4 s.roster.entries[i] s) = stale
  cases stale with
  | true =>
    rw [if_pos rfl]
    split
    · rw [dropPeer_minority, goStale_minority]
    · exact goStale_minority i
  | false =>
    rw [if_neg Bool.false_ne_true]
    split
    · exact dropPeer_minority i
    · rfl

theorem silencesCompared_minority : (silencesCompared s).roster.minority = s.roster.minority := by
  have fold : ∀ (l : List Station) (s : State), (l.foldl compareSilence s).roster.minority = s.roster.minority := by
    intro l
    induction l with
    | nil => exact fun s => rfl
    | cons i l ih => exact fun s => (ih _).trans (compareSilence_minority i)
  unfold silencesCompared
  exact fold stations s

theorem silencesCompared_offPort : OffPort s (silencesCompared s) := OffPort.foldl (fun _ => compareSilence_offPort) _

theorem rosterChanged_true : rosterChanged true s = minorityTest (judgeLevel s) := rfl

theorem Placed.compareSilences (h : Placed timer s) : Placed timer (compareSilences s) := by
  have compared : Placed timer (silencesCompared s) :=
    h.of_offPort silencesCompared_frame silencesCompared_offPort silencesCompared_minority (by decide) (by decide) (by decide)
  rcases compareSilences_cases (s := s) with e | e <;> rw [e]
  · exact compared
  · have judged : Placed timer (judgeLevel (silencesCompared s)) :=
      compared.of_offPort judgeLevel_frame judgeLevel_offPort (by rw [judgeLevel_frame .roster (by decide)])
        (by decide) (by decide) (by decide)
    rw [rosterChanged_true]
    exact judged.minorityTest

/-! ## UNCONFIGURED left -/

/-- No condition of a cause holds, of those that the end of a reload judges. -/
structure NoCondition (p : Params) (s : State) : Prop where
  pin : s.pins.tripIn = false
  drive : s.driveFault = false
  port : s.port.state.isLost = false
  pressure : s.chan 5 < p.pTrip

theorem judgeAfresh_of_none {p : Params} (params : s.loader.params = some p) (h : NoCondition p s) :
    changesOnly [.protection] s (judgeAfresh s) ∧ (judgeAfresh s).protection.latches = s.protection.latches := by
  have low : decide (p.pTrip ≤ s.chan 5) = false := decide_eq_false (Nat.not_le_of_lt h.pressure)
  have external : judgeExternal (flagsCleared s) = { flagsCleared s with
      protection := { (flagsCleared s).protection with extFlag := false } } := judgeExternal_of_released h.pin
  have drive : ∀ q : Protection, judgeDriveFault { s with protection := q } =
      { s with protection := { q with driveFlag := false } } := fun q => by
    show arriveIf s.driveFault q.driveFlag .driveFault { s with protection := { q with driveFlag := s.driveFault } } = _
    rw [h.drive]
    rfl
  have high : ∀ q : Protection, judgeHighPressure { s with protection := q } =
      { s with protection := { q with highFlag := false } } := fun q => by
    simp only [judgeHighPressure, params]
    show arriveIf (decide (p.pTrip ≤ s.chan 5)) q.highFlag .highPressure
      { s with protection := { q with highFlag := decide (p.pTrip ≤ s.chan 5) } } = _
    rw [low]
    rfl
  have lost : ∀ q : Protection, judgePortLoss { s with protection := q } =
      { s with protection := { q with portFlag := false } } := fun q => judgePortLoss_of_connected h.port
  have all : judgeAfresh s = judgePortLoss (judgeHighPressure (judgeDriveFault (judgeExternal (flagsCleared s)))) := rfl
  rw [all, external, flagsCleared, drive, high, lost]
  exact ⟨protection_frame _, rfl⟩

/-- The join wait and the rest timer begun, before the train leaves UNCONFIGURED. -/
def restBegun (s : State) : State := startRest (startJoinWait s)

theorem leaveUnconfigured_eq : leaveUnconfigured s = judgeAfresh (moveTo .aborted (restBegun s).unconfiguredExit (restBegun s)) := rfl

section

variable {p : Params} (params : s.loader.params = some p) (train : s.sequencer.train = .unconfigured)
  (none : NoCondition p s)

include params train none

theorem leaveUnconfigured_spec (ended : s.loadEnded = true) :
    Placed { since := s.time, span := p.minRestMin * 60 * 1024 } (leaveUnconfigured s) ∧
      (leaveUnconfigured s).slot =
        { s.slot with joinTimer := some { since := s.time, span := 3 * (p.tsCode * 256) }, joinPassed := false } ∧
      (leaveUnconfigured s).protection.latches = s.protection.latches ∧
      (leaveUnconfigured s).demand = s.demand ∧ (leaveUnconfigured s).loader = s.loader := by
  have begun : restBegun s = { startJoinWait s with sequencer :=
      { s.sequencer with rest := .running { since := s.time, span := p.minRestMin * 60 * 1024 } } } :=
    startRest_eq (s := startJoinWait s) params
  have parked := unconfiguredExit_parked (s := restBegun s)
  have here : (restBegun s).sequencer.train = .unconfigured := by rw [begun]; exact train
  have offPort := moveTo_offPort (s := restBegun s) .aborted (restBegun s).unconfiguredExit
  have frame := moveTo_frame (s := restBegun s) .aborted (restBegun s).unconfiguredExit
  have same : leaving .aborted (restBegun s).unconfiguredExit (restBegun s) = restBegun s :=
    leaving_of_no_claim (by rw [here]; decide) (by rw [here]; decide)
  have rest : (restBegun s).sequencer.rest = .running { since := s.time, span := p.minRestMin * 60 * 1024 } := by rw [begun]
  have live : (restBegun s).loadEnded = true := by rw [begun]; exact ended
  have moved : Placed { since := s.time, span := p.minRestMin * 60 * 1024 }
      (moveTo .aborted (restBegun s).unconfiguredExit (restBegun s)) := Placed.moveTo rest live rfl
  have latches : (moveTo .aborted (restBegun s).unconfiguredExit (restBegun s)).protection.latches = s.protection.latches :=
    (moveTo_onlyMoves (s := restBegun s) .aborted (restBegun s).unconfiguredExit).latches.trans (by rw [begun]; rfl)
  have slot : (moveTo .aborted (restBegun s).unconfiguredExit (restBegun s)).slot = (startJoinWait s).slot := by
    rw [moveTo_slot, same, begun]
  have loader : (moveTo .aborted (restBegun s).unconfiguredExit (restBegun s)).loader = s.loader := by
    rw [frame .loader (by decide), begun]
    rfl
  have demand : (moveTo .aborted (restBegun s).unconfiguredExit (restBegun s)).demand = s.demand := by
    rw [frame .demand (by decide), begun]
    rfl
  have pins : (moveTo .aborted (restBegun s).unconfiguredExit (restBegun s)).pins = s.pins := by
    rw [frame .pins (by decide), begun]
    rfl
  have port : (moveTo .aborted (restBegun s).unconfiguredExit (restBegun s)).port.state = s.port.state ∧
      (moveTo .aborted (restBegun s).unconfiguredExit (restBegun s)).port.channels = s.port.channels := by
    rw [offPort.port, begun]
    exact ⟨rfl, rfl⟩
  rw [leaveUnconfigured_eq]
  generalize moveTo .aborted (restBegun s).unconfiguredExit (restBegun s) = m at *
  have quiet : NoCondition p m :=
    ⟨by rw [pins]; exact none.pin, by rw [State.driveFault, State.chan, port.2]; exact none.drive,
      by rw [port.1]; exact none.port, by rw [State.chan, port.2]; exact none.pressure⟩
  obtain ⟨judged, still⟩ := judgeAfresh_of_none (by rw [loader]; exact params) quiet
  refine ⟨?_, ?_, still.trans latches, by rw [judged .demand (by decide), demand], by rw [judged .loader (by decide), loader]⟩
  · refine moved.congr (judged .sequencer (by decide)) still ?_ (judged .loader (by decide))
    rw [State.withheld, State.withheld, judged .pins (by decide), judged .roster (by decide), judged .lport (by decide)]
  · rw [judged .slot (by decide), slot]
    show { s.slot with joinTimer := startTimer s.time (3 * s.tS), joinPassed := false } = _
    rw [State.tS, params]
    rfl

end

/-! ## The reload of an UNCONFIGURED part -/

theorem setMinority_of_unconfigured (v : Bool) (train : s.sequencer.train = .unconfigured) :
    changesOnly [.roster, .lport, .queue] s (setMinority v s) := by
  have noted : changesOnly [.roster, .lport, .queue] s
      (raiseOwn .minority (flagNat v) { s with roster := { s.roster with minority := v } }) :=
    ((roster_frame _).mono (by decide)).trans ((raiseOwn_frame _ _).mono (by decide))
  unfold setMinority
  split
  · exact changesOnly_refl _ _
  · rw [withholdChanged_of_unconfigured (by exact train)]
    exact noted

theorem minorityTest_of_unconfigured (train : s.sequencer.train = .unconfigured) :
    changesOnly [.roster, .lport, .queue] s (minorityTest s) :=
  changesOnly_ite (setMinority_of_unconfigured _ train) (changesOnly_refl _ _)

/-- The image installed and the roster re-judged: the train stays UNCONFIGURED. -/
theorem reloadBegun_frame_of_unconfigured (i : Image) (train : s.sequencer.train = .unconfigured) :
    changesOnly [.capability, .roster, .loader, .lport, .queue] s (reloadBegun i s) := by
  have installed : changesOnly [.capability, .roster, .loader, .lport, .queue] s (imageInstalled i s) := fun b hb => by
    cases b <;> first | rfl | exact absurd (by decide) hb
  have rejudged := rejudge_frame (s := imageInstalled i s) s.loader.signature
  have tested := minorityTest_of_unconfigured (s := rejudge s.loader.signature (imageInstalled i s))
    (by rw [rejudged .sequencer (by decide)]; exact train)
  exact installed.trans ((rejudged.mono (by decide)).trans (tested.mono (by decide)))

/-- The estimator begun, the chain recomputed and the claims dropped, before the part leaves UNCONFIGURED. -/
def unconfiguredRested (i : Image) (s : State) : State :=
  claimsDropped (recompute (judgeLevel (startEstimator i.params s)))

theorem unconfiguredRested_frame (i : Image) (stopped : s.sequencer.train ≠ .running) :
    changesOnly [.demand, .lport, .queue, .capability, .staging, .slot, .line] s (unconfiguredRested i s) := by
  have estimated : changesOnly [.demand, .lport, .queue] s (judgeLevel (startEstimator i.params s)) :=
    changesOnly.trans (t := startEstimator i.params s) ((demand_frame _).mono (by decide)) judgeLevel_frame
  have chained : changesOnly [.capability] (judgeLevel (startEstimator i.params s))
      (recompute (judgeLevel (startEstimator i.params s))) :=
    recompute_of_not_running (by rw [estimated .sequencer (by decide)]; exact stopped)
  exact (estimated.mono (by decide)).trans ((chained.mono (by decide)).trans (claimsDropped_frame.mono (by decide)))

theorem unconfiguredRested_demand (i : Image) (stopped : s.sequencer.train ≠ .running) :
    LevelOnly (startEstimator i.params s) (unconfiguredRested i s) := by
  have estimated : changesOnly [.demand, .lport, .queue] (startEstimator i.params s) (judgeLevel (startEstimator i.params s)) :=
    judgeLevel_frame
  refine judgeLevel_levelOnly.trans (.of_eq ?_)
  rw [unconfiguredRested, claimsDropped_frame .demand (by decide)]
  exact recompute_of_not_running (by rw [estimated .sequencer (by decide)]; exact stopped) .demand (by decide)

/-- What a reload of an UNCONFIGURED part does once it has left UNCONFIGURED. -/
def leftClosed (before s : State) : State := finish before (compareTally (adoptPortSettings (compareSilences s)))

theorem reloadSucceeded_unconfigured {i : Image} {before : State} (unset : s.configured = false) :
    finish before (reloadSucceeded i s) = leftClosed before (leaveUnconfigured (unconfiguredRested i (reloadBegun i s))) := by
  rw [reloadSucceeded_eq, unset, reloadEnding_eq, if_neg Bool.false_ne_true, reloadEstimated, if_neg Bool.false_ne_true]
  rfl

theorem leftClosed_placed {before : State} (h : Placed timer s) : Placed timer (leftClosed before s) := by
  have last : changesOnly [.line, .port] (compareSilences s) (leftClosed before s) :=
    (adoptPortSettings_frame.mono (by decide)).trans ((compareTally_frame.mono (by decide)).trans (finish_frame before))
  refine h.compareSilences.congr (last .sequencer (by decide)) (by rw [last .protection (by decide)]) ?_
    (last .loader (by decide))
  rw [State.withheld, State.withheld, last .pins (by decide), last .lport (by decide), last .roster (by decide)]

theorem leftClosed_idles {before : State} : Idles s (leftClosed before s) :=
  reloadClosed_idles.after compareSilences_idles

theorem leftClosed_levelOnly {before : State} : LevelOnly s (leftClosed before s) :=
  compareSilences_levelOnly.trans reloadClosed_levelOnly

/-- Settles O25. -/
theorem reloadLeavesUnconfigured : Obligations.ReloadLeavesUnconfigured := by
  intro image tariff i s reloading train clear unset valid pin drive port pressure
  have run := exec_reloadEnd_of_valid (tariff := tariff) reloading (by rw [train]; rfl) clear valid
  obtain ⟨first, -⟩ := reloadSucceeded_records (s := { s with pins := { s.pins with tariff := tariff } }) i s
  have loader : (finish s (reloadSucceeded i { s with pins := { s.pins with tariff := tariff } })).loader =
      { phase := .idle, params := some i.params, signature := i.signature, succeeded := true } := by
    rw [finish_loader, (reloadSucceeded_inTaking i).loader]
    rfl
  refine ⟨_, run, loader, ?_⟩
  have first := first.rebase (u := s) rfl rfl
  rw [reloadSucceeded_unconfigured (by exact unset)] at first ⊢
  have begun := reloadBegun_frame_of_unconfigured (s := { s with pins := { s.pins with tariff := tariff } }) i train
  have loaded := reloadBegun_loader (s := { s with pins := { s.pins with tariff := tariff } }) i
  generalize reloadBegun i { s with pins := { s.pins with tariff := tariff } } = b at *
  have stopped : b.sequencer.train ≠ .running := by
    rw [begun .sequencer (by decide)]
    show s.sequencer.train ≠ .running
    rw [train]
    decide
  have rested := unconfiguredRested_frame (s := b) i stopped
  have demand := unconfiguredRested_demand (s := b) i stopped
  have request := claimsDropped_not_pending (s := recompute (judgeLevel (startEstimator i.params b)))
  change ∀ q, (unconfiguredRested i b).slot.view ≠ .ownPending q at request
  generalize unconfiguredRested i b = g at *
  have sequencer : g.sequencer = s.sequencer := (rested .sequencer (by decide)).trans (begun .sequencer (by decide))
  have port' : g.port = s.port := (rested .port (by decide)).trans (begun .port (by decide))
  have pins : g.pins = { s.pins with tariff := tariff } := (rested .pins (by decide)).trans (begun .pins (by decide))
  have time : g.time = s.time := (rested .time (by decide)).trans (begun .time (by decide))
  have loader' : g.loader = b.loader := rested .loader (by decide)
  have protection : g.protection = s.protection := (rested .protection (by decide)).trans (begun .protection (by decide))
  have quiet : NoCondition i.params g :=
    ⟨by rw [pins]; exact pin, by rw [State.driveFault, State.chan, port']; exact drive, by rw [port']; exact port,
      by rw [State.chan, port']; exact pressure⟩
  obtain ⟨placed, slot, latches, demand', loader''⟩ := leaveUnconfigured_spec (s := g) (by rw [loader', loaded])
    (by rw [sequencer]; exact train) quiet (by rw [State.loadEnded, loader', loaded]; rfl)
  rw [time] at placed slot
  generalize leaveUnconfigured g = l at *
  have closed := leftClosed_placed (before := s) placed
  have idle := leftClosed_idles (before := s) (s := l) (by rw [placed.train]; exact unconfiguredExit_parked)
  have levelled := (demand.trans (.of_eq demand')).trans (leftClosed_levelOnly (before := s))
  have slot' := idle.slot (by rw [slot]; exact request)
  generalize leftClosed s l = t at *
  have still : t.protection.latches = s.protection.latches := by rw [idle.moves.latches, latches, protection]
  have exit := closed.train
  rw [State.unconfiguredExit, still] at exit
  refine ⟨fun latched => ?_, fun none withheld => ?_, fun none free => ?_, closed.rest, by rw [slot', slot], by rw [slot', slot],
    still, ?_, ?_, first⟩
  · rw [exit, if_pos latched]
  · rw [exit, none, withheld]
    rfl
  · rw [exit, none, free]
    rfl
  · rw [levelled.demand]
    show some (profileFor b.pins.tariff) = _
    rw [begun .pins (by decide)]
    cases tariff <;> rfl
  · rw [levelled.demand]
    show startTimer b.time (seconds i.params.tD) = _
    rw [begun .time (by decide)]
    rfl

end Sys2Proof.Machine
end

section
/-! What the operations after a reception leave of the line: the receiver, the three counters of errors and the deferral
stay, and no frame comes into ECHO. With it the judgement of the own frame's echo (R169, section 9.4). -/

namespace Sys2Proof.Machine

open Sys2Proof

variable {s t u : State}

/-! ## What queueing and withdrawing leave of the line -/

/-- Receiver, counters of errors and deferral as they were, and no frame in ECHO but one that was there. -/
structure Line.Kept (l m : Line) : Prop where
  rx : m.rx = l.rx
  rxErr : m.rxErr = l.rxErr
  damage : m.damage = l.damage
  deferral : m.deferral = l.deferral
  echo : ∀ g, m.tx = .echo g → l.tx = .echo g

theorem Line.Kept.refl (l : Line) : l.Kept l := ⟨rfl, rfl, rfl, rfl, fun _ => id⟩

theorem Line.Kept.trans {l m n : Line} (h : l.Kept m) (k : m.Kept n) : l.Kept n :=
  ⟨k.rx.trans h.rx, k.rxErr.trans h.rxErr, k.damage.trans h.damage, k.deferral.trans h.deferral, fun g e => h.echo g (k.echo g e)⟩

theorem Line.release_not_echo (l : Line) (g : TxFrame) : l.release.tx ≠ .echo g := by
  unfold Line.release
  dsimp only
  split <;> exact fun k => nomatch k

theorem Line.release_kept (l : Line) : l.Kept l.release := ⟨rfl, rfl, rfl, rfl, fun g e => absurd e (l.release_not_echo g)⟩

theorem Line.follow_kept (l : Line) : l.Kept l.follow := by
  unfold Line.follow
  split
  · exact l.release_kept
  · exact l.release_kept
  · exact .refl l

theorem Line.withdraw_kept (set : PendingSet) (withdrawn : TxFrame → Bool) (l : Line) :
    l.Kept (l.withdraw set withdrawn) := by
  have same : l.Kept { l with set := set } := ⟨rfl, rfl, rfl, rfl, fun _ => id⟩
  unfold Line.withdraw
  dsimp only
  split
  · split
    · exact same.trans (Line.release_kept _)
    · exact same
  · split
    · exact same.trans (Line.release_kept _)
    · exact same
  · exact same.trans (Line.follow_kept _)

/-- Between two states the line is kept. -/
def LineKept (s t : State) : Prop := s.line.Kept t.line

theorem LineKept.refl (s : State) : LineKept s s := Line.Kept.refl _

theorem LineKept.trans (h : LineKept s t) (k : LineKept t u) : LineKept s u := Line.Kept.trans h k

theorem LineKept.after (k : LineKept t u) (h : LineKept s t) : LineKept s u := h.trans k

theorem LineKept.of_eq (h : t.line = s.line) : LineKept s t := by
  unfold LineKept
  rw [h]
  exact .refl _

theorem LineKept.of_frame {bs : List Block} (frame : changesOnly bs s t) (h : Block.line ∉ bs) : LineKept s t :=
  .of_eq (frame .line h)

theorem LineKept.ite {c : Prop} [Decidable c] (h : LineKept s t) (k : LineKept s u) : LineKept s (if c then t else u) := by
  split
  · exact h
  · exact k

/-! ## The slot's operations -/

theorem queueFrame_lineKept (f : TxFrame) : LineKept s (queueFrame f s) := by
  unfold queueFrame
  split
  · exact .refl s
  · exact Line.Kept.trans (m := { s.line with set := s.line.set.join f }) ⟨rfl, rfl, rfl, rfl, fun _ => id⟩ (Line.follow_kept _)

theorem queueYield_lineKept (o : YieldOutcome) (k : Kind) : LineKept s (queueYield o k s) := queueFrame_lineKept _

theorem queueOccupied_lineKept : LineKept s (queueOccupied s) := by
  unfold queueOccupied
  split
  · exact queueFrame_lineKept _
  · exact queueFrame_lineKept _
  · exact .refl s

theorem lineLeaving_kept (v : View) (l : Line) : l.Kept (lineLeaving v l) := by
  unfold lineLeaving
  split
  · exact Line.withdraw_kept ..
  · exact .refl l

theorem viewFree_lineKept : LineKept s (viewFree s) := lineLeaving_kept _ _

theorem viewHeld_lineKept (h : HeldView) : LineKept s (viewHeld h s) := lineLeaving_kept _ _

theorem request_lineKept (k : Kind) : LineKept s (request k s) := by
  unfold request
  split
  · dsimp only
    exact (queueFrame_lineKept _).after (.of_eq rfl)
  · exact .refl s

theorem cancelRequest_lineKept (o : Option YieldOutcome) : LineKept s (cancelRequest o s) := by
  unfold cancelRequest
  split
  · split
    · exact viewFree_lineKept.trans (queueYield_lineKept _ _)
    · exact viewFree_lineKept
  · exact .refl s

theorem release_lineKept (o : YieldOutcome) : LineKept s (release o s) := by
  unfold release
  split
  · exact viewFree_lineKept.trans (queueYield_lineKept _ _)
  · exact .refl s

theorem cancelOnLeaving_lineKept (o : YieldOutcome) : LineKept s (cancelOnLeaving o s) := by
  unfold cancelOnLeaving
  split
  · exact cancelRequest_lineKept _
  · exact cancelRequest_lineKept _
  · exact .refl s

theorem refreshHeld_lineKept (h : HeldView) (k : Kind) (r : Nat) : LineKept s (refreshHeld h k r s) := .of_eq rfl

theorem loseClaim_lineKept (q : PendingView) (x : Station) (h : HeldView) : LineKept s (loseClaim q x h s) :=
  (viewHeld_lineKept h).trans (.of_frame (raise_frame _ _ _) (by decide))

theorem recomposeTally_lineKept : LineKept s (recomposeTally s) := by
  unfold LineKept
  rw [recomposeTally_line]
  exact ⟨rfl, rfl, rfl, rfl, fun _ => id⟩

theorem finish_lineKept (before : State) : LineKept s (finish before s) := by
  unfold finish
  exact (LineKept.of_eq arbitrate_line).after (.ite (.refl s) recomposeTally_lineKept)

/-! ## The train's moves -/

theorem moveTo_lineKept (o : YieldOutcome) (x : Train) : LineKept s (moveTo o x s) := by
  unfold LineKept
  rw [moveTo_line]
  exact (LineKept.ite (.refl s) (cancelOnLeaving_lineKept o) : LineKept s (leaving o x s))

theorem unloadTest_lineKept : LineKept s (unloadTest s) :=
  .ite ((moveTo_lineKept _ _).after (.ite (release_lineKept _) (.refl s))) (.refl s)

theorem rampArrived_lineKept : LineKept s (rampArrived s) := by
  unfold rampArrived
  split
  · exact .refl s
  · exact .ite (unloadTest_lineKept.after (.of_frame (setValve_frame _) (by decide))) (.refl s)

theorem enterUnload_lineKept (staged : Bool) : LineKept s (enterUnload staged s) :=
  rampArrived_lineKept.after ((moveTo_lineKept _ _).trans (.of_eq rfl))

theorem leaveStart_lineKept : LineKept s (leaveStart s) := by
  unfold leaveStart
  split
  · exact moveTo_lineKept _ _
  · exact enterUnload_lineKept _
  · exact enterUnload_lineKept _
  · exact .refl s

theorem abortStart_lineKept : LineKept s (abortStart s) :=
  .ite (leaveStart_lineKept.after (release_lineKept _)) (.refl s)

theorem enterRest_lineKept : LineKept s (enterRest s) := by
  unfold enterRest
  dsimp only
  split
  · exact (moveTo_lineKept _ _).trans (moveTo_lineKept _ _)
  · exact moveTo_lineKept _ _

theorem windDown_lineKept : LineKept s (windDown s) := by
  unfold windDown
  split
  iterate 4 exact moveTo_lineKept _ _
  iterate 3 exact leaveStart_lineKept
  · exact enterUnload_lineKept _
  · exact .of_eq rfl
  iterate 3 exact .refl s

/-! ## Withhold and the Roster -/

theorem withholdRises_lineKept : LineKept s (withholdRises s) := by
  unfold withholdRises
  split
  iterate 2 exact moveTo_lineKept _ _
  iterate 3 exact abortStart_lineKept
  · exact .refl s

theorem withholdFalls_lineKept : LineKept s (withholdFalls s) := by
  unfold withholdFalls
  split
  · exact enterRest_lineKept
  · exact .refl s

theorem withholdChanged_lineKept (was arose : Bool) : LineKept s (withholdChanged was arose s) := by
  have asked : ∀ u : State, LineKept u (withheldStopRequest u) := fun u => .ite (request_lineKept _) (.refl u)
  have moved : LineKept s (if !was && s.withheld then withholdRises s
      else if was && !s.withheld then withholdFalls s else s) :=
    .ite withholdRises_lineKept (.ite withholdFalls_lineKept (.refl s))
  exact .ite (.ite ((asked _).after moved) moved) (.refl s)

theorem setMinority_lineKept (v : Bool) : LineKept s (setMinority v s) :=
  .ite (.refl s) ((withholdChanged_lineKept _ _).after (.of_eq rfl))

theorem minorityTest_lineKept : LineKept s (minorityTest s) := .ite (setMinority_lineKept _) (.refl s)

theorem rosterChanged_lineKept (changed : Bool) : LineKept s (rosterChanged changed s) := by
  have level : LineKept s (judgeLevel s) := .of_frame judgeLevel_frame (by decide)
  exact .ite (level.trans minorityTest_lineKept) level

theorem takeTally_lineKept (i : Station) (b : TallyBody) : LineKept s (takeTally i b s) := by
  unfold takeTally
  dsimp only
  refine (rosterChanged_lineKept _).after (.of_eq ?_)
  split <;> split <;> rfl

/-! ## The frames of other stations, and CONFLICT -/

theorem withdrawSlot_lineKept : LineKept s (withdrawSlot s) := .ite (.of_eq rfl) leaveStart_lineKept

theorem twoHolders_lineKept (k : Kind) (x : Station) (uid : UnitId) (xk : Kind) (r : Nat) :
    LineKept s (twoHolders k x uid xk r s) :=
  .ite queueOccupied_lineKept (withdrawSlot_lineKept.after
    (((viewHeld_lineKept _).trans (queueYield_lineKept _ _)).trans (.of_frame (raise_frame _ _ _) (by decide))))

theorem takeBid_lineKept (x : Station) (b : BidBody) : LineKept s (takeBid x b s) := by
  unfold takeBid
  split
  · exact viewHeld_lineKept _
  · exact .refl s
  · exact .ite queueOccupied_lineKept (loseClaim_lineKept _ _ _)
  · exact queueOccupied_lineKept

theorem takeOccupied_lineKept (x : Station) (b : OccupiedBody) : LineKept s (takeOccupied x b s) := by
  unfold takeOccupied
  split
  · exact viewHeld_lineKept _
  · exact .ite (refreshHeld_lineKept _ _ _) (viewHeld_lineKept _)
  · exact loseClaim_lineKept _ _ _
  · exact twoHolders_lineKept _ _ _ _ _

theorem takeYield_lineKept (x : Station) (b : YieldBody) : LineKept s (takeYield x b s) := by
  unfold takeYield
  dsimp only
  split
  · exact .ite (viewFree_lineKept.after (.of_eq rfl)) (.of_eq rfl)
  · exact .of_eq rfl

theorem takeReport_lineKept (x : Station) (b : TallyBody) : LineKept s (takeReport x b s) := by
  unfold takeReport
  split
  · split
    · exact viewHeld_lineKept _
    · exact .ite (refreshHeld_lineKept _ _ _) (.ite (viewHeld_lineKept _) (.refl s))
    · exact loseClaim_lineKept _ _ _
    · exact twoHolders_lineKept _ _ _ _ _
  · split
    · exact .ite viewFree_lineKept (.refl s)
    · exact .refl s

/-- The first detection silences the line; receiver, counters of errors and deferral stay. -/
theorem enterConflict_lineKept (cls : Nat) : LineKept s (enterConflict cls s) := by
  have silenced : ∀ u : State, LineKept u (silenceLine u) := fun u => ⟨rfl, rfl, rfl, rfl, fun _ k => nomatch k⟩
  have dropped : ∀ u : State, LineKept u (dropSlot u) := fun u => .ite viewFree_lineKept (.refl u)
  unfold enterConflict
  split
  · exact .refl s
  · refine windDown_lineKept.after ((dropped _).after ((silenced _).after (.trans (t := raiseOwn .duplicateStation cls s)
      (.of_eq rfl) ?_)))
    exact (LineKept.of_frame (noteChange_frame s) (by decide)).after (.of_eq rfl)

/-! ## The hand-on of a frame -/

/-- What the hand-on of a frame leaves of the line but for the receive errors, which a body that fails its check raises. -/
structure Line.Heard (l m : Line) : Prop where
  rx : m.rx = l.rx
  damage : m.damage = l.damage
  deferral : m.deferral = l.deferral
  echo : ∀ g, m.tx = .echo g → l.tx = .echo g

theorem Line.Kept.heard {l m : Line} (h : l.Kept m) : l.Heard m := ⟨h.rx, h.damage, h.deferral, h.echo⟩

theorem countRxError_heard : s.line.Heard (countRxError s).line := ⟨rfl, rfl, rfl, fun _ => id⟩

theorem handOnForeign_heard (f : RxFrame) : s.line.Heard (handOnForeign f s).line := by
  unfold handOnForeign
  split
  · dsimp only
    split
    · exact ((takeTally_lineKept _ _).trans (takeReport_lineKept _ _)).heard
    · exact countRxError_heard
  · split
    · exact (takeOccupied_lineKept _ _).heard
    · exact countRxError_heard
  · split
    · exact (takeYield_lineKept _ _).heard
    · exact countRxError_heard
  iterate 2
    split
    · exact (takeBid_lineKept _ _).heard
    · exact countRxError_heard
  · exact (Line.Kept.refl _).heard

theorem handOn_heard (f : RxFrame) : s.line.Heard (handOn f s).line := by
  unfold handOn
  split
  · exact (Line.Kept.refl _).heard
  · split
    · split
      · exact (Line.Kept.refl _).heard
      · exact (enterConflict_lineKept _).heard
    · exact handOnForeign_heard f

/-! ## The judgement of the echo -/

/-- A frame back in the set, one of its kind that has joined kept. -/
theorem PendingSet.giveBack_eq (p : PendingSet) (fr : TxFrame) :
    p.giveBack fr =
      match fr with
      | .occupied b => { p with occupied := some (p.occupied.getD b) }
      | .yield b => { p with yield := some (p.yield.getD b) }
      | .bid b => { p with bid := some (p.bid.getD b) }
      | .tally b => { p with tally := some (p.tally.getD b) } := by
  have kept : ∀ {α : Type} (o : Option α) (b : α), (o.orElse fun _ => some b) = some (o.getD b) := fun o b => by
    cases o <;> rfl
  cases fr <;> simp only [PendingSet.giveBack, kept]

/-- A claim is pending where the view is the own one and no holding. -/
theorem View.claims_eq (v : View) : decide (v.code = 2) = (v.isOwn && !v.isOwnHeld) := by
  cases v <;> rfl

theorem mayReturn_eq (fr : TxFrame) (s : State) :
    mayReturn fr s =
      (!s.sequencer.conflict &&
        match fr with
        | .bid _ => s.slot.view.isOwn && !s.slot.view.isOwnHeld
        | .occupied _ => s.slot.view.isOwn
        | .yield _ | .tally _ => true) := by
  cases fr
  case bid => exact congrArg (!s.sequencer.conflict && ·) s.slot.view.claims_eq
  all_goals rfl

/-- The line after a damaged attempt heard back at this idle (R169). -/
def damagedLine (fr : TxFrame) (s : State) : Line :=
  { s.line with
    rx := .idle, damage := min 255 (s.line.damage + 1)
    set := if mayReturn fr s then s.line.set.giveBack fr else s.line.set
    tx := if mayReturn fr s then .wait else if s.line.set.isEmpty then .quiet else .wait
    deferral := some (deferralAfter s.ident.uid (min 255 (s.line.damage + 1))) }

theorem damagedLine_not_echo (fr g : TxFrame) : (damagedLine fr s).tx ≠ .echo g := by
  unfold damagedLine
  dsimp only
  split
  · exact fun k => nomatch k
  · split <;> exact fun k => nomatch k

theorem damagedAttempt_idle (fr : TxFrame) (s : State) :
    damagedAttempt (if mayReturn fr s then s.line.set.giveBack fr else s.line.set) (lineIdle s) =
      s.withLine (damagedLine fr s) := by
  simp only [damagedAttempt, damagedLine, Line.release, lineIdle, State.withLine, satInc_eq_min]
  cases mayReturn fr s <;> simp [PendingSet.giveBack_isEmpty]

theorem judgeEcho_of_discarded {fr : TxFrame} (echo : s.line.tx = .echo fr) :
    judgeEcho none (countRxError (lineIdle s)) =
      s.withLine { damagedLine fr s with rxErr := min 255 (s.line.rxErr + 1) } := by
  have idle : (countRxError (lineIdle s)).line.tx = .echo fr := echo
  simp only [judgeEcho, idle]
  rw [← satInc_eq_min]
  exact congrArg countRxError (damagedAttempt_idle fr s)

theorem heard_of_damaged {fr : TxFrame} {f : RxFrame} (echo : s.line.tx = .echo fr) (other : s.isOwnEcho f = false) :
    heard f s = s.withLine (damagedLine fr s) := by
  have idle : (lineIdle s).line.tx = .echo fr := echo
  have other' : (lineIdle s).isOwnEcho f = false := other
  simp only [heard, judgeEcho, idle, Option.map_some, Option.getD_some, other', Bool.false_eq_true, if_false]
  exact damagedAttempt_idle fr s

/-- The line after the own frame has been heard back whole (R169). -/
def sentLine (s : State) : Line :=
  { s.line with rx := .idle, damage := 0, tx := if s.line.set.isEmpty then .quiet else .wait }

theorem heard_of_own {fr : TxFrame} {f : RxFrame} (echo : s.line.tx = .echo fr) (own : s.isOwnEcho f = true) :
    heard f s = frameSent fr (lineIdle s) := by
  have idle : (lineIdle s).line.tx = .echo fr := echo
  have own' : (lineIdle s).isOwnEcho f = true := own
  simp only [heard, judgeEcho, idle, Option.map_some, Option.getD_some, own', if_true]

theorem frameSent_of_bid (b : BidBody) : frameSent (.bid b) (lineIdle s) = bidSent (s.withLine (sentLine s)) := rfl

theorem frameSent_of_other {fr : TxFrame} (h : ∀ b, fr ≠ .bid b) : frameSent fr (lineIdle s) = s.withLine (sentLine s) := by
  cases fr
  case bid b => exact absurd rfl (h b)
  all_goals rfl

theorem bidSent_of_pending {q : PendingView} (view : s.slot.view = .ownPending q) :
    bidSent s =
      { s with slot :=
        { s.slot with view := .ownPending { q with sent := true, window := some { since := s.time, span := 154 } } } } := by
  simp only [bidSent, view]
  rfl

theorem bidSent_of_other (h : ∀ q, s.slot.view ≠ .ownPending q) : bidSent s = s := by
  unfold bidSent
  split
  · next q view => exact absurd view (h q)
  · rfl

theorem bidSent_frame : changesOnly [.slot] s (bidSent s) := by
  unfold bidSent
  split
  · exact slot_frame _
  · exact changesOnly_refl _ _

theorem bidSent_holding : (bidSent s).slot.view.isOwnHeld = s.slot.view.isOwnHeld := by
  unfold bidSent
  split
  · next q view =>
    rw [view]
    rfl
  · rfl

theorem frameSent_frame (fr : TxFrame) : changesOnly [.slot, .line] s (frameSent fr (lineIdle s)) := by
  have sent : changesOnly [.slot, .line] s (s.withLine (sentLine s)) := (withLine_frame _).mono (by decide)
  cases fr
  case bid => exact sent.trans (bidSent_frame.mono (by decide))
  all_goals exact sent

theorem frameSent_holding (fr : TxFrame) : (frameSent fr (lineIdle s)).slot.view.isOwnHeld = s.slot.view.isOwnHeld := by
  cases fr
  case bid => exact bidSent_holding (s := s.withLine (sentLine s))
  all_goals rfl

theorem frameSent_line (fr : TxFrame) : (frameSent fr (lineIdle s)).line = sentLine s := by
  cases fr
  case bid => exact bidSent_frame (s := s.withLine (sentLine s)) .line (by decide)
  all_goals rfl

/-- The own frame's slot: the window starts of a claim that is pending, and no other frame moves it. -/
theorem frameSent_slot (fr : TxFrame) :
    (∀ b q, fr = .bid b → s.slot.view = .ownPending q →
      (frameSent fr (lineIdle s)).slot =
        { s.slot with
          view := .ownPending { q with sent := true, window := some { since := s.time, span := 154 } } }) ∧
      ((∀ b, fr ≠ .bid b) ∨ (∀ q, s.slot.view ≠ .ownPending q) → (frameSent fr (lineIdle s)).slot = s.slot) := by
  constructor
  · rintro b q rfl view
    rw [frameSent_of_bid, bidSent_of_pending (s := s.withLine (sentLine s)) view]
    rfl
  · rintro (other | unclaimed)
    · rw [frameSent_of_other other]
      rfl
    · cases fr
      case bid b =>
        rw [frameSent_of_bid, bidSent_of_other (s := s.withLine (sentLine s)) unclaimed]
        rfl
      all_goals rfl

/-- The own echo is handed on to the transmitter alone (R165). -/
theorem handOn_of_own {f : RxFrame} (station : f.station = s.ident.station) (uid : f.uid = s.ident.uid) :
    handOn f s = s := by
  simp [handOn, station, uid]

theorem handOn_before_load {f : RxFrame} (h : s.loadEnded = false) : handOn f s = s := by
  simp [handOn, h]

theorem ownEcho_of_own {rx : List RxChar} {f : RxFrame} {fr : TxFrame} (echo : s.line.tx = .echo fr)
    (accepted : receive rx = .accepted f) (station : f.station = s.ident.station) (uid : f.uid = s.ident.uid) :
    receiveFrame rx s = finish s (frameSent fr (lineIdle s)) := by
  have kept : (frameSent fr (lineIdle s)).ident = s.ident := frameSent_frame fr .ident (by decide)
  rw [receiveFrame_of_accepted accepted, heard_of_own echo (by simp [State.isOwnEcho, station, uid]),
    handOn_of_own (by rw [kept, station]) (by rw [kept, uid])]

/-- Settles O43. -/
theorem echoJudgesTheOwnFrame : Obligations.EchoJudgesTheOwnFrame := by
  intro rx fr s echo n returns back damaged
  have damaged_eq : damaged = damagedLine fr s := by
    have back_eq : back = s.line.set.giveBack fr := (PendingSet.giveBack_eq _ fr).symm
    have returns_eq : returns = mayReturn fr s := (mayReturn_eq fr s).symm
    simp only [damaged, back_eq, returns_eq]
    rfl
  rw [damaged_eq]
  refine ⟨fun f accepted station uid => ?own, fun discarded => ?discarded, fun f accepted foreign => ?foreign⟩
  case own =>
    refine ⟨_, rfl, ?_⟩
    rw [ownEcho_of_own echo accepted station uid]
    refine ⟨((frameSent_frame fr).mono (by decide)).trans ((finish_frame s).mono (by decide)), ?_, ?_⟩
    · rw [finish_line_of_same_holding (frameSent_holding fr), frameSent_line]
      rfl
    · rw [finish_slot]
      exact frameSent_slot fr
  case discarded =>
    have run : receiveFrame rx s = finish s (s.withLine { damagedLine fr s with rxErr := min 255 (s.line.rxErr + 1) }) := by
      simp only [receiveFrame, discarded, judgeEcho_of_discarded echo]
    refine ⟨_, rfl, ?_⟩
    rw [run]
    exact ⟨finish_changes (withLine_frame _) rfl (by decide) (by decide), finish_line_of_slot_kept rfl⟩
  case foreign =>
    have other : s.isOwnEcho f = false := by
      simpa [State.isOwnEcho] using foreign
    refine ⟨_, rfl, ?_⟩
    rw [receiveFrame_of_accepted accepted, heard_of_damaged echo other]
    obtain ⟨rx', damage, deferral, echoes⟩ := handOn_heard (s := s.withLine (damagedLine fr s)) f
    obtain ⟨rx₁, -, damage₁, deferral₁, echoes₁⟩ := finish_lineKept (s := handOn f (s.withLine (damagedLine fr s))) s
    refine ⟨damage₁.trans damage, deferral₁.trans deferral, rx₁.trans rx',
      fun g k => damagedLine_not_echo fr g (echoes g (echoes₁ g k)), fun unloaded => ?_⟩
    rw [handOn_before_load (s := s.withLine (damagedLine fr s)) unloaded]
    exact ⟨finish_line_of_slot_kept rfl, finish_changes (withLine_frame _) rfl (by decide) (by decide)⟩

end Sys2Proof.Machine
end

section
/-! A TALLY of a peer: what the Roster makes of it, and what the minority test that follows leaves of the own claim or
holding (R38 to R45, R56, R57, R111). -/

namespace Sys2Proof.Machine

open Sys2Proof

variable {s t u v : State} {o : YieldOutcome} {x : Train}

/-! ## What withhold's answer leaves of the slot -/

/-- The slot as a change of the withhold condition leaves it: a view that is not the own one stays, but that FREE may
take a claim; a claim stays one or is cancelled with its BID; a holding stays or is given up ABORTED with its start. -/
structure ClaimsFollow (s u : State) : Prop where
  held : ∀ h, s.slot.view = .held h → u.slot = s.slot
  free : s.slot.view = .free → u.slot = s.slot ∨ ∃ q, u.slot.view = .ownPending q
  pending : ∀ q, s.slot.view = .ownPending q →
    (∃ q', u.slot.view = .ownPending q') ∨ (u.slot.view = .free ∧ u.line.set.bid = none)
  holder : ∀ k hold, s.slot.view = .ownHeld k hold →
    u.slot = s.slot ∨
      (u.slot.view = .free ∧
        (s.sequencer.conflict = false →
          u.line.set.yield = some { uid := s.ident.uid, outcome := .aborted, kind := k }) ∧
        u.sequencer.train.isStarting = false ∧ u.sequencer.train ≠ .running)

theorem ClaimsFollow.of_slot (slot : u.slot = s.slot) : ClaimsFollow s u :=
  ⟨fun _ _ => slot, fun _ => .inl slot, fun q view => .inl ⟨q, slot ▸ view⟩, fun _ _ _ => .inl slot⟩

theorem ClaimsFollow.refl (s : State) : ClaimsFollow s s := .of_slot rfl

theorem ClaimsFollow.ite {c : Prop} [Decidable c] (h : ClaimsFollow s t) (k : ClaimsFollow s u) :
    ClaimsFollow s (if c then t else u) := by
  split
  · exact h
  · exact k

theorem ClaimsFollow.rebase (h : ClaimsFollow v u) (slot : v.slot = s.slot) (conflict : v.sequencer.conflict = s.sequencer.conflict)
    (ident : v.ident = s.ident) : ClaimsFollow s u := by
  obtain ⟨held, free, pending, holder⟩ := h
  rw [slot] at held free pending holder
  rw [conflict, ident] at holder
  exact ⟨held, free, pending, holder⟩

theorem cancelRequest_freed {q : PendingView} (view : s.slot.view = .ownPending q) (outcome : Option YieldOutcome) :
    (cancelRequest outcome s).slot.view = .free ∧ (cancelRequest outcome s).line.set.bid = none := by
  have bid : (viewFree s).line.set.bid = none := viewFree_bid_of_own (by rw [view]; rfl)
  simp only [cancelRequest, view]
  split
  · exact ⟨congrArg Slot.view (queueYield_slot _ _), (queueYield_bid _ _).trans bid⟩
  · exact ⟨rfl, bid⟩

/-- A move leaves the slot but for a claim that it cancels. -/
theorem moveTo_claimsFollow : ClaimsFollow s (moveTo o x s) := by
  by_cases claim : ∃ q, s.slot.view = .ownPending q
  · obtain ⟨q, view⟩ := claim
    have left : leaving o x s = s ∨ leaving o x s = cancelRequest (some o) s := by
      unfold leaving cancelOnLeaving
      split
      · exact .inl rfl
      · split
        · exact .inr rfl
        · exact .inr rfl
        · exact .inl rfl
    rcases left with same | cancels
    · exact .of_slot (by rw [moveTo_slot, same])
    · obtain ⟨free, bid⟩ := cancelRequest_freed view (some o)
      refine ⟨fun h e => ?_, fun e => ?_, fun _ _ => .inr ⟨?_, ?_⟩, fun k hold e => ?_⟩
      · rw [view] at e; cases e
      · rw [view] at e; cases e
      · rw [moveTo_slot, cancels]; exact free
      · rw [moveTo_line, cancels]; exact bid
      · rw [view] at e; cases e
  · exact .of_slot (by rw [moveTo_slot, leaving_of_not_pending fun q view => claim ⟨q, view⟩])

theorem enterRest_claimsFollow (waits : s.sequencer.train = .withheld) : ClaimsFollow s (enterRest s) := by
  have first : (moveTo .aborted .rest s).slot = s.slot := by
    rw [moveTo_slot, leaving_of_no_claim (by rw [waits]; decide) (by rw [waits]; decide)]
  have second : (moveTo .aborted .ready (moveTo .aborted .rest s)).slot = s.slot := by
    rw [moveTo_slot, leaving_of_no_claim (by rw [moveTo_train]; decide) (by rw [moveTo_train]; decide), first]
  unfold enterRest
  dsimp only
  split
  · exact .of_slot second
  · exact .of_slot first

theorem abortStart_claimsFollow (start : s.sequencer.train.isStarting = true) : ClaimsFollow s (abortStart s) := by
  by_cases holding : ∃ k hold, s.slot.view = .ownHeld k hold
  · obtain ⟨k, hold, view⟩ := holding
    have released : (release .aborted s).slot.view = .free := by
      simp only [release, view]
      exact congrArg Slot.view (queueYield_slot _ _)
    have claims := leaveStart_sameClaims (s := release .aborted s)
    have left : abortStart s = leaveStart (release .aborted s) := if_pos start
    refine ⟨fun h e => ?_, fun e => ?_, fun q e => ?_, fun k' hold' e => .inr ⟨?_, fun clear => ?_, ?_, abortStart_not_running start⟩⟩
    · rw [view] at e; cases e
    · rw [view] at e; cases e
    · rw [view] at e; cases e
    · rw [left, claims.slot]; exact released
    · exact (abortStart_gives start e clear).2
    · rw [left]
      exact leaveStart_not_starting (by rw [release_train]; exact start)
  · have unheld : s.slot.view.isOwnHeld = false := by
      cases view : s.slot.view
      case ownHeld k hold => exact absurd ⟨k, hold, view⟩ holding
      all_goals rfl
    rw [abortStart, if_pos start, release_of_not_held .aborted unheld]
    exact .of_slot leaveStart_sameClaims.slot

theorem withholdRises_claimsFollow : ClaimsFollow s (withholdRises s) := by
  unfold withholdRises
  split
  iterate 2 exact moveTo_claimsFollow
  iterate 3
    next train => exact abortStart_claimsFollow (by rw [train]; rfl)
  · exact .refl s

theorem withholdFalls_claimsFollow : ClaimsFollow s (withholdFalls s) := by
  unfold withholdFalls
  split
  · next waits => exact enterRest_claimsFollow waits
  · exact .refl s

/-- A request for a STOP that follows: it is taken in a FREE view of a RUNNING train alone. -/
theorem ClaimsFollow.stopRequest (h : ClaimsFollow s u) : ClaimsFollow s (withheldStopRequest u) := by
  unfold withheldStopRequest
  split
  · next running =>
    cases takes : u.takesRequest with
    | false => rw [request_of_refused .stop takes]; exact h
    | true =>
      obtain ⟨view, -⟩ := takesRequest_iff.mp takes
      have claims : ∃ q, (request .stop u).slot.view = .ownPending q := by
        rw [(request_takesClaim .stop takes).1]
        exact ⟨_, rfl⟩
      refine ⟨fun g e => ?_, fun _ => .inr claims, fun _ _ => .inl claims, fun k hold e => ?_⟩
      · rw [h.held g e, e] at view; cases view
      · rcases h.holder k hold e with same | ⟨-, -, -, other⟩
        · rw [same, e] at view; cases view
        · exact absurd running.1 other
  · exact h

theorem withholdChanged_claimsFollow (was arose : Bool) : ClaimsFollow s (withholdChanged was arose s) := by
  have moved : ClaimsFollow s (if !was && s.withheld then withholdRises s
      else if was && !s.withheld then withholdFalls s else s) :=
    .ite withholdRises_claimsFollow (.ite withholdFalls_claimsFollow (.refl s))
  exact .ite (.ite moved.stopRequest moved) (.refl s)

theorem setMinority_claimsFollow (m : Bool) : ClaimsFollow s (setMinority m s) :=
  .ite (.refl s) ((withholdChanged_claimsFollow s.withheld m).rebase rfl rfl rfl)

/-! ## The minority test (R56, R57) -/

theorem setMinority_of_same (m : Bool) (same : m = s.roster.minority) : setMinority m s = s := if_pos same

theorem setMinority_minority (m : Bool) : (setMinority m s).roster.minority = m := by
  unfold setMinority
  split
  · next same => exact same.symm
  · exact congrArg Roster.minority (withholdChanged_frame _ _ .roster (by decide))

theorem setMinority_raises {m : Bool} (other : m ≠ s.roster.minority) :
    firstRaised (.minority, s.own, flagNat m) s (setMinority m s) := by
  have raised : Records [(.minority, s.own, flagNat m)] s
      (raiseOwn .minority (flagNat m) { s with roster := { s.roster with minority := m } }) := ⟨rfl, rfl⟩
  rw [setMinority, if_neg other]
  exact raised.first (withholdChanged_offPort _ _).logged

/-- The counts of the minority test read station, configuration, signature and entries alone. -/
theorem entry_standing_congr (ident : t.ident = s.ident) (loader : t.loader = s.loader)
    (entries : t.roster.entries = s.roster.entries) (i : Station) :
    (t.entry i).validity = (s.entry i).validity ∧ (t.entry i).tally.signature = (s.entry i).tally.signature := by
  have ended : t.loadEnded = s.loadEnded := by rw [State.loadEnded, State.loadEnded, loader]
  have own : t.ownTally.signature = s.ownTally.signature := congrArg Loader.signature loader
  unfold State.entry
  rw [ident, ended, entries]
  split
  · refine ⟨rfl, ?_⟩
    dsimp only
    split
    · exact own
    · rfl
  · exact ⟨rfl, rfl⟩

/-- The minority condition, on the entries that stand (R56). -/
def State.inMinority (s : State) : Bool := decide (s.minorityM < s.minorityD)

theorem inMinority_congr (ident : t.ident = s.ident) (loader : t.loader = s.loader)
    (entries : t.roster.entries = s.roster.entries) : t.inMinority = s.inMinority := by
  have same := entry_standing_congr ident loader entries
  unfold State.inMinority State.minorityM State.minorityD
  rw [loader]
  congr 3
  · congr 1
    funext i
    rw [(same i).1, (same i).2]
  · congr 1
    funext i
    rw [(same i).1]

/-- The minority flag after a change of the roster. -/
theorem rosterChanged_minority (changed : Bool) :
    (rosterChanged changed s).roster.minority =
      if changed && s.configured then s.inMinority else s.roster.minority := by
  have frame : changesOnly [.demand, .lport, .queue] s (judgeLevel s) := judgeLevel_frame
  have roster : (judgeLevel s).roster = s.roster := frame .roster (by decide)
  have loader : (judgeLevel s).loader = s.loader := frame .loader (by decide)
  have configured : (judgeLevel s).configured = s.configured := by rw [State.configured, State.configured, loader]
  cases changed with
  | false => exact congrArg Roster.minority roster
  | true =>
    show (minorityTest (judgeLevel s)).roster.minority = _
    unfold minorityTest
    rw [configured, Bool.true_and]
    cases s.configured with
    | false => exact congrArg Roster.minority roster
    | true =>
      rw [if_pos rfl, if_pos rfl, setMinority_minority]
      exact inMinority_congr (frame .ident (by decide)) loader (by rw [roster])

/-- A change of the roster that leaves the flag does no more than judge the level. -/
theorem rosterChanged_of_same (changed : Bool) (same : (rosterChanged changed s).roster.minority = s.roster.minority) :
    rosterChanged changed s = judgeLevel s := by
  have roster : (judgeLevel s).roster = s.roster := judgeLevel_frame .roster (by decide)
  cases changed with
  | false => rfl
  | true =>
    have kept : (minorityTest (judgeLevel s)).roster.minority = s.roster.minority := same
    show minorityTest (judgeLevel s) = judgeLevel s
    unfold minorityTest at kept ⊢
    split at kept
    · next configured =>
      rw [setMinority_minority] at kept
      rw [if_pos configured]
      exact setMinority_of_same _ (by rw [roster]; exact kept)
    · next without => rw [if_neg without]

/-- A change of the roster that moves the flag raises MINORITY. -/
theorem rosterChanged_raises (changed : Bool) (moved : (rosterChanged changed s).roster.minority ≠ s.roster.minority) :
    raisedWithin (.minority, s.own, if (rosterChanged changed s).roster.minority then 1 else 0) s (rosterChanged changed s) := by
  have frame : changesOnly [.demand, .lport, .queue] s (judgeLevel s) := judgeLevel_frame
  have roster : (judgeLevel s).roster = s.roster := frame .roster (by decide)
  have own : (judgeLevel s).own = s.own := own_congr (frame .ident (by decide))
  cases changed with
  | false => exact absurd (congrArg Roster.minority roster) moved
  | true =>
    have test : rosterChanged true s = minorityTest (judgeLevel s) := rfl
    rw [test] at moved ⊢
    unfold minorityTest at moved ⊢
    split at moved
    · next configured =>
      rw [setMinority_minority] at moved
      rw [if_pos configured, setMinority_minority, ← own]
      obtain ⟨more, queue⟩ := setMinority_raises (s := judgeLevel s) (by rw [roster]; exact moved)
      have raised : raisedWithin (.minority, (judgeLevel s).own, _) (judgeLevel s) _ := ⟨[], more, queue⟩
      exact raised.after judgeLevel_offPort.logged
    · exact absurd (congrArg Roster.minority roster) moved

theorem rosterChanged_claimsFollow (changed : Bool) : ClaimsFollow s (rosterChanged changed s) := by
  have frame : changesOnly [.demand, .lport, .queue] s (judgeLevel s) := judgeLevel_frame
  have level : ClaimsFollow s (judgeLevel s) := .of_slot (frame .slot (by decide))
  have test : ClaimsFollow (judgeLevel s) (minorityTest (judgeLevel s)) := .ite (setMinority_claimsFollow _) (.refl _)
  exact .ite (test.rebase (frame .slot (by decide)) (by rw [frame .sequencer (by decide)]) (frame .ident (by decide))) level

/-! ## A TALLY entered (R41 to R45) -/

/-- The entry that a TALLY makes. -/
def receivedEntry (i : Station) (b : TallyBody) (s : State) : Entry :=
  { validity := standing (b.matchesSig s.loader.signature), tally := b, silence := some s.time
    snapshot :=
      if keepsSnapshot s.roster.entries[i] b (standing (b.matchesSig s.loader.signature)) then s.roster.entries[i].snapshot
      else none }

/-- The records of a TALLY entered: its arrival, then SIGNATURE_MISMATCH. -/
def arrivalRecords (i : Station) (b : TallyBody) (s : State) : List (EventKind × Nat × Nat) :=
  (arrivalKind s.roster.entries[i] b).toList.map fun k => (k, stationNumber i, b.stateCode)

def mismatchRecords (i : Station) (b : TallyBody) (s : State) : List (EventKind × Nat × Nat) :=
  if raisesMismatch s.roster.entries[i] b (standing (b.matchesSig s.loader.signature)) then
    [(.signatureMismatch, stationNumber i, b.stateCode)]
  else []

/-- The state once the TALLY is in its entry and its records are raised. -/
def tallyEntered (i : Station) (b : TallyBody) (s : State) : State :=
  raiseAll (arrivalRecords i b s ++ mismatchRecords i b s) (setEntry i (receivedEntry i b s) s)

theorem takeTally_eq (i : Station) (b : TallyBody) :
    takeTally i b s =
      rosterChanged (!decide (standing (b.matchesSig s.loader.signature) = s.roster.entries[i].validity)) (tallyEntered i b s) := by
  unfold takeTally tallyEntered arrivalRecords mismatchRecords
  dsimp only
  congr 1
  cases arrivalKind s.roster.entries[i] b <;>
    cases raisesMismatch s.roster.entries[i] b (standing (b.matchesSig s.loader.signature)) <;> rfl

theorem raiseAll_frame (l : List (EventKind × Nat × Nat)) : changesOnly [.lport, .queue] s (raiseAll l s) := by
  induction l generalizing s with
  | nil => exact changesOnly_refl _ _
  | cons r l ih => exact (raise_frame _ _ _).trans ih

theorem tallyEntered_frame (i : Station) (b : TallyBody) : changesOnly [.roster, .lport, .queue] s (tallyEntered i b s) :=
  ((roster_frame _).mono (by decide)).trans ((raiseAll_frame _).mono (by decide))

theorem tallyEntered_records (i : Station) (b : TallyBody) :
    Records (arrivalRecords i b s ++ mismatchRecords i b s) s (tallyEntered i b s) :=
  ⟨raiseAll_time _, raiseAll_queue_congr _ rfl rfl⟩

theorem tallyEntered_roster (i : Station) (b : TallyBody) :
    (tallyEntered i b s).roster = (setEntry i (receivedEntry i b s) s).roster := raiseAll_frame _ .roster (by decide)

theorem arrivalRecords_eq (i : Station) (b : TallyBody) :
    arrivalRecords i b s =
      if s.roster.entries[i].validity = .empty then [(.peerJoined, i.val + 1, b.stateCode)]
      else if s.roster.entries[i].tally.uid ≠ b.uid then [(.peerReplaced, i.val + 1, b.stateCode)]
      else if s.roster.entries[i].validity = .stale then [(.peerReturned, i.val + 1, b.stateCode)]
      else [] := by
  unfold arrivalRecords arrivalKind
  generalize s.roster.entries[i] = e
  by_cases same : e.tally.uid = b.uid <;> cases e.validity <;> simp [same, stationNumber]

/-- Matching, as R40 says it. -/
theorem matchesSig_iff (b : TallyBody) (own : Word16) :
    b.matchesSig own = true ↔ (b.signature = own ∨ b.stateCode = 0) := by
  simp [TallyBody.matchesSig]

theorem mismatchRecords_eq (i : Station) (b : TallyBody) :
    mismatchRecords i b s =
      if ¬(b.signature = s.loader.signature ∨ b.stateCode = 0) ∧
          ¬(s.roster.entries[i].validity = .excluded ∧ s.roster.entries[i].tally.uid = b.uid) then
        [(.signatureMismatch, i.val + 1, b.stateCode)]
      else [] := by
  have iff := matchesSig_iff b s.loader.signature
  unfold mismatchRecords raisesMismatch
  cases matching : b.matchesSig s.loader.signature <;> rw [matching] at iff <;> simp [standing, stationNumber, ← iff, imp_iff_not_or]

theorem receivedEntry_standing (i : Station) (b : TallyBody) :
    ((b.signature = s.loader.signature ∨ b.stateCode = 0) → (receivedEntry i b s).validity = .live) ∧
      (¬(b.signature = s.loader.signature ∨ b.stateCode = 0) → (receivedEntry i b s).validity = .excluded) := by
  rw [← matchesSig_iff]
  unfold receivedEntry
  cases b.matchesSig s.loader.signature <;> simp [standing]

theorem receivedEntry_snapshot (i : Station) (b : TallyBody) :
    ((b.signature = s.loader.signature ∨ b.stateCode = 0) → s.roster.entries[i].tally.uid = b.uid →
        (s.roster.entries[i].validity = .live ∨ s.roster.entries[i].validity = .stale) →
        (receivedEntry i b s).snapshot = s.roster.entries[i].snapshot) ∧
      (¬((b.signature = s.loader.signature ∨ b.stateCode = 0) ∧ s.roster.entries[i].tally.uid = b.uid ∧
          (s.roster.entries[i].validity = .live ∨ s.roster.entries[i].validity = .stale)) →
        (receivedEntry i b s).snapshot = none) := by
  rw [← matchesSig_iff]
  have kept : keepsSnapshot s.roster.entries[i] b (standing (b.matchesSig s.loader.signature)) = true ↔
      (b.matchesSig s.loader.signature = true ∧ s.roster.entries[i].tally.uid = b.uid ∧
        (s.roster.entries[i].validity = .live ∨ s.roster.entries[i].validity = .stale)) := by
    unfold keepsSnapshot
    cases b.matchesSig s.loader.signature <;> simp [standing]
  exact ⟨fun h k l => if_pos (kept.mpr ⟨h, k, l⟩), fun h => if_neg fun k => h (kept.mp k)⟩

end Sys2Proof.Machine
end

section
/-! The holding report of a TALLY against the own view, after the Roster has acted (R97), and the statement on the TALLY. -/

namespace Sys2Proof.Machine

open Sys2Proof

variable {s t u w : State} {i : Station} {b : TallyBody} {k : Kind}

/-! ## The report by the view (R97) -/

theorem takeReport_frame (i : Station) (b : TallyBody) : changesOnly trainBlocks s (takeReport i b s) := by
  have held : ∀ h, changesOnly trainBlocks s (viewHeld h s) := fun h => (viewHeld_frame h).mono (by decide)
  have withdrawn : ∀ u : State, changesOnly trainBlocks u (withdrawSlot u) := fun u =>
    changesOnly_ite (unstage_frame.mono (by decide)) leaveStart_frame
  unfold takeReport
  split
  · split
    · exact held _
    · exact changesOnly_ite ((slot_frame _).mono (by decide)) (changesOnly_ite (held _) (changesOnly_refl _ _))
    · exact (held _).trans ((raise_frame _ _ _).mono (by decide))
    · exact changesOnly_ite (queueOccupied_frame.mono (by decide))
        (((givesWay_frame _ _ _).mono (by decide)).trans (withdrawn _))
  · split
    · exact changesOnly_ite (viewFree_frame.mono (by decide)) (changesOnly_refl _ _)
    · exact changesOnly_refl _ _

theorem takeReport_of_free (kind : kindOf b.slotKind = some k) (holds : b.holdsSlot = true) (view : s.slot.view = .free) :
    takeReport i b s = viewHeld (reportedView i b.uid k b.slotRemaining s) s := by
  simp only [takeReport, kind, holds, view]

theorem takeReport_of_held {h : HeldView} (kind : kindOf b.slotKind = some k) (holds : b.holdsSlot = true)
    (view : s.slot.view = .held h) :
    takeReport i b s =
      if h.station = i then refreshHeld h k b.slotRemaining s
      else if i < h.station then viewHeld (reportedView i b.uid k b.slotRemaining s) s
      else s := by
  simp only [takeReport, kind, holds, view]

theorem takeReport_of_pending {q : PendingView} (kind : kindOf b.slotKind = some k) (holds : b.holdsSlot = true)
    (view : s.slot.view = .ownPending q) :
    takeReport i b s = loseClaim q i (reportedView i b.uid k b.slotRemaining s) s := by
  simp only [takeReport, kind, holds, view]

theorem takeReport_of_holder {own : Kind} {hold : Timer} (kind : kindOf b.slotKind = some k) (holds : b.holdsSlot = true)
    (view : s.slot.view = .ownHeld own hold) : takeReport i b s = twoHolders own i b.uid k b.slotRemaining s := by
  simp only [takeReport, kind, holds, view]

/-- A TALLY without a holding frees the view HELD by its sender, the claim grace over, and does no more. -/
theorem takeReport_of_none (holds : b.holdsSlot = false) :
    takeReport i b s =
      match s.slot.view with
      | .held h => if h.station = i ∧ h.grace = none then viewFree s else s
      | _ => s := by
  unfold takeReport
  rw [holds]
  split
  · next reports => cases reports
  · rfl

theorem reportedView_congr (time : u.time = s.time) (loader : u.loader = s.loader) (uid : UnitId) (r : Nat) :
    reportedView i uid k r u = reportedView i uid k r s := by
  have span : u.tS = s.tS := by rw [State.tS, State.tS, loader]
  rw [reportedView, reportedView, reportExpiry, reportExpiry, time, span]

/-- A FREE view or a claim takes the holder reported, and no BID is left. -/
theorem takeReport_of_claims (kind : kindOf b.slotKind = some k) (holds : b.holdsSlot = true)
    (view : (∃ q, s.slot.view = .ownPending q) ∨ (s.slot.view = .free ∧ s.line.set.bid = none)) :
    (takeReport i b s).slot = { s.slot with view := .held (reportedView i b.uid k b.slotRemaining s), gap := none } ∧
      (takeReport i b s).line.set.bid = none := by
  rcases view with ⟨q, view⟩ | ⟨view, bid⟩
  · rw [takeReport_of_pending kind holds view]
    exact ⟨rfl, viewHeld_bid_of_own (reportedView i b.uid k b.slotRemaining s) (by rw [view]; rfl)⟩
  · rw [takeReport_of_free kind holds view]
    refine ⟨rfl, ?_⟩
    show (lineLeaving s.slot.view s.line).set.bid = none
    rw [lineLeaving_of_not_own _ (by rw [view]; rfl)]
    exact bid

/-! ## The state in which the report is taken -/

/-- What the Roster's part of a TALLY leaves for the report: the claims as the minority test leaves them, and slot and
train as they were where the flag stays. -/
structure RosterActed (s u : State) : Prop where
  ident : u.ident = s.ident
  loader : u.loader = s.loader
  conflict : u.sequencer.conflict = s.sequencer.conflict
  logged : Logged s u
  follows : ClaimsFollow s u
  same : u.roster.minority = s.roster.minority → u.slot = s.slot ∧ u.sequencer = s.sequencer

theorem takeTally_rosterActed (i : Station) (b : TallyBody) : RosterActed s (takeTally i b s) := by
  have step : OffPort s (takeTally i b s) := takeTally_offPort i b
  have entered : changesOnly [.roster, .lport, .queue] s (tallyEntered i b s) := tallyEntered_frame i b
  have minority : (tallyEntered i b s).roster.minority = s.roster.minority := by rw [tallyEntered_roster]; rfl
  refine ⟨step.frame .ident (by decide), step.loader, step.mark, step.logged, ?_, fun same => ?_⟩
  · rw [takeTally_eq]
    exact (rosterChanged_claimsFollow _).rebase (entered .slot (by decide)) (by rw [entered .sequencer (by decide)])
      (entered .ident (by decide))
  · rw [takeTally_eq] at same ⊢
    rw [rosterChanged_of_same _ (same.trans minority.symm)]
    have frame := entered.mono (bs := [.demand, .roster, .lport, .queue]) (by decide)
    have level : changesOnly [.demand, .roster, .lport, .queue] (tallyEntered i b s) (judgeLevel (tallyEntered i b s)) :=
      judgeLevel_frame.mono (by decide)
    exact ⟨(frame.trans level) .slot (by decide), (frame.trans level) .sequencer (by decide)⟩

section
variable (acted : RosterActed s u) (kind : kindOf b.slotKind = some k) (holds : b.holdsSlot = true)
include acted kind holds

theorem report_of_free (view : s.slot.view = .free) :
    (takeReport i b u).slot.view = .held (reportedView i b.uid k b.slotRemaining s) ∧ (takeReport i b u).slot.gap = none := by
  rw [← reportedView_congr acted.logged.time acted.loader]
  rcases acted.follows.free view with same | ⟨q, claims⟩
  · rw [takeReport_of_free kind holds (by rw [same]; exact view)]
    exact ⟨rfl, rfl⟩
  · rw [takeReport_of_pending kind holds claims]
    exact ⟨rfl, rfl⟩

theorem report_of_held {h : HeldView} (view : s.slot.view = .held h) :
    (h.station = i → (takeReport i b u).slot.view =
        .held { h with kind := k, grace := none, expiry := reportExpiry b.slotRemaining s }) ∧
      (i < h.station → (takeReport i b u).slot.view = .held (reportedView i b.uid k b.slotRemaining s)) ∧
      (h.station < i → (takeReport i b u).slot = s.slot) := by
  have slot := acted.follows.held h view
  rw [takeReport_of_held kind holds (by rw [slot]; exact view),
    ← reportedView_congr acted.logged.time acted.loader]
  refine ⟨fun same => ?_, fun lower => ?_, fun higher => ?_⟩
  · have expiry : reportExpiry b.slotRemaining u = reportExpiry b.slotRemaining s :=
      congrArg HeldView.expiry (reportedView_congr (i := i) (k := k) acted.logged.time acted.loader b.uid b.slotRemaining)
    rw [if_pos same, ← expiry]
    rfl
  · rw [if_neg (Fin.ne_of_gt lower), if_pos lower]
    rfl
  · rw [if_neg (Fin.ne_of_lt higher), if_neg (Fin.not_lt.mpr (Fin.le_of_lt higher))]
    exact slot

theorem report_of_pending {q : PendingView} (view : s.slot.view = .ownPending q) :
    (takeReport i b u).slot.view = .held (reportedView i b.uid k b.slotRemaining s) ∧
      (takeReport i b u).line.set.bid = none ∧
      (u.roster.minority = s.roster.minority →
        (takeReport i b u).sequencer = s.sequencer ∧ raisedWithin (.slotLost, i.val + 1, q.intent.code) s (takeReport i b u)) := by
  rw [← reportedView_congr acted.logged.time acted.loader]
  obtain ⟨slot, bid⟩ := takeReport_of_claims (i := i) kind holds (acted.follows.pending q view)
  refine ⟨congrArg Slot.view slot, bid, fun same => ?_⟩
  obtain ⟨kept, sequencer⟩ := acted.same same
  have loses := takeReport_of_pending (i := i) kind holds (s := u) (by rw [kept]; exact view)
  rw [loses]
  refine ⟨sequencer, raisedWithin_of_logged acted.logged (g := loseClaim q i _ u) ⟨rfl, ?_⟩ (Logged.of_eq rfl rfl rfl)⟩
  exact loseClaim_queue q i _

theorem report_of_holder_lower {own : Kind} {hold : Timer} (view : s.slot.view = .ownHeld own hold)
    (clear : s.sequencer.conflict = false) (lower : i < s.ident.station) :
    (takeReport i b u).slot.view = .held (reportedView i b.uid k b.slotRemaining s) ∧
      (takeReport i b u).line.set.yield = some { uid := s.ident.uid, outcome := .aborted, kind := own } ∧
      (takeReport i b u).sequencer.train.isStarting = false ∧
      (u.roster.minority = s.roster.minority → raisedWithin (.slotLost, i.val + 1, own.code) s (takeReport i b u)) := by
  rw [← reportedView_congr acted.logged.time acted.loader]
  rcases acted.follows.holder own hold view with same | ⟨free, yields, start, -⟩
  · have yields : takeReport i b u = withdrawSlot (givesWay own i (reportedView i b.uid k b.slotRemaining u) u) :=
      (takeReport_of_holder kind holds (by rw [same]; exact view)).trans
        (twoHolders_of_higher (by rw [acted.ident]; exact lower))
    have claims := withdrawSlot_claims (s := givesWay own i (reportedView i b.uid k b.slotRemaining u) u)
    rw [yields]
    refine ⟨?_, ?_, withdrawSlot_not_starting, fun _ => ?_⟩
    · rw [claims.slot, givesWay_slot]
    · rw [claims.line, givesWay_yield _ _ _ (acted.conflict.trans clear), acted.ident]
    · exact raisedWithin_of_logged acted.logged (givesWay_records ..) withdrawSlot_logged
  · have takes := takeReport_of_free (i := i) kind holds free
    rw [takes]
    refine ⟨rfl, ?_, start, fun flag => ?_⟩
    · show (lineLeaving u.slot.view u.line).set.yield = _
      rw [lineLeaving_of_not_own _ (by rw [free]; rfl)]
      exact yields clear
    · have kept := (acted.same flag).1
      rw [kept, view] at free
      cases free

theorem report_of_holder_higher {own : Kind} {hold : Timer} (view : s.slot.view = .ownHeld own hold)
    (clear : s.sequencer.conflict = false) (higher : s.ident.station < i) (flag : u.roster.minority = s.roster.minority) :
    (takeReport i b u).slot = s.slot ∧ (takeReport i b u).sequencer = s.sequencer ∧
      (takeReport i b u).line.set.occupied =
        some { uid := s.ident.uid, station := s.own, kind := own, remaining := timerLeft (some hold) s.time } := by
  obtain ⟨slot, sequencer⟩ := acted.same flag
  have answers : takeReport i b u = queueOccupied u :=
    (takeReport_of_holder kind holds (by rw [slot]; exact view)).trans (twoHolders_of_lower (by rw [acted.ident]; exact higher))
  rw [answers, queueOccupied_slot, queueOccupied_frame .sequencer (by decide),
    queueOccupied_of_held (by rw [slot]; exact view) (acted.conflict.trans clear), acted.ident, acted.logged.time,
    own_congr acted.ident]
  exact ⟨slot, sequencer, rfl⟩

end

/-- A TALLY without a holding, by the view. -/
theorem report_of_none (acted : RosterActed s u) (holds : b.holdsSlot = false) :
    (∀ h, s.slot.view = .held h →
      (h.station = i → h.grace = none →
        (takeReport i b u).slot.view = .free ∧ (takeReport i b u).slot.gap = s.gapStarted) ∧
      (h.station ≠ i ∨ h.grace ≠ none → (takeReport i b u).slot = s.slot)) ∧
    ((∀ h, s.slot.view ≠ .held h) → u.roster.minority = s.roster.minority → (takeReport i b u).slot = s.slot) := by
  rw [takeReport_of_none holds]
  refine ⟨fun h view => ?_, fun other flag => ?_⟩
  · have slot := acted.follows.held h view
    have here : u.slot.view = .held h := by rw [slot]; exact view
    simp only [here]
    refine ⟨fun same passed => ?_, fun other => ?_⟩
    · rw [if_pos ⟨same, passed⟩]
      exact ⟨rfl, gapStarted_congr acted.loader acted.logged.time⟩
    · rw [if_neg fun both => other.elim (fun k => k both.1) fun k => k both.2]
      exact slot
  · obtain ⟨slot, -⟩ := acted.same flag
    split
    · next h view =>
      rw [slot] at view
      exact absurd view (other h)
    · exact slot

/-! ## The records of the taking -/

/-- Records raised first, and what follows them. -/
theorem Records.more {l : List (EventKind × Nat × Nat)} (h : Records l s u) (after : Logged u t) :
    ∃ more, t.queue = s.queueAfter (l ++ more) := by
  obtain ⟨more, records⟩ := after.records_of
  exact ⟨more, (h.trans records).queue⟩

theorem Records.thenWithin {l : List (EventKind × Nat × Nat)} {r : EventKind × Nat × Nat} (h : Records l s u)
    (raised : raisedWithin r u t) : ∃ m n, t.queue = s.queueAfter (l ++ m ++ r :: n) := by
  obtain ⟨m, n, queue⟩ := raised
  refine ⟨m, n, queue.trans ?_⟩
  have append : raiseAll (l ++ m ++ r :: n) s = raiseAll (m ++ r :: n) (raiseAll l s) := by simp [raiseAll]
  rw [State.queueAfter, State.queueAfter, append]
  exact raiseAll_queue_congr _ h.queue (h.time.trans (raiseAll_time _).symm)

/-! ## The roster after the taking -/

theorem takeTally_entries (i j : Station) (b : TallyBody) :
    (takeTally i b s).roster.entries[j] = if i = j then receivedEntry i b s else s.roster.entries[j] := by
  rw [takeTally_eq, (rosterChanged_kept _).2, tallyEntered_roster]
  exact setEntry_entries i j _

theorem takeTally_minority (i : Station) (b : TallyBody) :
    (takeTally i b s).roster.minority =
      if !decide ((receivedEntry i b s).validity = s.roster.entries[i].validity) && s.configured then
        (takeTally i b s).inMinority
      else s.roster.minority := by
  have entered : changesOnly [.roster, .lport, .queue] s (tallyEntered i b s) := tallyEntered_frame i b
  have step : OffPort s (takeTally i b s) := takeTally_offPort i b
  have configured : (tallyEntered i b s).configured = s.configured := by
    rw [State.configured, State.configured, entered .loader (by decide)]
  have here : (takeTally i b s).inMinority = (tallyEntered i b s).inMinority := by
    refine inMinority_congr ?_ ?_ ?_
    · rw [step.frame .ident (by decide), entered .ident (by decide)]
    · rw [step.loader, entered .loader (by decide)]
    · rw [takeTally_eq, (rosterChanged_kept _).2]
  rw [here, ← configured]
  conv_lhs => rw [takeTally_eq, rosterChanged_minority]
  rw [show (tallyEntered i b s).roster.minority = s.roster.minority by rw [tallyEntered_roster]; rfl]
  rfl

/-! ## The statement -/

/-- A state that differs in its line alone is as good a beginning for what the Roster has done. -/
theorem RosterActed.withLine {l : Line} (h : RosterActed (s.withLine l) u) : RosterActed s u where
  ident := h.ident
  loader := h.loader
  conflict := h.conflict
  logged := (Logged.of_eq rfl rfl rfl : Logged s (s.withLine l)).trans h.logged
  follows := h.follows.rebase rfl rfl rfl
  same := h.same

theorem takeReport_logged (i : Station) (b : TallyBody) : Logged s (takeReport i b s) := (takeReport_offPort i b).logged

theorem takeReport_roster (i : Station) (b : TallyBody) : (takeReport i b s).roster = s.roster :=
  takeReport_frame i b .roster (by decide)

/-- The records of a TALLY taken, the report's after the Roster's. -/
theorem tallyTaken_records (i : Station) (b : TallyBody) :
    (∃ more, (takeReport i b (takeTally i b s)).queue = s.queueAfter (arrivalRecords i b s ++ mismatchRecords i b s ++ more)) ∧
      ((takeTally i b s).roster.minority ≠ s.roster.minority → ∃ m n,
        (takeReport i b (takeTally i b s)).queue =
          s.queueAfter (arrivalRecords i b s ++ mismatchRecords i b s ++ m ++
            (.minority, s.own, if (takeTally i b s).roster.minority then 1 else 0) :: n)) := by
  have records := tallyEntered_records (s := s) i b
  have entered : changesOnly [.roster, .lport, .queue] s (tallyEntered i b s) := tallyEntered_frame i b
  have flag : (tallyEntered i b s).roster.minority = s.roster.minority := by rw [tallyEntered_roster]; rfl
  refine ⟨records.more ?_, fun moved => records.thenWithin ?_⟩
  · rw [takeTally_eq]
    exact (rosterChanged_offPort _).logged.trans (takeReport_logged i b)
  · rw [takeTally_eq] at moved ⊢
    have raised := rosterChanged_raises (s := tallyEntered i b s) _ (fun e => moved (e.trans flag))
    rw [own_congr (entered .ident (by decide))] at raised
    exact raised.mono (rosterChanged_offPort _).logged.time (takeReport_logged i b)

/-- The minority flag that a TALLY leaves, in the words of R56. -/
theorem tallyTaken_minority (acted : RosterActed s u) (roster : t.roster = u.roster) (ident : t.ident = u.ident)
    (loader : t.loader = u.loader)
    (flag : u.roster.minority =
      if !decide ((receivedEntry i b s).validity = s.roster.entries[i].validity) && s.configured then u.inMinority
      else s.roster.minority) :
    ((receivedEntry i b s).validity = s.roster.entries[i].validity ∨ s.configured = false →
        t.roster.minority = s.roster.minority) ∧
      ((receivedEntry i b s).validity ≠ s.roster.entries[i].validity → s.configured = true →
        t.roster.minority = decide
          ((stations.filter fun j => decide ((t.entry j).validity = .live) &&
              decide ((t.entry j).tally.signature = s.loader.signature)).length <
            (stations.filter fun j => decide ((t.entry j).validity = .excluded)).length)) := by
  rw [roster, flag]
  refine ⟨fun stays => if_neg ?_, fun changed configured => ?_⟩
  · rcases stays with same | without
    · simp [same]
    · simp [without]
  · rw [if_pos (by rw [configured, decide_eq_false changed]; rfl), ← inMinority_congr ident loader (by rw [roster]), State.inMinority,
      State.minorityM, State.minorityD, loader, acted.loader]
    rfl

/-- Settles O37: a body out of range is counted; one in range enters, the minority test follows, and the report acts by
the view that is then there. -/
theorem tallyIsTakenIntoItsEntry : Obligations.TallyIsTakenIntoItsEntry := by
  intro rx f s accepted cls ended foreign b e matching x arrival mismatch expiry
  obtain ⟨l, err, run⟩ := receive_foreign accepted ended foreign
  rw [handOnForeign_tally cls] at run
  cases inRange : b.inRange with
  | false =>
    rw [if_neg (by rw [show (tallyOf f.body).inRange = false from inRange]; exact Bool.false_ne_true)] at run
    have roster : (finish s (countRxError (s.withLine l))).roster = s.roster := finish_roster s
    refine ⟨_, run, fun j _ => by rw [roster], finish_loader s, fun _ => ⟨roster, ?_, ?_⟩, fun k => (nomatch k)⟩
    · have line : (finish s (countRxError (s.withLine l))).line = { l with rxErr := satInc 255 l.rxErr } :=
        finish_line_of_slot_kept (s := countRxError (s.withLine l)) rfl
      rw [line, satInc_eq_min, err]
    · exact finish_changes (((withLine_frame l).trans (line_frame _)).mono (by decide)) rfl (fun _ => id) (by decide)
  | true =>
    rw [if_pos (show (tallyOf f.body).inRange = true from inRange)] at run
    have acted : RosterActed s (takeTally f.station b (s.withLine l)) := (takeTally_rosterActed f.station b).withLine
    have entry : ∀ j, (takeTally f.station b (s.withLine l)).roster.entries[j] =
        if f.station = j then receivedEntry f.station b s else s.roster.entries[j] := fun j => takeTally_entries f.station j b
    have flag := takeTally_minority (s := s.withLine l) f.station b
    obtain ⟨records, raises⟩ := tallyTaken_records (s := s.withLine l) f.station b
    have rxErr : (takeReport f.station b (takeTally f.station b (s.withLine l))).line.rxErr = s.line.rxErr :=
      (((takeTally_lineKept _ _).trans (takeReport_lineKept _ _)).rxErr).trans err
    generalize takeTally f.station b (s.withLine l) = u at *
    have roster : (finish s (takeReport f.station b u)).roster = u.roster := (finish_roster s).trans (takeReport_roster _ _)
    have own := (entry f.station).trans (if_pos rfl)
    obtain ⟨live, excluded⟩ := receivedEntry_standing (s := s) f.station b
    obtain ⟨keeps, drops⟩ := receivedEntry_snapshot (s := s) f.station b
    obtain ⟨stays, tested⟩ := tallyTaken_minority (t := finish s (takeReport f.station b u)) acted roster
      ((finish_ident s).trans (takeReport_frame _ _ .ident (by decide)))
      ((finish_loader s).trans (takeReport_frame _ _ .loader (by decide))) flag
    have arrival_eq : arrival = arrivalRecords f.station b s := (arrivalRecords_eq f.station b).symm
    have mismatch_eq : mismatch = mismatchRecords f.station b s := (mismatchRecords_eq f.station b).symm
    rw [arrival_eq, mismatch_eq]
    refine ⟨_, run, fun j other => ?_, ?_, fun k => (nomatch k), fun _ => ?_⟩
    · rw [show (finish s (takeReport f.station (tallyOf f.body) u)).roster = u.roster from roster, entry, if_neg other.symm]
    · exact (finish_loader s).trans ((takeReport_frame _ _ .loader (by decide)).trans acted.loader)
    rw [show (finish s (takeReport f.station (tallyOf f.body) u)).roster = u.roster from roster, own, finish_slot,
      finish_sequencer, finish_queue, (finish_set s).1, (finish_set s).2.1, (finish_set s).2.2]
    rw [roster] at stays tested
    refine ⟨?_, rfl, rfl, live, excluded, keeps, drops, ?_, stays, tested, ?_, fun k holds kind => ?_, fun holds => ?_⟩
    · exact (finish_lineKept s).rxErr.trans rxErr
    · obtain ⟨more, queue⟩ := records
      exact ⟨more, queue.trans (raiseAll_queue_congr _ rfl rfl)⟩
    · intro moved
      obtain ⟨m, n, queue⟩ := raises moved
      exact ⟨m, n, queue.trans (raiseAll_queue_congr _ rfl rfl)⟩
    · have atEnd : ∀ r, raisedWithin r s (takeReport f.station b u) → raisedWithin r s (finish s (takeReport f.station b u)) :=
        fun r ⟨m, n, queue⟩ => ⟨m, n, (finish_queue s).trans queue⟩
      refine ⟨report_of_free acted kind holds, fun h view => report_of_held acted kind holds view, fun q view => ?_,
        fun own hold view clear => ⟨fun lower => ?_, fun higher flag => report_of_holder_higher acted kind holds view clear higher flag⟩⟩
      · obtain ⟨taken, bid, same⟩ := report_of_pending acted kind holds view
        exact ⟨taken, bid, fun flag => ⟨(same flag).1, atEnd _ (same flag).2⟩⟩
      · obtain ⟨taken, yield, start, same⟩ := report_of_holder_lower acted kind holds view clear lower
        exact ⟨taken, yield, start, fun flag => atEnd _ (same flag)⟩
    · exact report_of_none acted holds

end Sys2Proof.Machine
end

section
/-! The port's own part of a completed transaction: the bytes driven, the word read and what it stores, the pointer, a
mismatched identity, a completed write and the pace (R177 to R187). -/

namespace Sys2Proof.Machine

open Sys2Proof

variable {s t u : State} {n c : Channel} {st : PortSettings} {w : Word16}

/-! ## Bytes and words (R108, R177) -/

theorem wordOfBytes_toNat (low high : Byte) : (wordOfBytes low high).toNat = low.toNat + 256 * high.toNat := by
  have fits : low.toNat < 2 ^ 8 := low.isLt
  rw [wordOfBytes, BitVec.toNat_append, ← Nat.shiftLeft_add_eq_or_of_lt fits, Nat.shiftLeft_eq]
  omega

theorem valveWord_eq (v : Valve) :
    v.word = BitVec.ofNat 8
      ((if v.feed then 1 else 0) + (if v.dump then 2 else 0) + (if v.flush then 4 else 0) + (if v.run then 8 else 0)) := by
  obtain ⟨feed, dump, flush, run⟩ := v
  have twice : ∀ b : Bool, 2 * flagNat b = if b then 2 else 0 := fun b => by cases b <;> rfl
  have four : ∀ b : Bool, 4 * flagNat b = if b then 4 else 0 := fun b => by cases b <;> rfl
  have eight : ∀ b : Bool, 8 * flagNat b = if b then 8 else 0 := fun b => by cases b <;> rfl
  rw [Valve.word, ← twice, ← four, ← eight]
  simp only [packFlags]
  congr 1
  rw [show (if feed = true then 1 else 0) = flagNat feed from rfl]
  omega

theorem speedBytes_eq (v : Nat) : (beBytes 2 v).reverse = [BitVec.ofNat 8 (v % 256), BitVec.ofNat 8 (v / 256)] := by
  have low : BitVec.ofNat 8 v = BitVec.ofNat 8 (v % 256) := BitVec.eq_of_toNat_eq (by simp)
  simp [beBytes, low]

/-- The bytes of the transaction in flight, by its kind. -/
theorem portBytes_eq {x : Txn} (flight : s.port.state = .inTransaction x) :
    s.portBytes = x.kind.address :: x.kind.written := by
  simp only [State.portBytes, flight, PortState.inFlight]

/-! ## A state with another port -/

/-- A state with another Train Port. -/
def State.withPort (q : Port) (s : State) : State := { s with port := q }

theorem withPort_frame (q : Port) : changesOnly [.port] s (s.withPort q) := port_frame q

theorem finish_port (before : State) :
    (finish before s).port =
      { s.port with
        state := (finish before s).port.state, pendValve := (finish before s).port.pendValve,
        pendSpeed := (finish before s).port.pendSpeed, pace := (finish before s).port.pace } := by
  unfold finish
  split
  · exact arbitrate_port
  · rw [arbitrate_port, recomposeTally_frame .port (by decide)]

/-! ## The word stored (R184 to R187) -/

theorem ChannelEntry.after_value (e : ChannelEntry) (now : Nat) (v : Option Nat) : (e.after now v).value = v.getD e.value := by
  cases v <;> rfl

theorem ChannelEntry.after_valid (e : ChannelEntry) (now : Nat) (v : Option Nat) :
    (e.after now v).invalidSince.isNone = v.isSome := by
  cases v with
  | none => exact e.after_none_invalid now
  | some => rfl

/-- The port after a read that named channel `n` has stored a judged word to channel `c`. -/
def sampledPort (n c : Channel) (v : Option Nat) (s : State) : Port :=
  { s.port with
    channels := s.port.channels.set c (s.port.channels[c].after s.time v)
    state := .idle, errors := 0, pendRead := some n
    pointer := nextEnabled s.portSettings.mask s.port.pointer }

theorem sampledPort_channels (n c d : Channel) (v : Option Nat) :
    (sampledPort n c v s).channels[d] = if c = d then s.port.channels[c].after s.time v else s.port.channels[d] := by
  show (s.port.channels.set c.val (s.port.channels[c].after s.time v) c.isLt)[d.val] = _
  rw [Vector.getElem_set]
  by_cases h : c = d
  · subst h; simp
  · rw [if_neg h, if_neg fun k => h (Fin.ext k)]
    rfl

theorem sampled_chan (n c : Channel) (v : Option Nat) :
    (s.withPort (sampledPort n c v s)).chan c = v.getD (s.chan c) ∧
      (s.withPort (sampledPort n c v s)).chanValid c = v.isSome := by
  have entry : (sampledPort n c v s).channels[c] = s.port.channels[c].after s.time v :=
    (sampledPort_channels n c c v).trans (if_pos rfl)
  constructor
  · show (sampledPort n c v s).channels[c].value = _
    rw [entry, ChannelEntry.after_value]
    rfl
  · show (sampledPort n c v s).channels[c].invalidSince.isNone = _
    rw [entry, ChannelEntry.after_valid]

theorem takeWord_of_priming (first : s.port.pendRead = none) : takeWord n st w s = readDone n s := by
  simp only [takeWord, first]

theorem takeWord_of_sample (read : s.port.pendRead = some c) (accepted : c = 7 → judgeWord st c w ≠ none) :
    takeWord n st w s =
      handSample c (judgeWord st c w).isSome (s.withPort (sampledPort n c (judgeWord st c w) s)) := by
  simp only [takeWord, read]
  exact if_neg fun k => accepted k.1 k.2

theorem takeWord_of_mismatch (read : s.port.pendRead = some 7) (mismatch : judgeWord st 7 w = none) :
    takeWord n st w s =
      portError (.read n) (setChannel 7 (s.port.channels[(7 : Channel)].after s.time none) s) := by
  simp only [takeWord, read, mismatch]
  rfl

theorem judgeWord_unscaled (low : c.val < 6) (unscaled : st.scaling = none) : judgeWord st c w = none := by
  rw [judgeWord, dif_pos low, unscaled]

theorem judgeWord_scaled {v : Vector Scaling 6} (low : c.val < 6) (scaled : st.scaling = some v) :
    judgeWord st c w =
      if v[c.val].underCode ≤ w.toNat ∧ w.toNat ≤ v[c.val].overCode then some (scaleCode v[c.val] w.toNat) else none := by
  rw [judgeWord, dif_pos low, scaled]

theorem judgeWord_drive : judgeWord st 6 w = some w.toNat := rfl

theorem judgeWord_unidentified (free : st.identity = none) : judgeWord st 7 w = some w.toNat := by
  simp only [judgeWord, free]
  rfl

theorem judgeWord_identity {id : Word16} (identity : st.identity = some id) :
    judgeWord st 7 w = if id = w then some w.toNat else none := by
  simp only [judgeWord, identity]
  rfl

/-- The scaled value, in the words of R184: between two values that are not negative, so nothing is lost. -/
theorem scaleCode_eq (k : Scaling) (code : Nat) :
    (scaleCode k code : Int) =
      let lo : Int := k.lo
      let hi : Int := k.hi
      let scaled : Int := lo + (((code : Int) - k.codeLo) * (hi - lo)).tdiv ((k.codeHi : Int) - k.codeLo)
      if scaled < lo then lo else if hi < scaled then hi else scaled := by
  unfold scaleCode clampInt
  dsimp only
  generalize (k.lo : Int) + _ = scaled
  split
  · omega
  · split <;> omega

/-! ## A read that has stored its sample -/

/-- What the port stands at after a sample has been stored and handed on. -/
structure SampleStored (n c : Channel) (v : Option Nat) (s t : State) : Prop where
  frame : changesOnly
    [.demand, .capability, .staging, .slot, .sequencer, .trim, .protection, .line, .port, .lport, .queue] s t
  chan : t.chan c = v.getD (s.chan c)
  valid : t.chanValid c = v.isSome
  others : ∀ d : Channel, d ≠ c → t.port.channels[d] = s.port.channels[d]
  errors : t.port.errors = 0
  pendRead : t.port.pendRead = some n
  pointer : t.port.pointer = nextEnabled s.portSettings.mask s.port.pointer

theorem chan_congr (h : t.port.channels = s.port.channels) : t.chan = s.chan := by
  unfold State.chan
  rw [h]

theorem chanValid_congr (h : t.port.channels = s.port.channels) : t.chanValid = s.chanValid := by
  unfold State.chanValid
  rw [h]

/-- The sample handed on, at the end of the taking. -/
def sampleTaken (n c : Channel) (v : Option Nat) (s : State) : State :=
  finish s (handSample c v.isSome (s.withPort (sampledPort n c v s)))

theorem sampleTaken_channels (n c : Channel) (v : Option Nat) :
    (sampleTaken n c v s).port.channels = (sampledPort n c v s).channels := by
  rw [sampleTaken, finish_channels, (handSample_offPort c v.isSome).channels]
  rfl

theorem settleWatch_frame (p : Params) (flow : Nat) : changesOnly [.trim] s (settleWatch p flow s) :=
  changesOnly_ite (trim_frame _) (trim_frame _)

theorem saturationWatch_frame (p : Params) (e : Int) : changesOnly [.trim] s (saturationWatch p e s) :=
  changesOnly_ite (trim_frame _) (trim_frame _)

theorem rampStep_frame (p : Params) : changesOnly [.trim, .port] s (rampStep p s) :=
  ((trim_frame _).mono (by decide)).trans (setSpeed_frame _)

theorem trimSample_frame (valid : Bool) :
    changesOnly [.capability, .staging, .trim, .port, .lport, .queue] s (trimSample valid s) := by
  unfold trimSample
  split
  · exact changesOnly_refl _ _
  · split
    · exact changesOnly_refl _ _
    · exact (rampStep_frame _).mono (by decide)
    · exact changesOnly_ite ((trimUpdate_frame _ _).mono (by decide)) (changesOnly_refl _ _)
    · split
      · refine changesOnly.trans ?_ ((saturationWatch_frame _ _).mono (by decide))
        refine changesOnly.trans ?_ ((settleWatch_frame _ _).mono (by decide))
        exact changesOnly_ite (((trimUpdate_frame _ _).mono (by decide)).trans (clearCap_frame.mono (by decide)))
          ((trimUpdate_frame _ _).mono (by decide))
      · exact (trim_frame _).mono (by decide)

theorem handSample_frame (c : Channel) (valid : Bool) :
    changesOnly [.demand, .capability, .staging, .slot, .sequencer, .trim, .protection, .line, .port, .lport, .queue] s
      (handSample c valid s) := by
  have none (u : State) := changesOnly_refl
    [.demand, .capability, .staging, .slot, .sequencer, .trim, .protection, .line, .port, .lport, .queue] u
  unfold handSample
  split
  · exact changesOnly_ite (judgeLowSuction_frame.mono (by decide)) (none s)
  · have flow := ((trimSample_frame (s := s) valid).mono (bs := .demand :: trainBlocks) (by decide)).trans
      (rampArrived_frame.mono (by decide))
    have tested := flow.trans (pressurizeTest_frame.mono (by decide))
    exact ((changesOnly_ite (tested.trans (integrate_frame.mono (by decide))) flow).trans
      (judgeInstrument_frame.mono (by decide))).mono (by decide)
  · exact changesOnly_ite ((qualitySample_frame.mono (by decide)).trans ((divertQuality_frame.mono (by decide)).trans
      (judgeQualityTrip_frame.mono (by decide)))) ((sequencer_frame _).mono (by decide))
  · exact changesOnly_ite (temperatureSample_frame.mono (by decide)) (none s)
  · exact judgeLevel_frame.mono (by decide)
  · exact changesOnly_ite ((pressureSample_frame.mono (by decide)).trans ((pressurizeTest_frame.mono (by decide)).trans
      (judgeHighPressure_frame.mono (by decide)))) (none s)
  · exact changesOnly_ite ((unloadTest_frame.mono (by decide)).trans (judgeDriveFault_frame.mono (by decide))) (none s)
  · exact none s

theorem sampleTaken_stored (n c : Channel) (v : Option Nat) : SampleStored n c v s (sampleTaken n c v s) := by
  have channels := sampleTaken_channels (s := s) n c v
  obtain ⟨chan, valid⟩ := sampled_chan (s := s) n c v
  have port := (handSample_offPort (s := s.withPort (sampledPort n c v s)) c v.isSome).port
  have ended := finish_port (s := handSample c v.isSome (s.withPort (sampledPort n c v s))) s
  rw [port] at ended
  refine ⟨?_, ?_, ?_, fun d other => ?_, ?_, ?_, ?_⟩
  · exact (((withPort_frame _).mono (by decide)).trans (handSample_frame c _)).trans ((finish_frame s).mono (by decide))
  · rw [← chan, chan_congr (t := sampleTaken n c v s) (s := s.withPort (sampledPort n c v s)) channels]
  · rw [← valid, chanValid_congr (t := sampleTaken n c v s) (s := s.withPort (sampledPort n c v s)) channels]
  · rw [channels, sampledPort_channels, if_neg other.symm]
  all_goals
    rw [sampleTaken, ended]
    rfl

theorem exec_readComplete {x : Txn} (flight : s.port.state = .inTransaction x) (reads : x.kind = .read n) :
    exec (.readComplete w) s = .next (finish s (takeWord n x.settings w s)) := by
  obtain ⟨kind, settings⟩ := x
  cases reads
  simp only [exec, execReadComplete, flight]

theorem sample_taken (read : s.port.pendRead = some c) (accepted : c = 7 → judgeWord st c w ≠ none) :
    finish s (takeWord n st w s) = sampleTaken n c (judgeWord st c w) s := by
  rw [takeWord_of_sample read accepted]
  rfl

/-! ## A priming read, a mismatch, a write, the pace (R178, R179, R187) -/

theorem primed (first : s.port.pendRead = none) :
    let t := finish s (takeWord n st w s)
    changesOnly [.port] s t ∧ t.port.errors = 0 ∧ t.port.pendRead = some n ∧ t.port.channels = s.port.channels ∧
      t.port.pointer = nextEnabled s.portSettings.mask s.port.pointer := by
  have ended := finish_port (s := readDone n s) s
  rw [takeWord_of_priming first]
  refine ⟨finish_changes (port_frame _) rfl (fun _ => id) (by decide), ?_, ?_, ?_, ?_⟩
  all_goals
    rw [ended]
    rfl

/-- The identity word that is not the configured one, stored as no sample and counted as an error. -/
theorem mismatched (read : s.port.pendRead = some 7) (mismatch : judgeWord st 7 w = none) :
    let t := finish s (takeWord n st w s)
    changesOnly [.demand, .capability, .staging, .slot, .sequencer, .trim, .protection, .line, .port, .lport, .queue] s t ∧
      t.chanValid 7 = false ∧ t.chan 7 = s.chan 7 ∧ t.port.pendRead = none ∧ t.port.pointer = s.port.pointer ∧
      t.port.errors = min 255 (s.port.errors + 1) ∧ (s.port.errors < 2 → changesOnly [.port] s t) := by
  have value : (setChannel 7 (s.port.channels[(7 : Channel)].after s.time none) s).port.channels[(7 : Channel)] =
      s.port.channels[(7 : Channel)].after s.time none := by
    exact Vector.getElem_set_self (xs := s.port.channels) (i := 7) (by decide)
  have stored : changesOnly [.port] s (setChannel 7 (s.port.channels[(7 : Channel)].after s.time none) s) := port_frame _
  have errors : (setChannel 7 (s.port.channels[(7 : Channel)].after s.time none) s).port.errors = s.port.errors := rfl
  have pointer : (setChannel 7 (s.port.channels[(7 : Channel)].after s.time none) s).port.pointer = s.port.pointer := rfl
  have slot : (setChannel 7 (s.port.channels[(7 : Channel)].after s.time none) s).slot = s.slot := rfl
  rw [takeWord_of_mismatch read mismatch]
  dsimp only
  have same : ∀ g, finish s g = finish (setChannel 7 (s.port.channels[(7 : Channel)].after s.time none) s) g := fun _ => rfl
  rw [same]
  generalize setChannel 7 (s.port.channels[(7 : Channel)].after s.time none) s = u at *
  by_cases few : s.port.errors < 2
  · have frame := countError_frame (s := u) (.read n)
    have port := countError_port (s := u) (.read n)
    have error : portError (.read n) u = countError (.read n) u := portError_of_few _ (by rw [errors]; omega)
    have ended := finish_port (s := countError (.read n) u) u
    have all : changesOnly [.port] s (finish u (countError (.read n) u)) :=
      stored.trans (finish_changes frame (frame .slot (by decide)) (fun _ => id) (by decide))
    rw [port] at ended
    rw [error]
    refine ⟨all.mono (by decide), ?_, ?_, by rw [ended], by rw [ended]; exact pointer, by rw [ended, errors], fun _ => all⟩
    · rw [State.chanValid, ended, value, ChannelEntry.after_none_invalid]
    · rw [State.chan, ended, value]
      rfl
  · obtain ⟨frame, -, -, count, pendRead, kept, channels, -⟩ :=
      third_error (s := u) (x := { kind := .read n, settings := st }) (by rw [errors]; omega)
    have chan : u.chan 7 = s.chan 7 := (congrArg ChannelEntry.value value).trans rfl
    exact ⟨(stored.mono (by decide)).trans frame, (channels 7).1, (channels 7).2.trans chan, pendRead, kept.trans pointer,
      count.trans (by rw [errors]), fun k => absurd k few⟩

theorem exec_writeComplete {x : Txn} (flight : s.port.state = .inTransaction x) (writes : ∀ n, x.kind ≠ .read n) :
    exec .writeComplete s = .next (arbitrate (s.withPort { s.port with state := .idle, errors := 0 })) := by
  obtain ⟨kind, settings⟩ := x
  have done : finish s (s.withPort { s.port with state := .idle, errors := 0 }) =
      arbitrate (s.withPort { s.port with state := .idle, errors := 0 }) := finish_of_slot_kept rfl
  rw [← done]
  cases kind
  case read m => exact absurd rfl (writes m)
  all_goals
    simp only [exec, execWriteComplete, flight]
    rfl

theorem writeCompleted {x : Txn} (flight : s.port.state = .inTransaction x) (writes : ∀ n, x.kind ≠ .read n) :
    ∃ t, exec .writeComplete s = .next t ∧ changesOnly [.port] s t ∧ t.port.errors = 0 ∧
      t.port.channels = s.port.channels ∧ t.port.pendRead = s.port.pendRead ∧
      (s.port.pendValve = none → s.port.pendSpeed = none → s.port.pace.isSome = true → t.port.state = .idle) ∧
      (∀ v, s.port.pendValve = some v →
        t.port.state = .inTransaction { kind := .valve v, settings := s.portSettings }) := by
  refine ⟨_, exec_writeComplete flight writes, (withPort_frame _).trans arbitrate_frame, ?_, ?_, ?_,
    fun valve speed pace => ?_, fun v waits => ?_⟩
  iterate 3
    rw [arbitrate_port]
    rfl
  · obtain ⟨timer, pace⟩ := Option.isSome_iff_exists.mp pace
    simp [arbitrate, State.withPort, valve, speed, pace]
  · have idle : (s.withPort { s.port with state := .idle, errors := 0 }).port.state = .idle := rfl
    rw [arbitrate_of_valve idle waits]
    rfl

theorem scanPaceExpiry_of_busy {x : Txn} (flight : s.port.state = .inTransaction x) (pace : s.port.pace.isSome = true) :
    exec .scanPaceExpiry s = .next { s with port := { s.port with pace := none } } := by
  obtain ⟨timer, pace⟩ := Option.isSome_iff_exists.mp pace
  simp [exec, execScanPaceExpiry, pace, arbitrate, flight]

theorem scanPaceExpiry_of_idle (idle : s.port.state = .idle) (valve : s.port.pendValve = none)
    (speed : s.port.pendSpeed = none) (pace : s.port.pace.isSome = true) :
    exec .scanPaceExpiry s = .next
      { s with port :=
        { s.port with
          state := .inTransaction { kind := .read s.port.pointer, settings := s.portSettings },
          pace := some { since := s.time, span := s.portSettings.tScan } } } := by
  obtain ⟨timer, pace⟩ := Option.isSome_iff_exists.mp pace
  simp only [exec, execScanPaceExpiry, pace, arbitrate, idle, valve, speed]
  rfl

end Sys2Proof.Machine
end

section
/-! What a sample does in the blocks that use its channel (R185): low suction, the quality class and timers, the
temperature, the level, the pressure class with HIGH_PRESSURE, and the drive. -/

namespace Sys2Proof.Machine

open Sys2Proof

variable {s t u : State} {p : Params} {q : Port} {k : Cause}

/-! ## A sample handed on -/

/-- The taking of a sample of channel `c` that a port holds: handed on as that channel stands, and the end of the
taking. -/
def handed (c : Channel) (q : Port) (s : State) : State :=
  finish s (handSample c ((s.withPort q).chanValid c) (s.withPort q))

theorem handed_channels (c : Channel) (q : Port) : (handed c q s).port.channels = q.channels := by
  rw [handed, finish_channels, (handSample_offPort _ _).channels]
  rfl

theorem handed_chan (c : Channel) (q : Port) : (handed c q s).chan = (s.withPort q).chan := chan_congr (handed_channels c q)

theorem handed_valid (c : Channel) (q : Port) : (handed c q s).chanValid = (s.withPort q).chanValid :=
  chanValid_congr (handed_channels c q)

/-- The frame of a sample that leaves the slot. -/
theorem handed_changes {bs cs : List Block} (frame : changesOnly bs (s.withPort q) t) (slot : t.slot = s.slot) (sub : bs ⊆ cs)
    (port : Block.port ∈ cs) : changesOnly cs s (finish s t) :=
  finish_changes (((withPort_frame q).mono (by simpa using port)).trans (frame.mono sub)) slot (fun _ => id) port

/-! ## Timers that watch a condition -/

theorem watchTimer_eq {c : Prop} [Decidable c] {holds : Bool} (iff : holds = true ↔ c) (now n : Nat) (timer : Option Timer) :
    watchTimer holds now (seconds n) timer = timerWhile c now n timer := by
  unfold watchTimer timerWhile
  by_cases h : c
  · rw [if_pos h, if_pos (iff.mpr h)]
    rfl
  · rw [if_neg h, if_neg fun k => h (iff.mp k)]

theorem judgeLowSuction_protection (params : s.loader.params = some p) :
    (judgeLowSuction s).protection =
      { s.protection with
        lowSuction := timerWhile
          (s.sequencer.valve.run = true ∧ p.port.mask.getLsbD 0 = true ∧ s.chan 0 < p.lowSuctionLimit) s.time p.tLs
          s.protection.lowSuction } := by
  have iff : lowSuctionHolds p s = true ↔
      (s.sequencer.valve.run = true ∧ p.port.mask.getLsbD 0 = true ∧ s.chan 0 < p.lowSuctionLimit) := by
    simp [lowSuctionHolds, and_assoc]
  simp only [judgeLowSuction, params]
  rw [watchTimer_eq iff]

theorem judgeQualityTrip_protection (params : s.loader.params = some p) :
    (judgeQualityTrip s).protection =
      { s.protection with
        qualityTrip := timerWhile (s.sequencer.train = .running ∧ p.kTrip ≤ s.chan 2) s.time p.tQt
          s.protection.qualityTrip } := by
  have iff : (decide (s.sequencer.train = .running) && decide (p.kTrip ≤ s.chan 2)) = true ↔
      (s.sequencer.train = .running ∧ p.kTrip ≤ s.chan 2) := by
    simp
  simp only [judgeQualityTrip, params]
  rw [watchTimer_eq iff]

/-! ## Channel 0 (R152) -/

theorem suction_acts (params : s.loader.params = some p) (q : Port) : suctionSampleActs p s (handed 0 q s) := by
  have chan := handed_chan (s := s) 0 q
  have validity := handed_valid (s := s) 0 q
  unfold suctionSampleActs
  rw [chan, validity]
  cases valid : (s.withPort q).chanValid 0 with
  | false =>
    have stays : handed 0 q s = finish s (s.withPort q) := by rw [handed, valid]; rfl
    rw [stays]
    exact ⟨handed_changes (changesOnly_refl [.protection, .port] _) rfl (by decide) (by decide),
      fun _ => finish_protection s, fun h => (nomatch h)⟩
  | true =>
    have judged : handed 0 q s = finish s (judgeLowSuction (s.withPort q)) := by rw [handed, valid]; rfl
    have frame := judgeLowSuction_frame (s := s.withPort q)
    rw [judged, finish_protection]
    exact ⟨handed_changes frame (frame .slot (by decide)) (by decide) (by decide), fun h => (nomatch h),
      fun _ => judgeLowSuction_protection (s := s.withPort q) params⟩

/-! ## The chain and the class (R22 to R30) -/

theorem capacityFollows.congr {c : Capability} (h : capacityFollows p c s t) (capability : u.capability = t.capability)
    (staging : u.staging = t.staging) : capacityFollows p c s u := ⟨capability.trans h.1, staging.trans h.2⟩

theorem recompute_follows (params : s.loader.params = some p) (c : Capability) :
    capacityFollows p c s (recompute { s with capability := c }) := by
  have params' : ({ s with capability := c } : State).loader.params = some p := params
  refine ⟨recompute_capability params', ?_⟩
  obtain ⟨lower, other⟩ := recompute_staging params'
  by_cases falls : s.sequencer.train = .running ∧ (capacityChain p c.tcf c.temp c.held c.cap).1 < s.staging.sp
  · rw [lower falls.1 falls.2]
    show _ = ({ s.staging with sp := if s.sequencer.train = .running then _ else _ } : Staging)
    rw [if_pos falls.1, Nat.min_eq_right (Nat.le_of_lt falls.2)]
  · rw [other falls]
    show s.staging = ({ s.staging with sp := if s.sequencer.train = .running then _ else _ } : Staging)
    split
    · next running => rw [Nat.min_eq_left (Nat.le_of_not_lt fun lt => falls ⟨running, lt⟩)]
    · rfl

theorem classFollows.congr {quality pressure : Fin 4} (h : classFollows p quality pressure s t)
    (capability : u.capability = t.capability) (staging : u.staging = t.staging) : classFollows p quality pressure s u := by
  unfold classFollows capacityFollows at h ⊢
  rw [capability, staging]
  exact h

/-- New sub-classes compared with the held class. -/
theorem compareRaw_follows (params : s.loader.params = some p) (quality pressure : Fin 4) :
    classFollows p quality pressure s
      (compareRaw { s with capability := { s.capability with qualitySub := quality, pressureSub := pressure } }) := by
  unfold classFollows
  intro c raw
  have compared : compareRaw { s with capability := c } =
      if c.held < raw then
        recompute { s with capability := { c with held := raw, holdTimer := none, fallTarget := none } }
      else if raw = c.held then { s with capability := { c with holdTimer := none, fallTarget := none } }
      else
        match c.holdTimer with
        | none =>
          { s with capability :=
            { c with holdTimer := startTimer s.time (seconds p.classHold), fallTarget := some raw } }
        | some _ => { s with capability := { c with fallTarget := some (maxClass (c.fallTarget.getD raw) raw) } } := by
    simp only [compareRaw, params]
    rfl
  rw [compared]
  refine ⟨fun rises => ?_, fun same => ?_, fun falls runs => ?_, fun falls f runs target => ?_⟩
  · rw [if_pos rises]
    exact recompute_follows params _
  · rw [if_neg (by rw [same]; exact lt_irrefl _), if_pos same]
    exact ⟨rfl, rfl⟩
  · rw [if_neg (lt_asymm falls), if_neg (ne_of_lt falls), runs]
    exact ⟨rfl, rfl⟩
  · obtain ⟨timer, runs⟩ := Option.isSome_iff_exists.mp runs
    rw [if_neg (lt_asymm falls), if_neg (ne_of_lt falls), runs, target]
    exact ⟨by rfl, rfl⟩

/-! ## Channel 3 (R21, R26) -/

theorem temperature_acts (params : s.loader.params = some p) (q : Port) : temperatureSampleActs p s (handed 3 q s) := by
  have chan := handed_chan (s := s) 3 q
  have validity := handed_valid (s := s) 3 q
  unfold temperatureSampleActs
  rw [chan, validity]
  cases valid : (s.withPort q).chanValid 3 with
  | false =>
    have stays : handed 3 q s = finish s (s.withPort q) := by rw [handed, valid]; rfl
    rw [stays]
    exact ⟨fun _ => handed_changes (changesOnly_refl [.port] _) rfl (by decide) (by decide), fun h => (nomatch h)⟩
  | true =>
    have taken : handed 3 q s = finish s (temperatureSample (s.withPort q)) := by rw [handed, valid]; rfl
    have frame := temperatureSample_frame (s := s.withPort q)
    rw [taken]
    refine ⟨fun h => (nomatch h), fun _ => ⟨?_, handed_changes frame (frame .slot (by decide)) (by decide) (by decide)⟩⟩
    have follows := recompute_follows (s := s.withPort q) params
      { s.capability with temp := min ((s.withPort q).chan 3) 4000 }
    exact follows.congr (finish_capability s) (finish_staging s)

/-! ## Channel 4 (R1 to R4) -/

theorem level_acts (params : s.loader.params = some p) (q : Port) :
    levelFollows p s (handed 4 q s) ∧ changesOnly [.demand, .port, .lport, .queue] s (handed 4 q s) := by
  have frame := judgeLevel_frame (s := s.withPort q)
  have judged : handed 4 q s = finish s (judgeLevel (s.withPort q)) := rfl
  rw [judged]
  refine ⟨?_, handed_changes frame (frame .slot (by decide)) (by decide) (by decide)⟩
  refine levelFollows_of_judged (g := s.withPort q) (l := []) params ⟨rfl, rfl⟩ rfl rfl rfl ?_ ?_ ?_ (finish_logged s)
  · rw [finish_demand]
  · refine qualifyingLevels_congr ?_ ?_
    · rw [finish_ident]; exact frame .ident (by decide)
    · rw [finish_roster, frame .roster (by decide)]
  · rw [finish_channels, judgeLevel_offPort.channels]

/-! ## Channel 2 (R28, R30, R115, R154) -/

theorem divertQuality_sequencer (params : s.loader.params = some p) :
    (divertQuality s).sequencer =
      { s.sequencer with
        quality :=
          if s.sequencer.train = .divert then timerWhile (s.chan 2 ≤ p.kOk) s.time p.tQual s.sequencer.quality
          else s.sequencer.quality } := by
  simp only [divertQuality, params]
  split
  · rfl
  · rfl

theorem qualitySample_of_running (params : s.loader.params = some p) (running : s.sequencer.train = .running) :
    qualitySample s = compareRaw { s with capability := { s.capability with qualitySub := qualityClass p (s.chan 2) } } := by
  simp only [qualitySample, params]
  exact if_pos running

theorem qualitySample_of_other (other : s.sequencer.train ≠ .running) : qualitySample s = s := by
  unfold qualitySample
  split
  · rfl
  · exact if_neg other

/-- The blocks of a conductivity sample, one operation after another. -/
theorem conductivity_taken (params : s.loader.params = some p) :
    let t := judgeQualityTrip (divertQuality (qualitySample s))
    t.protection =
        { s.protection with
          qualityTrip := timerWhile (s.sequencer.train = .running ∧ p.kTrip ≤ s.chan 2) s.time p.tQt
            s.protection.qualityTrip } ∧
      t.sequencer =
        { s.sequencer with
          quality :=
            if s.sequencer.train = .divert then timerWhile (s.chan 2 ≤ p.kOk) s.time p.tQual s.sequencer.quality
            else s.sequencer.quality } ∧
      t.capability = (qualitySample s).capability ∧ t.staging = (qualitySample s).staging ∧
      t.trim = (qualitySample s).trim ∧
      changesOnly [.capability, .staging, .sequencer, .trim, .protection, .port] s t := by
  have first := qualitySample_frame (s := s)
  have second := divertQuality_frame_sequencer (s := qualitySample s)
  have third := judgeQualityTrip_frame (s := divertQuality (qualitySample s))
  have params₁ : (qualitySample s).loader.params = some p := by rw [first .loader (by decide)]; exact params
  have params₂ : (divertQuality (qualitySample s)).loader.params = some p := by
    rw [second .loader (by decide)]; exact params₁
  have chan : (qualitySample s).chan = s.chan := chan_congr (by rw [first .port (by decide)])
  have chan₂ : (divertQuality (qualitySample s)).chan = (qualitySample s).chan := chan_congr (by rw [second .port (by decide)])
  have train : (divertQuality (qualitySample s)).sequencer.train = s.sequencer.train := by
    rw [divertQuality_sequencer params₁]
    show (qualitySample s).sequencer.train = _
    rw [first .sequencer (by decide)]
  refine ⟨?_, ?_, ?_, ?_, ?_, ?_⟩
  · rw [judgeQualityTrip_protection params₂, chan₂, chan, train, second .time (by decide), first .time (by decide),
      second .protection (by decide), first .protection (by decide)]
  · rw [third .sequencer (by decide), divertQuality_sequencer params₁, chan, first .time (by decide),
      first .sequencer (by decide)]
  · rw [third .capability (by decide), second .capability (by decide)]
  · rw [third .staging (by decide), second .staging (by decide)]
  · rw [third .trim (by decide), second .trim (by decide)]
  · exact ((first.mono (by decide)).trans (second.mono (by decide))).trans (third.mono (by decide))

theorem conductivity_acts (params : s.loader.params = some p) (q : Port) : conductivitySampleActs p s (handed 2 q s) := by
  have chan := handed_chan (s := s) 2 q
  have validity := handed_valid (s := s) 2 q
  unfold conductivitySampleActs
  dsimp only
  rw [chan, validity]
  cases valid : (s.withPort q).chanValid 2 with
  | false =>
    have stops : handed 2 q s = finish s (stopQuality (s.withPort q)) := by rw [handed, valid]; rfl
    have frame : changesOnly [.sequencer] (s.withPort q) (stopQuality (s.withPort q)) := sequencer_frame _
    rw [stops, finish_sequencer]
    exact ⟨fun _ => ⟨rfl, handed_changes frame rfl (by decide) (by decide)⟩, fun h => (nomatch h)⟩
  | true =>
    have taken : handed 2 q s = finish s (judgeQualityTrip (divertQuality (qualitySample (s.withPort q)))) := by
      rw [handed, valid]; rfl
    obtain ⟨protection, sequencer, capability, staging, trim, frame⟩ :=
      conductivity_taken (s := s.withPort q) params
    rw [taken, finish_protection, finish_sequencer, finish_capability, finish_staging, finish_trim]
    refine ⟨fun h => (nomatch h), fun _ => ⟨?_, protection, sequencer, fun running => ?_, fun other => ?_⟩⟩
    · exact handed_changes frame (frame .slot (by decide)) (fun _ => id) (by decide)
    · have follows := compareRaw_follows (s := s.withPort q) params (qualityClass p ((s.withPort q).chan 2))
        s.capability.pressureSub
      have sample := qualitySample_of_running (s := s.withPort q) params running
      exact follows.congr ((finish_capability s).trans (capability.trans (congrArg State.capability sample)))
        ((finish_staging s).trans (staging.trans (congrArg State.staging sample)))
    · have sample := qualitySample_of_other (s := s.withPort q) other
      exact ⟨capability.trans ((congrArg State.capability sample).trans rfl), staging.trans ((congrArg State.staging sample).trans rfl),
        trim.trans ((congrArg State.trim sample).trans rfl)⟩

/-! ## A cause that arrives at a sample (R148, R149) -/

/-- The trip of a train that works goes by the latches, whichever of its states it stands in (R128). -/
theorem afterTrip_of_working (latches : u.protection.latches = s.protection.latches) (mark : u.sequencer.conflict = s.sequencer.conflict)
    (train : u.sequencer.train = s.sequencer.train ∨ (s.sequencer.train = .pressurize ∧ u.sequencer.train = .divert) ∨
      (s.sequencer.train = .unload ∧ u.sequencer.train = .flush)) : u.afterTrip k = s.afterTrip k := by
  unfold State.afterTrip
  rw [latches, mark]
  rcases train with same | ⟨was, now⟩ | ⟨was, now⟩
  · rw [same]
  · rw [was, now]
  · rw [was, now]

/-- A cause that arrives in a state of the taking, as the end of the taking shows it. -/
theorem causeArrives_of_arrive (logged : Logged s u) (ident : u.ident = s.ident)
    (latches : u.protection.latches = s.protection.latches)
    (counts : u.protection.counts = s.protection.counts) (train : u.afterTrip k = s.afterTrip k) :
    causeArrives k s (finish s (arrive k u)) := by
  have own : u.own = s.own := own_congr ident
  refine ⟨?_, ?_, arrive_runPermit s k, fun clear => ⟨?_, ?_⟩⟩
  · rw [finish_protection, arrive_latches, latches]
  · rw [finish_protection, arrive_counts, counts]
  · obtain ⟨more, queue⟩ := arrive_firstRaised (s := u) (k := k) (by rw [latches]; exact clear)
    rw [own] at queue
    have raised : raisedWithin (.trip, s.own, k.code) u (arrive k u) := ⟨[], more, queue⟩
    have all := raised.after logged
    exact all.mono ((arrive_offPort k).logged.time.trans logged.time) (finish_logged s)
  · rw [finish_sequencer, arrive_train (by rw [latches]; exact clear), train]

/-! ## Channel 5 (R29, R30, R114, R153) -/

theorem judgeHighPressure_eq (params : s.loader.params = some p) :
    judgeHighPressure s =
      arriveIf (decide (p.pTrip ≤ s.chan 5)) s.protection.highFlag .highPressure
        { s with protection := { s.protection with highFlag := decide (p.pTrip ≤ s.chan 5) } } := by
  simp only [judgeHighPressure, params]

theorem pressureSample_of_on (params : s.loader.params = some p) (on : s.sequencer.valve.run = true) :
    pressureSample s = compareRaw { s with capability := { s.capability with pressureSub := pressureClass p (s.chan 5) } } := by
  simp only [pressureSample, params]
  exact if_pos on

theorem pressureSample_of_off (off : s.sequencer.valve.run = false) : pressureSample s = s := by
  unfold pressureSample
  split
  · rfl
  · exact if_neg (by rw [off]; exact Bool.false_ne_true)

theorem pressureTest_congr (channels : u.port.channels = s.port.channels) : u.pressureTest p ↔ s.pressureTest p := by
  rw [State.pressureTest, State.pressureTest, chan_congr channels, chanValid_congr channels]

theorem pressureReached_congr (channels : u.port.channels = s.port.channels) (time : u.time = s.time) (w : Sequencer) :
    u.pressureReached p w = s.pressureReached p w := by
  rw [State.pressureReached, State.pressureReached, chan_congr channels, chanValid_congr channels, time]

/-- What the PRESSURIZE test leaves, passed or not: the train in DIVERT with its record, or all as it was. -/
theorem pressurizeTest_spec (params : s.loader.params = some p)
    (valve : s.sequencer.train = .pressurize → s.sequencer.valve = valveOf .pressurize) :
    changesOnly [.sequencer, .port, .lport, .queue] s (pressurizeTest s) ∧
      (s.sequencer.train = .pressurize ∧ s.pressureTest p →
        (pressurizeTest s).sequencer = s.pressureReached p s.sequencer ∧
          Records [(.stateChange, s.own, (pressurizeTest s).ownCode * 16 + 3)] s (pressurizeTest s)) ∧
      (¬(s.sequencer.train = .pressurize ∧ s.pressureTest p) → pressurizeTest s = s) := by
  by_cases passes : s.sequencer.train = .pressurize ∧ s.pressureTest p
  · obtain ⟨train, test⟩ := passes
    obtain ⟨frame, sequencer, records⟩ := pressurizeTest_of_holds params train test (valve train)
    have code : (pressurizeTest s).ownCode = s.ownCode := by
      rw [State.ownCode, State.ownCode, sequencer, train]
      rfl
    exact ⟨frame, fun _ => ⟨sequencer, by rw [code]; exact records⟩, fun fails => absurd ⟨train, test⟩ fails⟩
  · have same := pressurizeTest_of_fails params passes
    exact ⟨by rw [same]; exact changesOnly_refl _ _, fun k => absurd k passes, fun _ => same⟩

/-- The state of a pressure sample before HIGH_PRESSURE is judged. -/
def pressureTaken (s : State) : State := pressurizeTest (pressureSample s)

structure PressureTaken (p : Params) (s t : State) : Prop where
  frame : changesOnly [.capability, .staging, .sequencer, .trim, .port, .lport, .queue] s t
  step : OffPort s t
  passes : s.sequencer.train = .pressurize ∧ s.pressureTest p →
    t.sequencer = s.pressureReached p s.sequencer ∧ Records [(.stateChange, s.own, t.ownCode * 16 + 3)] s t
  fails : ¬(s.sequencer.train = .pressurize ∧ s.pressureTest p) → t.sequencer = s.sequencer ∧ t.queue = s.queue
  follows : s.sequencer.valve.run = true →
    classFollows p s.capability.qualitySub (pressureClass p (s.chan 5)) s t
  off : s.sequencer.valve.run = false → t.capability = s.capability ∧ t.staging = s.staging ∧ t.trim = s.trim

theorem pressureTaken_spec (params : s.loader.params = some p)
    (valve : s.sequencer.train = .pressurize → s.sequencer.valve = valveOf .pressurize) :
    PressureTaken p s (pressureTaken s) := by
  have first := pressureSample_frame (s := s)
  have sequencer := first .sequencer (by decide)
  have channels : (pressureSample s).port.channels = s.port.channels := by rw [first .port (by decide)]
  have time : (pressureSample s).time = s.time := first .time (by decide)
  have own : (pressureSample s).own = s.own := own_congr (first .ident (by decide))
  have test : (pressureSample s).pressureTest p ↔ s.pressureTest p := pressureTest_congr channels
  have silent : Records [] s (pressureSample s) := .of_frame first (by decide) (by decide)
  obtain ⟨second, passes, fails⟩ := pressurizeTest_spec (s := pressureSample s) (p := p)
    (by rw [first .loader (by decide)]; exact params) (by rw [sequencer]; exact valve)
  rw [sequencer, test] at passes fails
  rw [pressureReached_congr channels time, own] at passes
  refine ⟨(first.mono (by decide)).trans (second.mono (by decide)), pressureSample_offPort.trans pressurizeTest_offPort,
    fun k => ⟨(passes k).1, silent.trans (passes k).2⟩, fun k => ?_, fun on => ?_, fun off => ?_⟩
  · have same : pressureTaken s = pressureSample s := fails k
    rw [same]
    exact ⟨sequencer, first .queue (by decide)⟩
  · have follows := compareRaw_follows params s.capability.qualitySub (pressureClass p (s.chan 5))
    have sample := pressureSample_of_on params on
    exact follows.congr ((second .capability (by decide)).trans (congrArg State.capability sample))
      ((second .staging (by decide)).trans (congrArg State.staging sample))
  · have sample := pressureSample_of_off off
    exact ⟨(second .capability (by decide)).trans (congrArg State.capability sample),
      (second .staging (by decide)).trans (congrArg State.staging sample),
      (second .trim (by decide)).trans (congrArg State.trim sample)⟩

end Sys2Proof.Machine
end

section
/-! The samples of channels 5 and 6, whose causes may arrive: HIGH_PRESSURE and DRIVE_FAULT (R151, R153). -/

namespace Sys2Proof.Machine

open Sys2Proof

variable {s t u : State} {p : Params} {q : Port} {k : Cause}

/-- The valve word is that of the train state, or the run command is off in UNLOAD. -/
def State.valveFits (s : State) : Prop :=
  s.sequencer.valve = valveOf s.sequencer.train ∨ s.sequencer.train = .unload ∧ s.sequencer.valve.run = false

theorem State.valveFits.valve (h : s.valveFits) (other : s.sequencer.train ≠ .unload) :
    s.sequencer.valve = valveOf s.sequencer.train := h.resolve_right fun k => other k.1

theorem State.valveFits.pressurize (h : s.valveFits) (train : s.sequencer.train = .pressurize) :
    s.sequencer.valve = valveOf .pressurize := train ▸ h.valve (by rw [train]; decide)

/-! ## Channel 5 -/

/-- The state whose high-pressure condition has been judged, before a cause arrives. -/
def highJudged (p : Params) (s : State) : State :=
  { s with protection := { s.protection with highFlag := decide (p.pTrip ≤ s.chan 5) } }

theorem highJudged_offPort : OffPort s (highJudged p s) := OffPort.protection rfl rfl

theorem judgeHighPressure_of_arrival (params : s.loader.params = some p) (high : p.pTrip ≤ s.chan 5)
    (before : s.protection.highFlag = false) : judgeHighPressure s = arrive .highPressure (highJudged p s) := by
  rw [judgeHighPressure_eq params, arriveIf]
  exact if_pos (by rw [before, decide_eq_true high]; rfl)

theorem judgeHighPressure_of_none (params : s.loader.params = some p)
    (h : ¬(p.pTrip ≤ s.chan 5 ∧ s.protection.highFlag = false)) : judgeHighPressure s = highJudged p s := by
  rw [judgeHighPressure_eq params, arriveIf]
  refine if_neg fun k => h ?_
  simpa using k

theorem pressure_acts (params : s.loader.params = some p) (fits : s.valveFits) (q : Port) :
    pressureSampleActs p s (handed 5 q s) := by
  have chan := handed_chan (s := s) 5 q
  have validity := handed_valid (s := s) 5 q
  have test : (handed 5 q s).pressureTest p ↔ (s.withPort q).pressureTest p := pressureTest_congr (handed_channels 5 q)
  unfold pressureSampleActs
  dsimp only
  rw [chan, validity, test]
  cases valid : (s.withPort q).chanValid 5 with
  | false =>
    have stays : handed 5 q s = finish s (s.withPort q) := by rw [handed, valid]; rfl
    rw [stays]
    exact ⟨fun _ => handed_changes (changesOnly_refl [.port] _) rfl (by decide) (by decide), fun h => (nomatch h)⟩
  | true =>
    obtain ⟨frame, step, passes, fails, follows, off⟩ :=
      pressureTaken_spec (s := s.withPort q) params fun train => fits.pressurize train
    have taken : handed 5 q s = finish s (judgeHighPressure (pressureTaken (s.withPort q))) := by rw [handed, valid]; rfl
    have channels : (pressureTaken (s.withPort q)).port.channels = (s.withPort q).port.channels := step.channels
    generalize pressureTaken (s.withPort q) = g at *
    have logged : Logged s g := (Logged.of_eq rfl rfl rfl : Logged s (s.withPort q)).trans step.logged
    have ident : g.ident = s.ident := frame .ident (by decide)
    have protection : g.protection = s.protection := frame .protection (by decide)
    have value : g.chan = (s.withPort q).chan := chan_congr channels
    have gparams : g.loader.params = some p := by rw [frame .loader (by decide)]; exact params
    rw [taken, ← value]
    refine ⟨fun h => (nomatch h), fun _ => ⟨?_, fun high before => ?_, fun none => ?_⟩⟩
    · rw [finish_protection, judgeHighPressure_eq gparams, (arriveIf_flags _ _ _).2.1]
    · rw [judgeHighPressure_of_arrival gparams high (by rw [protection]; exact before)]
      have latches : g.protection.latches = s.protection.latches := by rw [protection]
      have counts : g.protection.counts = s.protection.counts := by rw [protection]
      refine causeArrives_of_arrive (logged.trans highJudged_offPort.logged) ident latches counts
        (afterTrip_of_working latches step.mark ?_)
      show g.sequencer.train = s.sequencer.train ∨ _
      by_cases moves : (s.withPort q).sequencer.train = .pressurize ∧ (s.withPort q).pressureTest p
      · exact .inr (.inl ⟨moves.1, congrArg Sequencer.train (passes moves).1⟩)
      · exact .inl (congrArg Sequencer.train (fails moves).1)
    · have judged := judgeHighPressure_of_none gparams (by rw [protection]; exact none)
      rw [judged, finish_protection, finish_sequencer, finish_queue, finish_capability, finish_staging, finish_trim]
      have ended : (finish s (highJudged p g)).ownCode = g.ownCode := by rw [State.ownCode, finish_sequencer]; rfl
      have kept : (finish s (highJudged p g)).port.channels = (s.withPort q).port.channels :=
        (finish_channels s).trans channels
      have time : (finish s (highJudged p g)).time = (s.withPort q).time := (finish_time s).trans logged.time
      refine ⟨?_, ?_, fun k => ?_, fun k => fails k, fun on => ?_, fun o => off o⟩
      · show ({ g.protection with highFlag := _ } : Protection) = _
        rw [protection]
      · have all : changesOnly [.capability, .staging, .sequencer, .trim, .protection, .port, .lport, .queue] (s.withPort q)
            (highJudged p g) := (frame.mono (by decide)).trans ((protection_frame _).mono (by decide))
        exact handed_changes all (all .slot (by decide)) (fun _ => id) (by decide)
      · obtain ⟨sequencer, records⟩ := passes k
        rw [pressureReached_congr kept time, ended]
        exact ⟨sequencer, records.queue.trans (raiseAll_queue_congr _ rfl rfl)⟩
      · have class_ := follows on
        rw [← value] at class_
        exact class_.congr (finish_capability s) (finish_staging s)

/-! ## Channel 6 -/

/-- The state whose drive fault condition has been judged, before a cause arrives. -/
def driveJudged (s : State) : State := { s with protection := { s.protection with driveFlag := s.driveFault } }

theorem judgeDriveFault_of_arrival (fault : s.driveFault = true) (before : s.protection.driveFlag = false) :
    judgeDriveFault s = arrive .driveFault (driveJudged s) := by
  rw [judgeDriveFault, arriveIf]
  exact if_pos (by rw [before, fault]; rfl)

theorem judgeDriveFault_of_none (h : ¬(s.driveFault = true ∧ s.protection.driveFlag = false)) :
    judgeDriveFault s = driveJudged s := by
  rw [judgeDriveFault, arriveIf]
  refine if_neg fun k => h ?_
  simpa using k

theorem unloadTest_of_moving (h : ¬(s.sequencer.train = .unload ∧ s.sequencer.valve.run = false ∧ s.driveRests = true)) :
    unloadTest s = s := by
  refine if_neg fun k => h ?_
  obtain ⟨train, off, valid, rests⟩ := k
  exact ⟨train, off, driveRests_iff.mpr ⟨valid, rests⟩⟩

theorem unloadTest_of_rest (train : s.sequencer.train = .unload) (off : s.sequencer.valve.run = false)
    (rests : s.driveRests = true) : unloadTest s = unloadEnded s := by
  rw [unloadTest_eq train off, if_pos rests]

theorem unloadEnded_train : (unloadEnded s).sequencer.train = .flush := moveTo_train .aborted .flush

theorem unloadEnded_offPort : OffPort s (unloadEnded s) :=
  (moveTo_offPort _ _).after (OffPort.ite (release_offPort _) (OffPort.refl s))

/-- A staged stop that reaches FLUSH gives its slot up COMPLETED. -/
theorem unloadEnded_gives {kind : Kind} {hold : Timer} (train : s.sequencer.train = .unload)
    (staged : s.sequencer.staged = true) (clear : s.sequencer.conflict = false) (view : s.slot.view = .ownHeld kind hold) :
    givesSlotUp .completed kind s (unloadEnded s) := by
  have released := release_gives .completed view clear
  have kept : (release .completed s).sequencer = s.sequencer := release_train .completed
  have ended : unloadEnded s = moveTo .aborted .flush (release .completed s) := by rw [unloadEnded, if_pos staged]
  have same : leaving .aborted .flush (release .completed s) = release .completed s :=
    leaving_of_no_claim (by rw [kept, train]; decide) (by rw [kept, train]; decide)
  have claims := moveTo_claims same
  rw [ended]
  exact released.congr claims.slot (by rw [claims.line])

theorem unloadTest_protection :
    (unloadTest s).protection.latches = s.protection.latches ∧ (unloadTest s).protection.counts = s.protection.counts ∧
      (unloadTest s).protection.driveFlag = s.protection.driveFlag := by
  have moves : OnlyMoves s (unloadTest s) := unloadTest_onlyMoves
  rw [moves.protection]
  exact ⟨rfl, rfl, rfl⟩

/-- FLUSH entered at a sample of the drive at rest, as the end of the taking shows it. -/
theorem driveJudged_unloadEnded (train : s.sequencer.train = .unload) :
    (finish u (driveJudged (unloadEnded s))).sequencer.train = .flush ∧
      raisedWithin (.stateChange, s.own, (finish u (driveJudged (unloadEnded s))).ownCode * 16 + 5) s
        (finish u (driveJudged (unloadEnded s))) := by
  have records := unloadEnded_records train
  have flush := unloadEnded_train (s := s)
  have mark := (unloadEnded_offPort (s := s)).mark
  generalize unloadEnded s = g at *
  have there : (finish u (driveJudged g)).sequencer.train = .flush := by rw [finish_sequencer]; exact flush
  have code : (finish u (driveJudged g)).ownCode = s.codeIn .flush := by
    rw [State.ownCode, there, State.codeIn, ← mark, finish_sequencer]
    rfl
  rw [code]
  have judged : Logged g (driveJudged g) := Logged.of_eq rfl rfl rfl
  exact ⟨there, raisedWithin_of_logged (Logged.of_eq rfl rfl rfl : Logged s s) records (judged.trans (finish_logged u))⟩

/-- The taking of a drive sample, after the end of the load. -/
theorem drive_handed (ended : s.loadEnded = true) (valid : (s.withPort q).chanValid 6 = true) :
    handed 6 q s = finish s (judgeDriveFault (unloadTest (s.withPort q))) := by
  rw [handed, valid]
  show finish s (if s.loadEnded then _ else _) = _
  rw [if_pos ended]

theorem drive_arrives (fits : (unloadTest u).driveFault = true) (before : u.protection.driveFlag = false)
    (logged : Logged s u) (ident : u.ident = s.ident) (protection : u.protection = s.protection)
    (sequencer : u.sequencer = s.sequencer) : causeArrives .driveFault s (finish s (judgeDriveFault (unloadTest u))) := by
  obtain ⟨latches, counts, flag⟩ := unloadTest_protection (s := u)
  have step : OffPort u (unloadTest u) := unloadTest_offPort
  have train : (unloadTest u).sequencer.train = s.sequencer.train ∨
      (s.sequencer.train = .unload ∧ (unloadTest u).sequencer.train = .flush) := by
    rw [← sequencer]
    by_cases rests : u.sequencer.train = .unload ∧ u.sequencer.valve.run = false ∧ u.driveRests = true
    · obtain ⟨train, off, rests⟩ := rests
      exact .inr ⟨train, by rw [unloadTest_of_rest train off rests, unloadEnded_train]⟩
    · exact .inl (by rw [unloadTest_of_moving rests])
  rw [judgeDriveFault_of_arrival fits (flag.trans before)]
  rw [protection] at latches counts
  have mark : (unloadTest u).sequencer.conflict = s.sequencer.conflict := by rw [step.mark, sequencer]
  have ident' : (unloadTest u).ident = s.ident := (step.frame .ident (by decide)).trans ident
  have logged' := logged.trans step.logged
  generalize unloadTest u = g at *
  have judged : Logged g (driveJudged g) := Logged.of_eq rfl rfl rfl
  exact causeArrives_of_arrive (u := driveJudged g) (logged'.trans judged) ident' latches counts
    (afterTrip_of_working (u := driveJudged g) latches mark (train.elim .inl fun k => .inr (.inr k)))

theorem drive_acts (ended : s.loadEnded = true) (valid : (s.withPort q).chanValid 6 = true) :
    driveSampleActs s (handed 6 q s) := by
  have chan := handed_chan (s := s) 6 q
  have step : OffPort (s.withPort q) (unloadTest (s.withPort q)) := unloadTest_offPort
  have running : (handed 6 q s).driveRunning = (s.withPort q).driveRunning := by rw [State.driveRunning, chan]; rfl
  have fault : (handed 6 q s).driveFault = (unloadTest (s.withPort q)).driveFault := by
    rw [State.driveFault, State.driveFault, chan, chan_congr step.channels]
  have plain : Logged s (s.withPort q) := Logged.of_eq rfl rfl rfl
  obtain ⟨latches, counts, flag⟩ := unloadTest_protection (s := s.withPort q)
  unfold driveSampleActs
  dsimp only
  rw [running, fault, drive_handed ended valid]
  refine ⟨?_, fun now before => drive_arrives now before plain rfl rfl rfl, fun none => ?_⟩
  · rw [finish_protection, judgeDriveFault, (arriveIf_flags _ _ _).1]
  · rw [judgeDriveFault_of_none (fun k => none ⟨k.1, flag.symm.trans k.2⟩)]
    refine ⟨?_, ?_, fun rests => ?_, fun moves => ?_⟩
    · rw [finish_protection]; exact latches
    · rw [finish_protection]; exact counts
    · obtain ⟨train, off, still⟩ := rests
      rw [unloadTest_of_rest (s := s.withPort q) train off (driveRests_iff.mpr ⟨valid, still⟩)]
      obtain ⟨flush, raised⟩ := driveJudged_unloadEnded (s := s.withPort q) (u := s) train
      refine ⟨flush, raised.after plain, fun staged clear kind hold view => ?_⟩
      have gives := (unloadEnded_gives (s := s.withPort q) train staged clear view).rebase (withPort_frame q) (by decide)
        (by decide) (by decide) (by decide)
      generalize unloadEnded (s.withPort q) = g at *
      exact (gives.congr (u := driveJudged g) rfl rfl).finish
    · rw [unloadTest_of_moving (s := s.withPort q) fun k => moves ⟨k.1, k.2.1, (driveRests_iff.mp k.2.2).2⟩]
      have frame : changesOnly [.protection] (s.withPort q) (driveJudged (s.withPort q)) := protection_frame _
      exact handed_changes frame rfl (by decide) (by decide)

end Sys2Proof.Machine
end

section
/-! A sample of channel 1 in Flow Trim (R136 to R145): the update, the watches and the cap, each said once, before the
train is looked at. -/

namespace Sys2Proof.Machine

open Sys2Proof

variable {s t u : State} {p : Params} {q : Port} {target : Nat}

/-! ## The update (R136 to R140) -/

theorem rampToward_eq (target limit q : Nat) :
    (rampToward target limit q : Int) = clampInt ((q : Int) - limit) ((q : Int) + limit) target := by
  unfold rampToward clampInt absDiff
  split_ifs <;> omega

theorem rampedFlow_eq (p : Params) (target : Nat) :
    s.rampedFlow p target = (rampToward target (p.rQ * trimDelta s / 1024) s.trim.qEff : Int) :=
  (rampToward_eq ..).symm

/-- The pressure hold as channel 5 stands (R139; log 46). -/
theorem judgeHold_eq (p : Params) (s : State) :
    judgeHold p s =
      if s.chanValid 5 = false then .channelInvalid else if p.pHold ≤ s.chan 5 then .atPressure else .clear := by
  unfold judgeHold
  cases s.chanValid 5 <;> rfl

/-- S after the update: clamped between two speeds, and so not negative. -/
theorem clampSpeed_toNat (low high : Nat) (x : Int) : ((clampInt low high x).toNat : Int) = clampInt low high x := by
  unfold clampInt
  split_ifs <;> omega

/-- One trim update: what it makes of Flow Trim, and its record. -/
structure TrimUpdated (p : Params) (target : Nat) (s t : State) : Prop where
  flow : (t.trim.qEff : Int) = s.rampedFlow p target
  last : t.trim.last = some s.time
  hold : t.trim.hold = judgeHold p s
  mode : t.trim.mode = s.trim.mode
  speed : (t.trim.s : Int) = clampInt p.sMin p.sMax
    (s.trim.s + if judgeHold p s ≠ .clear ∧ 0 < speedStep p (s.rampedFlow p target - s.chan 1) s.trimTicks then 0
      else speedStep p (s.rampedFlow p target - s.chan 1) s.trimTicks)
  watches : t.trim.settle = s.trim.settle ∧ t.trim.settled = s.trim.settled ∧ t.trim.sat = s.trim.sat
  records : Records
    (if judgeHold p s ≠ .clear ∧ s.trim.hold = .clear then [(.pressureHold, s.own, (judgeHold p s).code)] else []) s t

theorem setSpeed_trim (v : Nat) : (setSpeed v s).trim = { s.trim with s := v } := by
  unfold setSpeed
  split
  · next same => rw [same]
  · rfl

theorem trimUpdate_updated (p : Params) (target : Nat) : TrimUpdated p target s (trimUpdate p target s) := by
  have trim : (trimUpdate p target s).trim =
      { s.trim with
        qEff := rampToward target (p.rQ * trimDelta s / 1024) s.trim.qEff, last := some s.time, hold := judgeHold p s
        s := (clampInt p.sMin p.sMax (s.trim.s +
          if judgeHold p s ≠ .clear ∧ 0 < speedStep p (updateError p target s) (trimDelta s) then 0
          else speedStep p (updateError p target s) (trimDelta s))).toNat } := by
    unfold trimUpdate
    dsimp only
    rw [setSpeed_trim]
    by_cases raises : judgeHold p s ≠ .clear ∧ s.trim.hold = .clear
    · rw [if_pos raises]
      rfl
    · rw [if_neg raises]
  have error : updateError p target s = s.rampedFlow p target - s.chan 1 := by rw [updateError, rampedFlow_eq]
  refine ⟨by rw [trim, rampedFlow_eq], by rw [trim], by rw [trim], by rw [trim], ?_, by rw [trim]; exact ⟨rfl, rfl, rfl⟩, ?_⟩
  · rw [trim, ← error]
    exact clampSpeed_toNat _ _ _
  · unfold trimUpdate
    dsimp only
    have silent : ∀ {g : State} (v : Nat), Records [] g (setSpeed v g) := fun v =>
      .of_frame (setSpeed_frame v) (by decide) (by decide)
    by_cases raises : judgeHold p s ≠ .clear ∧ s.trim.hold = .clear
    · rw [if_pos raises, if_pos raises]
      have raised : Records [(.pressureHold, s.own, (judgeHold p s).code)] s
          (raiseOwn .pressureHold (judgeHold p s).code
            { s with trim := { s.trim with qEff := rampToward target (p.rQ * trimDelta s / 1024) s.trim.qEff,
                                           last := some s.time, hold := judgeHold p s } }) := ⟨rfl, rfl⟩
      exact (raised.trans (silent _)).cast (List.append_nil _)
    · rw [if_neg raises, if_neg raises]
      have still : Records [] s
          { s with trim := { s.trim with qEff := rampToward target (p.rQ * trimDelta s / 1024) s.trim.qEff,
                                         last := some s.time, hold := judgeHold p s } } := ⟨rfl, rfl⟩
      exact still.trans (silent _)

/-- The update as the end of the taking shows it, with the records that follow. -/
theorem TrimUpdated.acts {more : List (EventKind × Nat × Nat)} {g : State} (h : TrimUpdated p target (s.withPort q) g)
    (channels : t.port.channels = q.channels)
    (trim : t.trim = { g.trim with settle := t.trim.settle, settled := t.trim.settled, sat := t.trim.sat })
    (records : Records more g t) : trimUpdates p target more s t := by
  have chan : t.chan = (s.withPort q).chan := chan_congr channels
  have valid : t.chanValid = (s.withPort q).chanValid := chanValid_congr channels
  unfold trimUpdates
  dsimp only
  rw [valid, chan, ← judgeHold_eq p (s.withPort q)]
  refine ⟨?_, ?_, ?_, ?_, ?_, ?_⟩
  · rw [trim]; exact h.flow
  · rw [trim]; exact h.last
  · rw [trim]; exact h.hold
  · rw [trim]; exact h.mode
  · rw [trim]; exact h.speed
  · exact (h.records.trans records).queue.trans (raiseAll_queue_congr _ rfl rfl)

/-! ## The cap and the watches (R34, R143, R145) -/

theorem setSp_trim (v : Nat) :
    (setSp v s).trim = { s.trim with settle := (setSp v s).trim.settle, settled := (setSp v s).trim.settled } := by
  unfold setSp
  dsimp only
  split
  · split <;> rfl
  · rfl

/-- A recomputation that leaves SP leaves Flow Trim. -/
theorem recompute_trim :
    (recompute s).trim = { s.trim with settle := (recompute s).trim.settle, settled := (recompute s).trim.settled } ∧
      ((recompute s).staging = s.staging → (recompute s).trim = s.trim) := by
  unfold recompute
  split
  · exact ⟨rfl, fun _ => rfl⟩
  · next p _ =>
    dsimp only
    split
    · next falls =>
      refine ⟨?_, fun same => ?_⟩
      · exact setSp_trim _
      · have sp : (capacityChain p s.capability.tcf s.capability.temp s.capability.held s.capability.cap).1 = s.staging.sp :=
          congrArg Staging.sp same
        exact absurd falls.2 (by rw [sp]; exact lt_irrefl _)
    · exact ⟨rfl, fun _ => rfl⟩

/-- The cap cleared in RUNNING, or found clear. -/
structure CapCleared (p : Params) (s t : State) : Prop where
  trim : t.trim = { s.trim with settle := t.trim.settle, settled := t.trim.settled }
  same : t.staging = s.staging → t.trim = s.trim
  clear : s.capability.cap = none → t = s
  set : s.capability.cap.isSome = true → s.sequencer.train = .running →
    t.capability =
        { s.capability with
          cap := none
          qmaxAvail := (capacityChain p s.capability.tcf s.capability.temp s.capability.held none).1
          unfit := (capacityChain p s.capability.tcf s.capability.temp s.capability.held none).2 } ∧
      t.staging =
        { s.staging with
          sp := min s.staging.sp (capacityChain p s.capability.tcf s.capability.temp s.capability.held none).1 }

theorem clearCap_cleared (params : s.loader.params = some p) : CapCleared p s (clearCap s) := by
  cases cap : s.capability.cap with
  | none =>
    have same : clearCap s = s := by simp only [clearCap, cap]
    rw [same]
    exact ⟨rfl, fun _ => rfl, fun _ => rfl, fun h => (by rw [cap] at h; cases h)⟩
  | some n =>
    have clears : clearCap s = recompute { s with capability := { s.capability with cap := none } } := by
      simp only [clearCap, cap]
    obtain ⟨trim, same⟩ := recompute_trim (s := { s with capability := { s.capability with cap := none } })
    obtain ⟨capability, staging⟩ := recompute_follows params { s.capability with cap := none }
    rw [clears]
    refine ⟨trim, same, fun h => (by rw [cap] at h; cases h), fun _ running => ⟨capability, ?_⟩⟩
    rw [staging, if_pos running]

theorem settleWatch_trim (p : Params) (flow : Nat) :
    (settleWatch p flow s).trim =
      { s.trim with
        settle := timerWhile (((s.staging.sp : Int) - flow).natAbs ≤ p.settleBand) s.time p.settleTime s.trim.settle
        settled := if ((s.staging.sp : Int) - flow).natAbs ≤ p.settleBand then s.trim.settled else false } := by
  unfold settleWatch timerWhile
  rw [← absDiff_eq]
  split <;> rfl

theorem saturationWatch_trim (p : Params) (e : Int) :
    (saturationWatch p e s).trim =
      { s.trim with
        sat := timerWhile (s.trim.s = p.sMax ∧ (p.settleBand : Int) < e) s.time p.satTime s.trim.sat } := by
  unfold saturationWatch timerWhile
  split <;> rfl

end Sys2Proof.Machine
end

section
/-! A sample of channel 1 by the train state (R114, R119, R123, R133, R155). -/

namespace Sys2Proof.Machine

open Sys2Proof

variable {s t u : State} {p : Params} {q : Port}

/-! ## The end of every sample of channel 1 -/

theorem judgeInstrument_protection (params : s.loader.params = some p) :
    (judgeInstrument s).protection = { s.protection with instrument := s.instrumentAfter (s.chanValid 1) } := by
  have iff : (s.sequencer.valve.run && !s.chanValid 1) = true ↔ (s.sequencer.valve.run = true ∧ s.chanValid 1 = false) := by
    simp
  simp only [judgeInstrument, params]
  rw [watchTimer_eq iff]
  rfl

theorem instrumentAfter_of_valid : s.instrumentAfter true = none := if_neg fun k => nomatch k.2

theorem instrumentAfter_of_off (off : s.sequencer.valve.run = false) (valid : Bool) : s.instrumentAfter valid = none :=
  if_neg fun k => absurd (off.symm.trans k.1) (by decide)

theorem instrumentAfter_congr (run : u.sequencer.valve.run = s.sequencer.valve.run) (time : u.time = s.time)
    (protection : u.protection = s.protection) (valid : Bool) : u.instrumentAfter valid = s.instrumentAfter valid := by
  rw [State.instrumentAfter, State.instrumentAfter, run, time, protection]

/-- A flow sample up to the judgement of the instrument timer. -/
def flowMoved (valid : Bool) (s : State) : State :=
  if valid then integrate (pressurizeTest (rampArrived (trimSample valid s))) else rampArrived (trimSample valid s)

theorem handed_flow (q : Port) :
    handed 1 q s = finish s (judgeInstrument (flowMoved ((s.withPort q).chanValid 1) (s.withPort q))) := rfl

theorem rampArrived_of_other (other : s.sequencer.train ≠ .unload ∨ s.trim.mode ≠ .rampDown) : rampArrived s = s := by
  unfold rampArrived
  split
  · rfl
  · refine if_neg fun k => ?_
    rcases other with h | h
    · exact h k.1
    · exact h k.2.1

theorem pressurizeTest_of_other (other : s.sequencer.train ≠ .pressurize) : pressurizeTest s = s := by
  unfold pressurizeTest
  split
  · rfl
  · exact if_neg fun k => other k.1

theorem integrate_of_other (other : s.sequencer.train ≠ .running) : integrate s = s := by
  unfold integrate
  split
  · next running _ => exact absurd running other
  · rfl

theorem integrate_of_running {m : Nat} (running : s.sequencer.train = .running) (point : s.sequencer.intPoint = some m) :
    (integrate s).sequencer =
      { s.sequencer with
        totalizer := (s.sequencer.totalizer + (s.sequencer.totRem + s.chan 1 * (s.time - m)) / 3686400) % 2 ^ 32
        totRem := (s.sequencer.totRem + s.chan 1 * (s.time - m)) % 3686400
        intPoint := some s.time } := by
  simp only [integrate, running, point]
  rfl

theorem integrate_of_no_point (point : s.sequencer.intPoint = none) : integrate s = s := by
  unfold integrate
  split
  · next _ some => rw [point] at some; cases some
  · rfl

/-- The state after the instrument timer, at the end of the taking: everything else is as it was before. -/
theorem handed_flow_instrument {g : State} (params : s.loader.params = some p)
    (moved : flowMoved ((s.withPort q).chanValid 1) (s.withPort q) = g)
    (step : OffPort (s.withPort q) g) (run : g.sequencer.valve.run = s.sequencer.valve.run) (protection : g.protection = s.protection) :
    (handed 1 q s).protection = { s.protection with instrument := s.instrumentAfter ((s.withPort q).chanValid 1) } := by
  have gparams : g.loader.params = some p := by rw [step.loader]; exact params
  have valid : g.chanValid = (s.withPort q).chanValid := chanValid_congr step.channels
  rw [handed_flow, moved, finish_protection, judgeInstrument_protection gparams, valid, protection,
    instrumentAfter_congr run step.logged.time protection]

theorem handed_flow_same {g : State} (moved : flowMoved ((s.withPort q).chanValid 1) (s.withPort q) = g) :
    (handed 1 q s).sequencer = g.sequencer ∧ (handed 1 q s).trim = g.trim ∧ (handed 1 q s).capability = g.capability ∧
      (handed 1 q s).staging = g.staging ∧ (handed 1 q s).slot = g.slot ∧ (handed 1 q s).queue = g.queue ∧
      (handed 1 q s).time = g.time := by
  have frame := judgeInstrument_frame (s := g)
  rw [handed_flow, moved, finish_sequencer, finish_trim, finish_capability, finish_staging, finish_slot, finish_queue,
    finish_time]
  exact ⟨frame .sequencer (by decide), frame .trim (by decide), frame .capability (by decide), frame .staging (by decide),
    frame .slot (by decide), frame .queue (by decide), frame .time (by decide)⟩

theorem handed_flow_changes {g : State} {bs cs : List Block} (moved : flowMoved ((s.withPort q).chanValid 1) (s.withPort q) = g)
    (frame : changesOnly bs (s.withPort q) g) (slot : Block.slot ∉ bs) (sub : bs ⊆ cs) (protection : Block.protection ∈ cs)
    (port : Block.port ∈ cs) : changesOnly cs s (handed 1 q s) := by
  have last := judgeInstrument_frame (s := g)
  rw [handed_flow, moved]
  refine handed_changes (bs := cs) ((frame.mono sub).trans (last.mono (by simpa using protection))) ?_ (fun _ => id) port
  rw [last .slot (by decide), frame .slot slot]
  rfl

/-! ## RUNNING (R34, R119, R143, R145) -/

/-- A valid sample in RUNNING, as far as Flow Trim, the cap and SP go. -/
structure RunningTrimmed (p : Params) (s b : State) : Prop where
  updated : ∃ a, TrimUpdated p s.staging.sp s a ∧ Records [] a b ∧
    b.trim = { a.trim with settle := b.trim.settle, settled := b.trim.settled, sat := b.trim.sat }
  sat : b.trim.sat =
    timerWhile (b.trim.s = p.sMax ∧ (p.settleBand : Int) < s.rampedFlow p s.staging.sp - s.chan 1) s.time p.satTime s.trim.sat
  keeps : ¬(b.trim.s + 200 < p.sMax ∧ s.capability.cap.isSome = true) →
    b.capability = s.capability ∧ b.staging = s.staging
  clears : b.trim.s + 200 < p.sMax ∧ s.capability.cap.isSome = true →
    b.capability =
        { s.capability with
          cap := none
          qmaxAvail := (capacityChain p s.capability.tcf s.capability.temp s.capability.held none).1
          unfit := (capacityChain p s.capability.tcf s.capability.temp s.capability.held none).2 } ∧
      b.staging =
        { s.staging with
          sp := min s.staging.sp (capacityChain p s.capability.tcf s.capability.temp s.capability.held none).1 }
  settle : b.staging = s.staging →
    b.trim.settle =
        timerWhile (((s.staging.sp : Int) - s.chan 1).natAbs ≤ p.settleBand) s.time p.settleTime s.trim.settle ∧
      b.trim.settled = if ((s.staging.sp : Int) - s.chan 1).natAbs ≤ p.settleBand then s.trim.settled else false

/-- The state of a sample in RUNNING after the update and the cap, before the watches. -/
def headroom (p : Params) (s : State) : State :=
  if (trimUpdate p s.staging.sp s).trim.s + 200 < p.sMax then clearCap (trimUpdate p s.staging.sp s)
  else trimUpdate p s.staging.sp s

theorem trimSample_of_running (params : s.loader.params = some p) (mode : s.trim.mode = .trimSp) :
    trimSample true s =
      saturationWatch p (updateError p s.staging.sp s) (settleWatch p (s.chan 1) (headroom p s)) := by
  simp only [trimSample, params, mode, if_true]
  rfl

/-- What the update and the cap leave for the watches. -/
structure Headroom (p : Params) (s a c : State) : Prop where
  trim : c.trim = { a.trim with settle := c.trim.settle, settled := c.trim.settled }
  same : c.staging = s.staging → c.trim = a.trim
  keeps : ¬(a.trim.s + 200 < p.sMax ∧ s.capability.cap.isSome = true) → c.capability = s.capability ∧ c.staging = s.staging
  clears : a.trim.s + 200 < p.sMax ∧ s.capability.cap.isSome = true →
    c.capability =
        { s.capability with
          cap := none
          qmaxAvail := (capacityChain p s.capability.tcf s.capability.temp s.capability.held none).1
          unfit := (capacityChain p s.capability.tcf s.capability.temp s.capability.held none).2 } ∧
      c.staging =
        { s.staging with
          sp := min s.staging.sp (capacityChain p s.capability.tcf s.capability.temp s.capability.held none).1 }

theorem headroom_spec (params : s.loader.params = some p) (running : s.sequencer.train = .running) :
    Headroom p s (trimUpdate p s.staging.sp s) (headroom p s) := by
  have frame := trimUpdate_frame (s := s) p s.staging.sp
  have capability := frame .capability (by decide)
  have staging := frame .staging (by decide)
  have sequencer := frame .sequencer (by decide)
  have cleared := clearCap_cleared (s := trimUpdate p s.staging.sp s) (p := p) (by rw [frame .loader (by decide)]; exact params)
  unfold headroom
  generalize trimUpdate p s.staging.sp s = a at *
  obtain ⟨trim, same, clear, set⟩ := cleared
  rw [capability] at clear set
  rw [staging, sequencer] at set
  rw [staging] at same
  by_cases room : a.trim.s + 200 < p.sMax
  · rw [if_pos room]
    refine ⟨trim, same, fun without => ?_, fun both => set both.2 running⟩
    have unset : s.capability.cap = none := by
      by_contra h
      exact without ⟨room, Option.isSome_iff_ne_none.mpr h⟩
    rw [clear unset]
    exact ⟨capability, staging⟩
  · rw [if_neg room]
    exact ⟨rfl, fun _ => rfl, fun _ => ⟨capability, staging⟩, fun both => absurd both.1 room⟩

theorem running_trimmed (params : s.loader.params = some p) (running : s.sequencer.train = .running)
    (mode : s.trim.mode = .trimSp) : RunningTrimmed p s (trimSample true s) := by
  have updated := trimUpdate_updated (s := s) p s.staging.sp
  have room := headroom_spec params running
  have frame : changesOnly [.capability, .staging, .trim] (trimUpdate p s.staging.sp s) (headroom p s) :=
    changesOnly_ite clearCap_frame (changesOnly_refl _ _)
  rw [trimSample_of_running params mode]
  generalize trimUpdate p s.staging.sp s = a at *
  generalize headroom p s = c at *
  obtain ⟨trim, same, keeps, clears⟩ := room
  have time : c.time = s.time := (frame .time (by decide)).trans updated.records.time
  have settled := settleWatch_frame (s := c) p (s.chan 1)
  have saturated := saturationWatch_frame (s := settleWatch p (s.chan 1) c) p (updateError p s.staging.sp s)
  have watched := settled.trans saturated
  have speed : (saturationWatch p (updateError p s.staging.sp s) (settleWatch p (s.chan 1) c)).trim.s = a.trim.s := by
    rw [saturationWatch_trim, settleWatch_trim, trim]
  have staging : (saturationWatch p (updateError p s.staging.sp s) (settleWatch p (s.chan 1) c)).staging = c.staging :=
    watched .staging (by decide)
  have capability : (saturationWatch p (updateError p s.staging.sp s) (settleWatch p (s.chan 1) c)).capability = c.capability :=
    watched .capability (by decide)
  have error : updateError p s.staging.sp s = s.rampedFlow p s.staging.sp - s.chan 1 := by rw [updateError, rampedFlow_eq]
  refine ⟨⟨a, updated, ?_, ?_⟩, ?_, ?_, ?_, fun still => ?_⟩
  · exact .of_frame ((frame.mono (by decide)).trans (watched.mono (by decide)) :
      changesOnly [.capability, .staging, .trim] a _) (by decide) (by decide)
  · rw [saturationWatch_trim, settleWatch_trim, trim]
  · rw [saturationWatch_trim, settleWatch_trim, error, settled .time (by decide), time, trim, updated.watches.2.2]
  · rw [speed, staging, capability]
    exact keeps
  · rw [speed, staging, capability]
    exact clears
  · rw [staging] at still
    rw [saturationWatch_trim, settleWatch_trim, time, still, same still, updated.watches.1, updated.watches.2.1]
    exact ⟨rfl, rfl⟩

theorem running_flow_acts (params : s.loader.params = some p) (running : s.sequencer.train = .running)
    (mode : s.trim.mode = .trimSp) (valid : (s.withPort q).chanValid 1 = true) : runningFlowActs p s (handed 1 q s) := by
  have frame := trimSample_frame (s := s.withPort q) true
  have trimmed := running_trimmed (s := s.withPort q) params running mode
  have step : OffPort (s.withPort q) (trimSample true (s.withPort q)) := trimSample_offPort true
  have train : (trimSample true (s.withPort q)).sequencer = s.sequencer := frame .sequencer (by decide)
  have moved : flowMoved ((s.withPort q).chanValid 1) (s.withPort q) = integrate (trimSample true (s.withPort q)) := by
    have other : rampArrived (trimSample true (s.withPort q)) = trimSample true (s.withPort q) :=
      rampArrived_of_other (.inl (by rw [train, running]; decide))
    have untested : pressurizeTest (trimSample true (s.withPort q)) = trimSample true (s.withPort q) :=
      pressurizeTest_of_other (by rw [train, running]; decide)
    rw [valid, flowMoved, if_pos rfl, other, untested]
  have channels := handed_channels (s := s) 1 q
  have chan := handed_chan (s := s) 1 q
  generalize trimSample true (s.withPort q) = b at *
  have last := integrate_frame (s := b)
  have protection := handed_flow_instrument params moved (step.trans integrate_offPort)
    (by
      have run : (integrate b).sequencer.valve = b.sequencer.valve := by
        unfold integrate
        split <;> rfl
      rw [run, train])
    (by rw [last .protection (by decide), frame .protection (by decide)]; rfl)
  obtain ⟨sequencer, trim, capability, staging, -, queue, time⟩ := handed_flow_same moved
  rw [last .trim (by decide)] at trim
  rw [last .capability (by decide)] at capability
  rw [last .staging (by decide)] at staging
  rw [last .queue (by decide)] at queue
  rw [last .time (by decide)] at time
  rw [valid, instrumentAfter_of_valid] at protection
  have all := handed_flow_changes (cs := [.capability, .staging, .sequencer, .trim, .protection, .port, .lport, .queue]) moved
    ((frame.mono (by decide : _ ⊆ [.capability, .staging, .sequencer, .trim, .port, .lport, .queue])).trans
      (last.mono (by decide))) (by decide) (by decide) (by decide) (by decide)
  obtain ⟨⟨a, updated, silent, watches⟩, sat, keeps, clears, settle⟩ := trimmed
  have value : b.chan 1 = (s.withPort q).chan 1 := by rw [chan_congr step.channels]
  unfold runningFlowActs
  dsimp only
  rw [chan, trim, capability, staging]
  refine ⟨?_, all, fun m point => ?_, fun point => ?_, protection, sat, keeps, clears, settle⟩
  · refine updated.acts channels (by rw [trim]; exact watches) ?_
    exact ⟨time.trans silent.time, queue.trans silent.queue⟩
  · rw [sequencer, integrate_of_running (m := m) (by rw [train]; exact running) (by rw [train]; exact point), train, value,
      step.logged.time]
    rfl
  · rw [sequencer, integrate_of_no_point (by rw [train]; exact point)]
    exact train

theorem trimSample_of_missed (params : s.loader.params = some p) (mode : s.trim.mode = .trimSp) :
    trimSample false s = { s with trim := { s.trim with settle := none, sat := none } } := by
  simp only [trimSample, params, mode, Bool.false_eq_true, if_false]

theorem running_flow_fails (params : s.loader.params = some p) (running : s.sequencer.train = .running)
    (mode : s.trim.mode = .trimSp) (invalid : (s.withPort q).chanValid 1 = false) : runningFlowFails s (handed 1 q s) := by
  have moved : flowMoved ((s.withPort q).chanValid 1) (s.withPort q) =
      { s.withPort q with trim := { s.trim with settle := none, sat := none } } := by
    rw [invalid]
    have other : s.sequencer.train ≠ .unload := by rw [running]; decide
    exact (congrArg rampArrived (trimSample_of_missed (s := s.withPort q) params mode)).trans
      (rampArrived_of_other (.inl other))
  have frame : changesOnly [.trim] (s.withPort q) { s.withPort q with trim := { s.trim with settle := none, sat := none } } :=
    trim_frame _
  have protection := handed_flow_instrument params moved OffPort.trim rfl rfl
  rw [invalid] at protection
  obtain ⟨-, trim, -⟩ := handed_flow_same moved
  exact ⟨trim, protection, handed_flow_changes moved frame (by decide) (by decide) (by decide) (by decide)⟩

end Sys2Proof.Machine
end

section
/-! A sample of channel 1 in the start, in the ramp down and with the run command off (R114, R123, R133, R141), and the
statement on completed transactions. -/

namespace Sys2Proof.Machine

open Sys2Proof

variable {s t u : State} {p : Params} {q : Port}

/-! ## The start (R114, R133) -/

theorem trimSample_of_start (params : s.loader.params = some p) (mode : s.trim.mode = .trimQmin) (valid : Bool) :
    trimSample valid s = if valid then trimUpdate p p.qmin s else s := by
  simp only [trimSample, params, mode]

/-- A train in PRESSURIZE or DIVERT. -/
def Train.pumping (x : Train) : Prop := x = .pressurize ∨ x = .divert

theorem Train.pumping.not_unload {x : Train} (h : x.pumping) : x ≠ .unload := by
  rcases h with rfl | rfl <;> decide

theorem Train.pumping.not_running {x : Train} (h : x.pumping) : x ≠ .running := by
  rcases h with rfl | rfl <;> decide

theorem starting_flow_missed (params : s.loader.params = some p) (start : s.sequencer.train.pumping)
    (mode : s.trim.mode = .trimQmin) (invalid : (s.withPort q).chanValid 1 = false) :
    (handed 1 q s).protection = { s.protection with instrument := s.instrumentAfter false } ∧
      changesOnly [.protection, .port] s (handed 1 q s) := by
  have moved : flowMoved ((s.withPort q).chanValid 1) (s.withPort q) = s.withPort q := by
    rw [invalid]
    exact (congrArg rampArrived (trimSample_of_start (s := s.withPort q) params mode false)).trans
      (rampArrived_of_other (.inl start.not_unload))
  have protection := handed_flow_instrument params moved (OffPort.refl _) rfl rfl
  rw [invalid] at protection
  exact ⟨protection, handed_flow_changes moved (changesOnly_refl [] _) (by decide) (by decide) (by decide) (by decide)⟩

theorem starting_flow_acts (params : s.loader.params = some p) (fits : s.valveFits) (start : s.sequencer.train.pumping)
    (mode : s.trim.mode = .trimQmin) : startingFlowActs p s (handed 1 q s) := by
  have channels := handed_channels (s := s) 1 q
  have validity := handed_valid (s := s) 1 q
  have test : (handed 1 q s).pressureTest p ↔ (s.withPort q).pressureTest p := pressureTest_congr channels
  unfold startingFlowActs
  dsimp only
  rw [validity, test]
  cases valid : (s.withPort q).chanValid 1 with
  | false =>
    obtain ⟨protection, frame⟩ := starting_flow_missed (q := q) params start mode valid
    exact ⟨protection, frame.mono (by decide),
      fun _ => ⟨frame .trim (by decide), frame .sequencer (by decide), frame .queue (by decide)⟩, fun k => (nomatch k)⟩
  | true =>
    have updated := trimUpdate_updated (s := s.withPort q) p p.qmin
    have frame := trimUpdate_frame (s := s.withPort q) p p.qmin
    have step : OffPort (s.withPort q) (trimUpdate p p.qmin (s.withPort q)) := trimUpdate_offPort p p.qmin
    have sample := (trimSample_of_start (s := s.withPort q) params mode true).trans (if_pos rfl)
    have flow : flowMoved true (s.withPort q) = integrate (pressurizeTest (rampArrived (trimSample true (s.withPort q)))) := rfl
    rw [sample] at flow
    generalize trimUpdate p p.qmin (s.withPort q) = a at *
    have sequencer : a.sequencer = s.sequencer := frame .sequencer (by decide)
    have atest : a.pressureTest p ↔ (s.withPort q).pressureTest p := pressureTest_congr step.channels
    have own : a.own = s.own := own_congr (frame .ident (by decide))
    obtain ⟨second, passes, fails⟩ := pressurizeTest_spec (s := a) (p := p)
      (by rw [frame .loader (by decide)]; exact params) (by rw [sequencer]; exact fits.pressurize)
    have tested : OffPort a (pressurizeTest a) := pressurizeTest_offPort
    have train : (pressurizeTest a).sequencer.train ≠ .running ∧
        (pressurizeTest a).sequencer.valve = s.sequencer.valve := by
      by_cases k : a.sequencer.train = .pressurize ∧ a.pressureTest p
      · have there : (a.pressureReached p a.sequencer).train = .divert := rfl
        have word : (a.pressureReached p a.sequencer).valve = a.sequencer.valve := rfl
        rw [(passes k).1, there, word, sequencer]
        exact ⟨by decide, rfl⟩
      · rw [fails k, sequencer]
        exact ⟨start.not_running, rfl⟩
    have moved : flowMoved ((s.withPort q).chanValid 1) (s.withPort q) = pressurizeTest a := by
      rw [valid, flow, rampArrived_of_other (.inl (by rw [sequencer]; exact start.not_unload)), integrate_of_other train.1]
    have protection := handed_flow_instrument params moved (step.trans tested) (by rw [train.2])
      (by rw [second .protection (by decide), frame .protection (by decide)]; rfl)
    rw [valid] at protection
    obtain ⟨sequencer', trim, -, -, -, queue, time⟩ := handed_flow_same moved
    have all := (frame.mono (by decide : _ ⊆ [.sequencer, .trim, .port, .lport, .queue])).trans (second.mono (by decide))
    rw [second .trim (by decide)] at trim
    obtain ⟨settle, settled, sat⟩ := updated.watches
    have ends : ∀ {more}, Records more a (pressurizeTest a) → Records more a (handed 1 q s) := fun records =>
      ⟨time.trans records.time, queue.trans records.queue⟩
    refine ⟨protection, handed_flow_changes moved all (by decide) (by decide) (by decide) (by decide), fun k => (nomatch k),
      fun _ => ⟨⟨?_, ?_, ?_⟩, fun k => ?_, fun k => ?_⟩⟩
    · rw [trim]; exact settle
    · rw [trim]; exact settled
    · rw [trim]; exact sat
    · obtain ⟨reached, records⟩ := passes ⟨by rw [sequencer]; exact k.1, atest.mpr k.2⟩
      have code : (handed 1 q s).ownCode = (pressurizeTest a).ownCode := by rw [State.ownCode, sequencer', State.ownCode]
      have timed : (handed 1 q s).time = a.time := time.trans records.time
      rw [own, ← code] at records
      refine ⟨updated.acts channels (by rw [trim]) (ends records), ?_⟩
      rw [sequencer', reached, sequencer]
      exact (pressureReached_congr (channels.trans step.channels.symm) timed _).symm
    · have same := fails fun h => k ⟨by rw [← sequencer]; exact h.1, atest.mp h.2⟩
      refine ⟨updated.acts channels (by rw [trim]) (ends ?_), by rw [sequencer', same, sequencer]⟩
      rw [same]
      exact .refl a

/-! ## The run command off -/

theorem still_flow_acts (params : s.loader.params = some p) (fits : s.valveFits) (off : s.sequencer.valve.run = false)
    (mode : s.trim.mode = .off) (valid : Bool) (here : (s.withPort q).chanValid 1 = valid) :
    (handed 1 q s).protection = { s.protection with instrument := none } ∧
      changesOnly [.protection, .port] s (handed 1 q s) := by
  have sample : trimSample valid (s.withPort q) = s.withPort q := by
    have params' : (s.withPort q).loader.params = some p := params
    have mode' : (s.withPort q).trim.mode = .off := mode
    simp only [trimSample, params', mode']
  have train : s.sequencer.train ≠ .pressurize ∧ s.sequencer.train ≠ .running := by
    rcases fits with valve | ⟨unload, -⟩
    · constructor <;> intro k <;> rw [valve, k] at off <;> cases off
    · rw [unload]; decide
  have ramp : rampArrived (s.withPort q) = s.withPort q :=
    rampArrived_of_other (.inr (by show s.trim.mode ≠ .rampDown; rw [mode]; decide))
  have moved : flowMoved ((s.withPort q).chanValid 1) (s.withPort q) = s.withPort q := by
    rw [here, flowMoved, sample, ramp, pressurizeTest_of_other (s := s.withPort q) train.1,
      integrate_of_other (s := s.withPort q) train.2, ite_self]
  have protection := handed_flow_instrument params moved (OffPort.refl _) rfl rfl
  rw [instrumentAfter_of_off off] at protection
  exact ⟨protection, handed_flow_changes moved (changesOnly_refl [] _) (by decide) (by decide) (by decide) (by decide)⟩

/-! ## The ramp down (R123, R141) -/

/-- S after a step of the ramp down. -/
def State.rampedSpeed (s : State) (p : Params) : Nat := max p.sStart (s.trim.s - p.rS * s.trimTicks / 1024)

theorem rampStep_trim (p : Params) : (rampStep p s).trim = { s.trim with s := s.rampedSpeed p, last := some s.time } := by
  have speed : (if s.trim.s < p.sStart + p.rS * trimDelta s / 1024 then p.sStart else s.trim.s - p.rS * trimDelta s / 1024) =
      s.rampedSpeed p := by
    show _ = max p.sStart (s.trim.s - p.rS * trimDelta s / 1024)
    generalize p.rS * trimDelta s / 1024 = down
    split <;> omega
  unfold rampStep
  dsimp only
  rw [setSpeed_trim, speed]

theorem trimSample_of_ramp (params : s.loader.params = some p) (mode : s.trim.mode = .rampDown) (valid : Bool) :
    trimSample valid s = rampStep p s := by
  simp only [trimSample, params, mode]

theorem rampStep_offPort (p : Params) : OffPort s (rampStep p s) :=
  OffPort.trans (t := { s with trim := { s.trim with last := some s.time } }) OffPort.trim (setSpeed_offPort _)

/-- A train in UNLOAD or FLUSH has no more to do with a sample of channel 1 than to judge the instrument timer. -/
theorem flowMoved_of_unload {g : State} {valid : Bool} (moved : rampArrived (trimSample valid u) = g)
    (train : g.sequencer.train = .unload ∨ g.sequencer.train = .flush) : flowMoved valid u = g := by
  have other : g.sequencer.train ≠ .pressurize ∧ g.sequencer.train ≠ .running := by
    rcases train with h | h <;> rw [h] <;> decide
  rw [flowMoved, moved, pressurizeTest_of_other other.1, integrate_of_other other.2, ite_self]

/-- With the run command off the instrument timer stands stopped. -/
theorem handed_flow_instrument_off {g : State} (moved : flowMoved ((s.withPort q).chanValid 1) (s.withPort q) = g)
    (params : g.loader.params = some p) (off : g.sequencer.valve.run = false) :
    (handed 1 q s).protection.instrument = none := by
  rw [handed_flow, moved, finish_protection, judgeInstrument_protection params]
  exact instrumentAfter_of_off off _

theorem ramp_flow_acts (params : s.loader.params = some p) (fits : s.valveFits) (unload : s.sequencer.train = .unload)
    (on : s.sequencer.valve.run = true) (mode : s.trim.mode = .rampDown) : rampFlowActs p s (handed 1 q s) := by
  have valve : s.sequencer.valve = valveOf .unload := by
    rcases fits with valve | ⟨-, off⟩
    · rw [valve, unload]
    · exact absurd (on.symm.trans off) (by decide)
  have channels := handed_channels (s := s) 1 q
  have validity := handed_valid (s := s) 1 q
  have trim := rampStep_trim (s := s.withPort q) p
  have frame := rampStep_frame (s := s.withPort q) p
  have step : OffPort (s.withPort q) (rampStep p (s.withPort q)) := rampStep_offPort p
  have sample := trimSample_of_ramp (s := s.withPort q) params mode ((s.withPort q).chanValid 1)
  have rests_iff : ((handed 1 q s).chanValid 6 = true ∧ (handed 1 q s).driveRunning = false) ↔
      (rampStep p (s.withPort q)).driveRests = true := by
    rw [driveRests_iff, validity, State.driveRunning, handed_chan, chanValid_congr step.channels, State.driveRunning,
      chan_congr step.channels]
  generalize rampStep p (s.withPort q) = g at *
  have sequencer : g.sequencer = s.sequencer := frame .sequencer (by decide)
  have arrived := rampArrived_eq (s := g) (by rw [frame .loader (by decide)]; exact params)
    (by rw [sequencer]; exact unload) (by rw [trim]; exact mode)
  have speed : g.trim.s = s.rampedSpeed p := by rw [trim]; rfl
  rw [speed] at arrived
  replace arrived := (congrArg rampArrived sample).trans arrived
  have ended : g.sequencer.train = .unload := by rw [sequencer]; exact unload
  have word : g.sequencer.valve = valveOf .unload := by rw [sequencer]; exact valve
  have gparams : g.loader.params = some p := by rw [frame .loader (by decide)]; exact params
  unfold rampFlowActs
  dsimp only
  rw [validity] at rests_iff ⊢
  refine ⟨fun above => ?_, fun down => ?_⟩
  · rw [if_neg (show s.rampedSpeed p ≠ p.sStart from above)] at arrived
    have moved := flowMoved_of_unload arrived (.inl ended)
    have protection := handed_flow_instrument params moved step (by rw [sequencer])
      (by rw [frame .protection (by decide)]; rfl)
    obtain ⟨sequencer', trim', -⟩ := handed_flow_same moved
    exact ⟨by rw [trim', trim]; rfl, sequencer'.trans sequencer, protection,
      handed_flow_changes moved frame (by decide) (by decide) (by decide) (by decide)⟩
  · rw [if_pos (show s.rampedSpeed p = p.sStart from down)] at arrived
    have stopped := rampStopped_frame (s := g)
    have trimmed : (rampStopped g).trim = (trimStop g).trim := rampStopped_trim (by rw [word]; rfl)
    have halted := rampStopped_sequencer (s := g)
    have loader : (rampStopped g).loader.params = some p := by rw [stopped .loader (by decide)]; exact gparams
    by_cases rests : g.driveRests = true
    · have holds := rests_iff.mpr rests
      rw [if_pos rests] at arrived
      have moved := flowMoved_of_unload arrived (.inr unloadEnded_train)
      obtain ⟨sequencer', trim', -⟩ := handed_flow_same moved
      have flushes := unloadEnded_sequencer (s := rampStopped g) loader (by rw [halted]; exact ended)
      rw [unloadEnded_trim rampStopped_off, trimmed] at trim'
      rw [if_pos holds, if_pos holds, trim', sequencer']
      refine ⟨rfl, rfl, ?_, by rw [flushes], by rw [flushes]; rfl, fun _ staged clear k hold view => ?_, fun k => absurd holds k⟩
      · refine handed_flow_instrument_off (p := p) moved ?_ (by rw [flushes]; rfl)
        rw [unloadEnded_offPort.loader]
        exact loader
      · have before : changesOnly [.capability, .sequencer, .trim, .protection, .port] s (rampStopped g) :=
          (((withPort_frame q).mono (by decide)).trans (frame.mono (by decide))).trans stopped
        have gives := unloadEnded_gives (s := rampStopped g) (by rw [halted]; exact ended)
          (by rw [halted, sequencer]; exact staged) (by rw [halted, sequencer]; exact clear)
          (by rw [before .slot (by decide)]; exact view)
        have rebased := gives.rebase before (by decide) (by decide) (by decide) (by decide)
        have last := judgeInstrument_frame (s := unloadEnded (rampStopped g))
        rw [handed_flow, moved]
        exact (rebased.congr (last .slot (by decide)) (by rw [last .line (by decide)])).finish
    · have moves := fun k => rests (rests_iff.mp k)
      rw [if_neg rests] at arrived
      have moved := flowMoved_of_unload arrived (.inl (by rw [halted]; exact ended))
      obtain ⟨sequencer', trim', -, -, slot, -⟩ := handed_flow_same moved
      rw [trimmed] at trim'
      rw [if_neg moves, if_neg moves, trim', sequencer', halted]
      refine ⟨rfl, rfl, handed_flow_instrument_off moved loader rampStopped_off, ended, by rw [word]; rfl,
        fun k => absurd k moves, fun _ => ⟨?_, by rw [sequencer]⟩⟩
      rw [slot, stopped .slot (by decide), frame .slot (by decide)]
      rfl

/-! ## Every channel's sample -/

theorem flow_acts (params : s.loader.params = some p) (fits : s.valveFits) (q : Port) :
    flowSampleActs p s (handed 1 q s) := by
  have validity := handed_valid (s := s) 1 q
  unfold flowSampleActs
  rw [validity]
  exact ⟨fun running mode => ⟨running_flow_acts params running mode, running_flow_fails params running mode⟩,
    fun start mode => starting_flow_acts params fits start mode,
    fun unload on mode => ramp_flow_acts params fits unload on mode,
    fun off mode => still_flow_acts params fits off mode _ rfl⟩

theorem handed_acts (params : s.loader.params = some p) (ended : s.loadEnded = true) (fits : s.valveFits) (c : Channel) (q : Port)
    (drive : c = 6 → (s.withPort q).chanValid 6 = true) : sampleActs p c s (handed c q s) := by
  match c with
  | 0 => exact suction_acts params q
  | 1 => exact flow_acts params fits q
  | 2 => exact conductivity_acts params q
  | 3 => exact temperature_acts params q
  | 4 => exact level_acts params q
  | 5 => exact pressure_acts params fits q
  | 6 => exact drive_acts ended (drive rfl)
  | 7 => trivial

theorem sampleTaken_handed (n c : Channel) (v : Option Nat) :
    sampleTaken n c v s = handed c (sampledPort n c v s) s := by
  rw [handed, (sampled_chan n c v).2, sampleTaken]

theorem sampleTaken_acts {n c : Channel} {v : Option Nat} (params : s.loader.params = some p) (ended : s.loadEnded = true)
    (fits : s.valveFits) (drive : c = 6 → v.isSome = true) : sampleActs p c s (sampleTaken n c v s) := by
  rw [sampleTaken_handed]
  refine handed_acts params ended fits c _ fun six => ?_
  subst six
  rw [(sampled_chan n 6 v).2, drive rfl]

theorem sampleTaken_drive {n : Channel} {v : Option Nat} (ended : s.loadEnded = true) (some : v.isSome = true) :
    driveSampleActs s (sampleTaken n 6 v s) := by
  rw [sampleTaken_handed]
  exact drive_acts ended (by rw [(sampled_chan n 6 v).2, some])

/-! ## The statement -/

theorem portBytes_of_kind {x : Txn} (flight : s.port.state = .inTransaction x) :
    s.portBytes =
      (match x.kind with
        | .read n => [BitVec.ofNat 8 (128 + n.val)]
        | .valve v =>
          [0, BitVec.ofNat 8
            ((if v.feed then 1 else 0) + (if v.dump then 2 else 0) + (if v.flush then 4 else 0) +
              (if v.run then 8 else 0))]
        | .speed v => [1, BitVec.ofNat 8 (v % 256), BitVec.ofNat 8 (v / 256)]) := by
  rw [portBytes_eq flight]
  cases x.kind with
  | read n => rfl
  | valve v => exact congrArg (fun b => [0, b]) (valveWord_eq v)
  | speed v => exact congrArg (fun l => 1 :: l) (speedBytes_eq v)

/-- A judged word that is no sample of channel 7 is a mismatch of the identity. -/
theorem judgeWord_identity_none {st : PortSettings} {w : Word16} (h : judgeWord st 7 w = none) :
    ∃ id, st.identity = some id ∧ w ≠ id := by
  cases identity : st.identity with
  | none => rw [judgeWord_unidentified identity] at h; cases h
  | some id =>
    rw [judgeWord_identity identity] at h
    refine ⟨id, rfl, fun same => ?_⟩
    rw [if_pos same.symm] at h
    cases h

/-- A value of channels 0 to 5 (R184, R185). -/
theorem scaled_sample {n c : Channel} {st : PortSettings} {w : Word16} {v : Vector Scaling 6} (low : c.val < 6)
    (scaled : st.scaling = some v) (stored : SampleStored n c (judgeWord st c w) s t) :
    ((v[c.val].underCode ≤ w.toNat ∧ w.toNat ≤ v[c.val].overCode) →
        t.chanValid c = true ∧ t.chan c = scaleCode v[c.val] w.toNat) ∧
      (¬(v[c.val].underCode ≤ w.toNat ∧ w.toNat ≤ v[c.val].overCode) →
        t.chanValid c = false ∧ t.chan c = s.chan c) := by
  have judged := judgeWord_scaled (w := w) low scaled
  rw [stored.valid, stored.chan, judged]
  exact ⟨fun within => by rw [if_pos within]; exact ⟨rfl, rfl⟩, fun out => by rw [if_neg out]; exact ⟨rfl, rfl⟩⟩

/-- Settles O60: a priming read, a mismatched identity, and a sample that is stored and handed on by its channel. -/
theorem completedTransactionsStoreAndGoOn : Obligations.CompletedTransactionsStoreAndGoOn := by
  intro x w s
  refine ⟨wordOfBytes_toNat, fun flight => ⟨portBytes_of_kind flight, fun n reads => ⟨_, exec_readComplete flight reads, ?_⟩,
    writeCompleted flight, scanPaceExpiry_of_busy flight⟩, scanPaceExpiry_of_idle⟩
  cases read : s.port.pendRead with
  | none =>
    obtain ⟨frame, errors, pendRead, channels, pointer⟩ := primed (n := n) (st := x.settings) (w := w) read
    refine ⟨frame.mono (by decide), fun _ => ⟨frame, errors, pendRead, channels⟩, fun _ mask => ?_, fun c p h => (nomatch h),
      fun h => (nomatch h), fun c h => (nomatch h)⟩
    rw [pointer]
    exact nextEnabled_nextInScan mask _
  | some c =>
    by_cases mismatch : c = 7 ∧ judgeWord x.settings c w = none
    · obtain ⟨rfl, none⟩ := mismatch
      obtain ⟨id, identity, differs⟩ := judgeWord_identity_none none
      obtain ⟨frame, invalid, value, pendRead, pointer, errors, few⟩ := mismatched (n := n) read none
      refine ⟨frame, fun h => (nomatch h), fun h _ => ?_, fun c p same _ _ _ => ?_, fun six => ?_, fun c same => ?_⟩
      · rcases h with other | free | here
        · exact absurd rfl other
        · rw [identity] at free; cases free
        · exact absurd (Option.some.inj (here.symm.trans identity)) differs
      · obtain rfl := Option.some.inj same
        trivial
      · exact absurd (Option.some.inj six) (by decide)
      · obtain rfl := Option.some.inj same
        refine ⟨fun other => absurd rfl other, fun low => absurd low (by decide), fun _ free => ?_,
          fun _ low => absurd low (by decide), fun six => absurd six (by decide), fun other _ identity' => ⟨fun here => ?_,
          fun _ => ⟨invalid, value, pendRead, pointer, errors, few⟩⟩⟩
        · rw [identity] at free; cases free
        · exact absurd (here.trans (Option.some.inj (identity'.symm.trans identity))) differs
    · have accepted : c = 7 → judgeWord x.settings c w ≠ none := fun seven none => mismatch ⟨seven, none⟩
      have stored := sampleTaken_stored (s := s) n c (judgeWord x.settings c w)
      rw [sample_taken read accepted]
      refine ⟨stored.frame, fun h => (nomatch h), fun _ mask => ?_, fun c' p same params ended fits => ?_,
        fun six _ ended _ => ?_, fun c' same => ?_⟩
      · rw [stored.pointer]
        exact nextEnabled_nextInScan mask _
      · obtain rfl := Option.some.inj same
        exact sampleTaken_acts params ended fits fun six => by subst six; rfl
      · obtain rfl := Option.some.inj six
        exact sampleTaken_drive ended rfl
      · obtain rfl := Option.some.inj same
        refine ⟨fun _ => stored.others, fun low unscaled => ?_, fun seven free => ?_, fun v low scaled => ?_, fun six => ?_,
          fun id seven identity => ?_⟩
        · rw [stored.valid, stored.chan, judgeWord_unscaled low unscaled]
          exact ⟨rfl, rfl⟩
        · subst seven
          rw [stored.valid, stored.chan, judgeWord_unidentified free]
          exact ⟨rfl, rfl⟩
        · obtain ⟨within, out⟩ := scaled_sample low scaled stored
          refine ⟨stored.errors, stored.pendRead, fun fits => ⟨(within fits).1, ?_⟩, out⟩
          rw [(within fits).2]
          exact scaleCode_eq _ _
        · subst six
          rw [stored.valid, stored.chan, judgeWord_drive]
          exact ⟨rfl, rfl⟩
        · subst seven
          have judged := judgeWord_identity (w := w) identity
          refine ⟨fun same => ?_, fun differs => absurd (judged.trans (if_neg (Ne.symm differs))) (accepted rfl)⟩
          have here : judgeWord x.settings 7 w = some w.toNat := judged.trans (if_pos same.symm)
          exact ⟨by rw [stored.valid, here]; rfl, by rw [stored.chan, here]; rfl, stored.errors, stored.pendRead⟩

end Sys2Proof.Machine
end
